-- ==== Sys2Proof/Word.lean ====
section
/-! DEFINITION. The words of the OM-412 (bytes, 16-bit counts, floor masks) and fixed-size tables of records. -/

namespace Sys2Proof

/-- A byte on the riser line, the console link or the configuration memory. -/
abbrev Byte := BitVec 8

/-- A 16-bit count that wraps, as the tick and seconds counters do (R1). -/
abbrev Word16 := BitVec 16

/-- A floor mask of 0-7: bit `f` names floor position `f`. -/
abbrev FloorMask := BitVec 48

/-- A table of exactly `n` records, held as a list so that it evaluates by structural recursion. -/
structure Tab (α : Type) (n : Nat) where
  list : List α
  size : list.length = n
  deriving DecidableEq, Repr

/-- The same record in every place. -/
def Tab.fill {α : Type} (n : Nat) (x : α) : Tab α n := ⟨List.replicate n x, List.length_replicate⟩

/-- The record at place `i`, or `d` outside the table. -/
def Tab.at {α : Type} {n : Nat} (t : Tab α n) (i : Nat) (d : α) : α := t.list.getD i d

/-- The table with the record at place `i` changed. -/
def Tab.upd {α : Type} {n : Nat} (t : Tab α n) (i : Nat) (f : α → α) : Tab α n :=
  ⟨t.list.modify i f, by simp [t.size]⟩

/-- The table with every record changed. -/
def Tab.map {α β : Type} {n : Nat} (f : α → β) (t : Tab α n) : Tab β n :=
  ⟨t.list.map f, by simp [t.size]⟩

/-- A list with each record changed by a function of its place, counted from `k`. -/
def listMapFrom {α β : Type} (f : Nat → α → β) : Nat → List α → List β
  | _, [] => []
  | k, x :: xs => f k x :: listMapFrom f (k + 1) xs

theorem listMapFrom_length {α β : Type} (f : Nat → α → β) (k : Nat) (l : List α) :
    (listMapFrom f k l).length = l.length := by
  induction l generalizing k with
  | nil => rfl
  | cons x xs ih => simp [listMapFrom, ih]

/-- The table with each record changed by a function of its place. -/
def Tab.mapIdx {α β : Type} {n : Nat} (f : Nat → α → β) (t : Tab α n) : Tab β n :=
  ⟨listMapFrom f 0 t.list, by rw [listMapFrom_length, t.size]⟩

/-- The table whose record at place `i` is `f i`. -/
def Tab.ofFn {α : Type} (n : Nat) (f : Nat → α) : Tab α n :=
  ⟨(List.range n).map f, by simp⟩

/-- Whether some record of the table meets `p`. -/
def Tab.any {α : Type} {n : Nat} (p : α → Bool) (t : Tab α n) : Bool := t.list.any p

end Sys2Proof
end

