-- ==== Sys2Proof/Config.lean ====
section
/-! DEFINITION. What the manual leaves open for ever: free values, opaque constants with no body. -/

namespace Sys2Proof.Config

/-- The level of the bits that the console link's response layouts of 10-1 do not name, by request code and
byte offset. The manual states no value for them, so nothing here gives them one (log 4). -/
opaque linkSpareBits : Nat → Nat → Byte

/-- The level of the configuration memory port's data out in each clock cycle of LOAD while the record bytes come in,
counted from the first of them. R6 states the three bytes sent before and nothing for these (log 28). -/
opaque memoryIdleOut : Nat → Bool

end Sys2Proof.Config
end

