-- ==== Sys2Proof/Syntax.lean ====
section
/-! DEFINITION. The commands of the OM-412: one constructor of `Instr` for each row of spec/opcode_table.json,
with the operands the outside supplies. -/

namespace Sys2Proof

/-- The levels of the field input pins (0-6) as one tick event samples them. `true` is high. -/
structure Inputs where
  /-- Loop readings of zones 1..8, 0..255 each (R57); in the LIFT role car lines (R127). -/
  loops : Tab Byte 8
  /-- Lock feedback inputs of stairs A..D: high is THROWN (7-1). -/
  feedback : Tab Bool 4
  /-- Door position inputs of stairs A..D: high is CLOSED (7-1). -/
  door : Tab Bool 4
  /-- Tenant key inputs of stairs A..D: high is K = 1 (7-1). -/
  key : Tab Bool 4
  /-- The message player's busy input (R147). -/
  busy : Bool
  deriving DecidableEq, Repr

/-- What the receiver samples from the riser line up to one line event (R16): `quiet` recessive samples, then the
samples `bits` (`true` recessive). `sinceSync` is how many tick events lie between the completion of the sync octet
among them and the event (R21). -/
structure Samples where
  quiet : Nat
  bits : List Bool
  sinceSync : Nat
  deriving DecidableEq, Repr

/-- The two cadences (9-6). -/
inductive CadenceKind where
  | alert
  | evacuate
  deriving DecidableEq, Repr

/-- The three debounced inputs of a stair (R115). -/
inductive StairInput where
  | door
  | feedback
  | key
  deriving DecidableEq, Repr

/-- The five debounced inputs of a car (R127). -/
inductive CarInput where
  | autoService
  | doorsOpen
  | atPrimary
  | atAlternate
  | ffKey
  deriving DecidableEq, Repr

/-- The lamps that blink by themselves (R5, R15, R175). -/
inductive Lamp where
  | run
  | alarm
  | haltedFault
  deriving DecidableEq, Repr

/-- The commands. Zones, stairs and cars are counted from 0 here: zone `z` is the manual's zone `z + 1`. -/
inductive Instr where
  -- lifecycle and time
  | reset
  | resetRelease (straps : BitVec 6)
  | configLoadComplete (record : Tab Byte 64) (pins : Inputs)
  | listenPeriodExpiry
  | tick (pins : Inputs)
  | second
  | peerSilence (address : Nat)
  | duplicateAgeLimit
  | lineWindowEnd
  -- reception
  | frameDiscard (line : Samples)
  | statusFloor (line : Samples)
  | statusLift (line : Samples)
  | statusConsole (line : Samples)
  | general (line : Samples)
  | hold (line : Samples)
  | resume (line : Samples)
  | silence (line : Samples)
  | resound (line : Samples)
  | allClear (line : Samples)
  | zoneDisable (line : Samples)
  | zoneEnable (line : Samples)
  | take (line : Samples)
  | keep (line : Samples)
  | give (line : Samples)
  | testAnnounce (line : Samples)
  | liftRestore (line : Samples)
  | mark (line : Samples)
  -- transmission
  | frameStart (quiet : Nat) (bitClock : Fin 160)
  | defer (bit : Fin 2)
  | collision (bit : Nat)
  | jamEnd
  | frameComplete
  | heartbeatTimerExpiry
  | spacingTimerOpen
  -- field events
  | loopClassAccepted (zone : Fin 8)
  | stageTimerExpiry (zone : Fin 8)
  | confirmWindowExpiry (zone : Fin 8)
  | stairInputChange (stair : Fin 4) (input : StairInput)
  | mismatchTimerExpiry (stair : Fin 4)
  | heldOpenTimerExpiry (stair : Fin 4)
  | carInputChange (car : Fin 4) (input : CarInput)
  | recallTimerExpiry (car : Fin 4)
  | busyLevel
  | messageTimerExpiry
  | messageStrobeEnd
  | pauseExpiry
  | keepTimerExpiry
  | cadenceCycleStart
  | cadencePulseBoundary (kind : CadenceKind)
  | strobePulseEnd
  | standingLapse (kind : CadenceKind)
  | indicatorFlash (lamp : Lamp)
  | lineLitExpiry
  -- console link
  | readEntry (floor : Byte)
  | readBank (bank : Byte)
  | readRegime
  | readFaults
  | readCounters
  | readResult
  | readConsole (console : Byte)
  | linkKeep
  | unknownRequest (code : Byte)
  | linkSelectInactive
  | issueGeneral
  | issueHold
  | issueResume
  | issueSilence
  | issueResound
  | issueAllClear
  | issueZoneDisable (floor zone : Byte)
  | issueZoneEnable (floor zone : Byte)
  | issueTake (mask : FloorMask)
  | issueGive (mask : FloorMask)
  | issueTestAnnounce (mask : FloorMask) (message : Byte)
  | issueLiftRestore (bank : Byte)
  | issueBadKind (kind : Byte)
  | keepPeriodExpiry
  | linkKeepExpiry
  | syncMismatch (line : Samples)
  | unknownCommandKind (line : Samples)
  | linkSelectActive (clocked : List Byte := [])
  deriving DecidableEq, Repr

end Sys2Proof
end

