-- ==== Sys2Proof/Machine/State.lean ====
section
/-! DEFINITION. The state of the OM-412: every piece of state the manual gives its thirteen blocks, as plain data,
the queue of waiting commands, and the machine right after reset. -/

namespace Sys2Proof.Machine

/-! ## Names of the manual -/

/-- Lifecycle states (1-2). -/
inductive Lifecycle where
  | reset | load | listen | run | halted
  deriving DecidableEq, Repr

/-- Roles (0-2). -/
inductive Role where
  | floor | lift | console
  deriving DecidableEq, Repr

/-- Load status (1-2). -/
inductive LoadStatus where
  | notLoaded | loaded | defaulted
  deriving DecidableEq, Repr

/-- Phases, in rising order (0-5). -/
inductive Phase where
  | quiet | standby | alert | evacuate
  deriving DecidableEq, Repr

/-- Zone kinds (1-5). -/
inductive ZoneKind where
  | unused | detector | callpoint | flow | lobby | panel
  deriving DecidableEq, Repr

/-- Loop classes (R57). -/
inductive LoopClass where
  | short | alarm | normal | opened
  deriving DecidableEq, Repr

/-- Zone states (4-1). -/
inductive ZoneState where
  | disabled | normal | verifyReset | verifySettle | verifyConfirm | alarm | fault
  deriving DecidableEq, Repr

/-- Stair states (7-1). -/
inductive StairState where
  | locked | unlocked | released | fault
  deriving DecidableEq, Repr

/-- Car states (8-1). -/
inductive CarState where
  | normal | recalling | parked | firefighter | unavailable
  deriving DecidableEq, Repr

/-- Recall targets (8-1). -/
inductive Target where
  | none | primary | alternate
  deriving DecidableEq, Repr

/-- Speaker levels, lowest first (9-1). -/
inductive Level where
  | idle | test | notice | alert | evacuate | manual
  deriving DecidableEq, Repr

/-- Speaker sources (9-1). -/
inductive Source where
  | tenant | message | tone | live | mute
  deriving DecidableEq, Repr

/-- Sequence step kinds (1-5). -/
inductive StepKind where
  | stop | tone | message | pause | loop
  deriving DecidableEq, Repr

/-- Access classes of a frame (2-2). -/
inductive FrameClass where
  | alarm | command | mark | status
  deriving DecidableEq, Repr

/-- Fault kinds (11-2). -/
inductive FaultKind where
  | configDefaulted | configClamped | duplicateAddress | foreignCommand | lineDegraded | frameDropped
  | peerSilent | phaseDisagree | paramDisagree | zoneOpen | zoneShort | doorLock | doorHeld
  | messageTimeout | liftUnavailable | liftInput | authorityLapsed | originOverflow
  deriving DecidableEq, Repr

/-- A count of tick events left until an expiry, or stopped (R2). `some 0` is expired and not yet acted on. -/
abbrev Timer := Option Nat

/-! ## Timebase and configuration loader (chapter 1) -/

/-- The timebase (R1). -/
structure Timebase where
  /-- Prescaler count, 0..255. -/
  prescaler : Nat
  /-- Bit clock events since the last tick event, 0..159. -/
  bitClocks : Nat
  /-- Tick counter, modulo 65,536. -/
  tick : Word16
  /-- Tick events since the last second event, 0..99. -/
  toSecond : Nat
  /-- Seconds counter, modulo 65,536. -/
  second : Word16
  /-- The second event of this tick event has not been acted on yet. -/
  secondDue : Bool
  deriving DecidableEq, Repr

/-- One step of a sequence: kind and argument (1-5). -/
structure SeqStep where
  kind : StepKind
  arg : Nat
  deriving DecidableEq, Repr

/-- A rate of spread: W whole floors and N extra steps every D ticks (R99). -/
structure Rate where
  w : Nat
  n : Nat
  d : Nat
  deriving DecidableEq, Repr

/-- The parameters of one cadence (R155). -/
structure CadenceParams where
  p : Nat
  d : Nat
  k : Nat
  g : Nat
  deriving DecidableEq, Repr

/-- The working image (R7, R8): the fields of the configuration record of 1-5. -/
structure Image where
  low : Nat
  high : Nat
  primary : Nat
  alternate : Nat
  heartbeat : Nat
  period : Nat
  bandUp : Nat
  bandDown : Nat
  margin : Nat
  up : Rate
  down : Rate
  patternBase : Nat
  patternStep : Nat
  barOrigin : Bool
  resumeStep : Bool
  zoneKinds : Tab ZoneKind 8
  lobbyFloors : FloorMask
  lobbyZones : Byte
  stairsPresent : Tab Bool 4
  carsPresent : Tab Bool 4
  minterms : Tab Nat 4
  heldOpenLimit : Nat
  recallTimeout : Nat
  alertCadence : CadenceParams
  evacCadence : CadenceParams
  strobeWidth : Nat
  keepLimit : Nat
  alertSteps : Tab SeqStep 6
  evacSteps : Tab SeqStep 6
  noticeSteps : Tab SeqStep 6
  deriving DecidableEq, Repr

/-- The configuration loader's own state: lifecycle, address, role, load status, digest (R3 to R12, R38). -/
structure Station where
  lifecycle : Lifecycle
  address : Nat
  role : Option Role
  loadStatus : LoadStatus
  digest : Nat
  /-- The LISTEN period, which goes on being timed in RUN after an early end (R38). -/
  listenTimer : Timer
  listenComplete : Bool
  /-- Tick events left of the start-up hold-off of TAKE (R164). -/
  takeHoldOff : Nat
  deriving DecidableEq, Repr

/-! ## Riser interface (chapter 2) and status builder (chapter 3) -/

/-- Receiver states (2-4). -/
inductive RxPhase where
  | hunting | sync | assembling
  deriving DecidableEq, Repr

/-- The receiver and its assembly (2-4). -/
structure Receiver where
  phase : RxPhase
  /-- Recessive run, 0..255 (R16). -/
  recessiveRun : Nat
  /-- Samples of the sync octet checked in SYNC, 0..5 (R21). -/
  checked : Nat
  /-- The level of the current run of equal bits; `true` recessive (R22). -/
  level : Bool
  /-- The run count of equal bits; 6 after a sixth dominant bit (R22). -/
  equal : Nat
  /-- The CRC register (R19). -/
  crc : Nat
  /-- The bits of the byte in hand, the latest first. -/
  bits : List Bool
  /-- The bytes taken in, the latest first. -/
  bytes : List Byte
  /-- The sync completion tick (R21). -/
  syncTick : Word16
  deriving DecidableEq, Repr

/-- The content of a frame (2-2): header fields and payload. `code` is the record kind byte. -/
structure Frame where
  source : Nat
  cls : FrameClass
  dest : Nat
  code : Nat
  generation : Byte
  payload : List Byte
  deriving DecidableEq, Repr

/-- The transmit slots a frame can come from (2-6). -/
inductive SlotId where
  | status | command | mark
  deriving DecidableEq, Repr

/-- What the transmitter does (R31, R32). -/
inductive Transmitter where
  | idle
  | sending (slot : SlotId) (frame : Frame)
  | jamming
  deriving DecidableEq, Repr

/-- The standing of a slot entry (2-6). -/
inductive Standing where
  | pending | inFlight
  deriving DecidableEq, Repr

/-- The STATUS slot's entry (R28): its content is fixed only when its frame starts. -/
structure StatusEntry where
  cls : FrameClass
  collisions : Nat
  standing : Standing
  deriving DecidableEq, Repr

/-- The thirteen command kinds with their arguments (3-2). -/
inductive Command where
  | general
  | hold (epoch : Nat)
  | resume (epoch : Nat)
  | silence (epoch : Nat)
  | resound (epoch : Nat)
  | allClear
  | zoneDisable (zone : Nat)
  | zoneEnable (zone : Nat)
  | take (mask : FloorMask) (number : Nat)
  | keep (number : Nat)
  | give (mask : FloorMask)
  | testAnnounce (mask : FloorMask) (message : Nat)
  | liftRestore (bank : Nat)
  deriving DecidableEq, Repr

/-- An entry of the COMMAND FIFO (R28, R41): the command as formed, its header generation and destination. -/
structure CommandEntry where
  /-- Set for the entry of an ISSUE, clear for a KEEP of R168. -/
  issued : Bool
  command : Command
  generation : Byte
  dest : Nat
  collisions : Nat
  standing : Standing
  deriving DecidableEq, Repr

/-- A MARK entry (R42): cadence kind and cycle length as queued. -/
structure MarkEntry where
  kind : CadenceKind
  cycle : Nat
  collisions : Nat
  standing : Standing
  /-- The record has become FOLLOWER since it queued the MARK (R158). -/
  overtaken : Bool
  deriving DecidableEq, Repr

/-- The transmit slots (2-6). -/
structure Slots where
  status : Option StatusEntry
  fifo : List CommandEntry
  mark : Option MarkEntry
  successor : Option MarkEntry
  deriving DecidableEq, Repr

/-- The nine line counters and the bad-frame window (R26, R27). -/
structure LineCounters where
  accepted : Nat
  crcError : Nat
  stuffError : Nat
  jamSeen : Nat
  badLength : Nat
  unknownKind : Nat
  sent : Nat
  collisions : Nat
  dropped : Nat
  windowCount : Nat
  windowSeconds : Nat
  degraded : Bool
  deriving DecidableEq, Repr

/-- What the snapshot kept of one latched record (R51). -/
structure Kept where
  latch : Bool
  count : Nat
  mark : Bool
  deriving DecidableEq, Repr

/-- The snapshot of the STATUS in flight (R51): its content stands in the transmitter's frame. -/
structure Snapshot where
  zones : Tab Kept 8
  stairs : Tab Kept 4
  cars : Tab Kept 4
  origins : List Nat
  generation : Option Byte
  deriving DecidableEq, Repr

/-- The status builder (3-5). The spacing timer is open when it is `none`. -/
structure Builder where
  heartbeat : Timer
  heartbeatOwed : Bool
  changeDue : Bool
  spacing : Timer
  reported : List Nat
  snapshot : Option Snapshot
  deriving DecidableEq, Repr

/-! ## Zone supervisor (chapter 4) -/

/-- A zone record (4-1). Condition-present and loop power follow from it (R59, 4-3). -/
structure Zone where
  kind : ZoneKind
  state : ZoneState
  candidate : Option LoopClass
  run : Nat
  accepted : Option LoopClass
  stage : Timer
  latch : Bool
  count : Nat
  mark : Bool
  deriving DecidableEq, Repr

/-! ## Peer table (chapter 5) -/

/-- Presence of a peer entry (5-1). -/
inductive Presence where
  | unknown | live | silent
  deriving DecidableEq, Repr

/-- Standing of a peer entry (5-1). -/
inductive PeerStanding where
  | current | awaiting | stale
  deriving DecidableEq, Repr

/-- The fields every peer entry holds (5-1). -/
structure PeerBase where
  presence : Presence
  age : Nat
  standing : PeerStanding
  listenComplete : Bool
  digest : Nat
  paramDisagree : Bool
  faultCount : Nat
  worstFault : Nat
  deriving DecidableEq, Repr

/-- A zone as a report carries it: state code and condition-present (3-2). -/
structure ZoneReport where
  state : ZoneState
  condition : Bool
  deriving DecidableEq, Repr

/-- A car byte (3-2). -/
structure CarReport where
  state : CarState
  target : Target
  late : Bool
  restorePending : Bool
  inputFault : Bool
  deriving DecidableEq, Repr

/-- A floor entry (5-1). -/
structure FloorEntry where
  base : PeerBase
  zones : Tab ZoneReport 8
  alarmLatch : Bool
  lobbyLatch : Bool
  phase : Phase
  disagreements : Nat
  disagree : Bool
  stairs : Tab StairState 4
  level : Level
  source : Source
  /-- The authority console as last received; 63 for none. -/
  authority : Nat
  deriving DecidableEq, Repr

/-- A bank entry (5-1). -/
structure BankEntry where
  base : PeerBase
  cars : Tab CarReport 4
  restoreRefused : Nat
  deriving DecidableEq, Repr

/-- A console entry (5-1). -/
structure ConsoleEntry where
  base : PeerBase
  linkAlive : Bool
  deriving DecidableEq, Repr

/-- The peer table, with the duplicate age of R77 (`none` while stopped). -/
structure Peers where
  floors : Tab FloorEntry 48
  banks : Tab BankEntry 2
  consoles : Tab ConsoleEntry 4
  duplicateAge : Option Nat
  deriving DecidableEq, Repr

/-! ## Regime engine (chapter 6) -/

/-- A spread record (6-2). -/
structure Spread where
  origin : Nat
  elapsed : Nat
  applied : Nat
  upEdge : Nat
  downEdge : Nat
  accUp : Nat
  accDown : Nat
  complete : Bool
  deriving DecidableEq, Repr

/-- The regime view (6-1). -/
structure Regime where
  generation : Option Byte
  general : Bool
  hold : Nat
  silence : Nat
  origins : List Spread
  overflow : FloorMask
  phases : Tab Phase 48
  deriving DecidableEq, Repr

/-! ## Stair unit (chapter 7) and lift unit (chapter 8) -/

/-- A debounced input: accepted level, candidate level and run (R115, R127). -/
structure Debounced where
  accepted : Bool
  candidate : Option Bool
  run : Nat
  deriving DecidableEq, Repr

/-- A stair record (7-1). Door `true` is CLOSED, feedback `true` is THROWN. -/
structure Stair where
  present : Bool
  minterm : Nat
  state : StairState
  release : Bool
  unlock : Bool
  door : Debounced
  feedback : Debounced
  key : Debounced
  feedbackFault : Bool
  mismatch : Timer
  heldOpen : Timer
  latch : Bool
  count : Nat
  deriving DecidableEq, Repr

/-- A car record (8-1). -/
structure Car where
  present : Bool
  state : CarState
  target : Target
  recallTimer : Timer
  late : Bool
  restorePending : Bool
  inputFault : Bool
  autoService : Debounced
  doorsOpen : Debounced
  atPrimary : Debounced
  atAlternate : Debounced
  ffKey : Debounced
  latch : Bool
  count : Nat
  deriving DecidableEq, Repr

/-! ## Announcement engine and cadence generator (chapter 9) -/

/-- States of the message exchange (R147). -/
inductive Exchange where
  | idle | clearing | starting | playing
  deriving DecidableEq, Repr

/-- What the speaker record keeps per sequence (9-1). -/
structure SeqRecord where
  resume : Option Nat
  finished : Bool
  took : Bool
  deriving DecidableEq, Repr

/-- The speaker record (9-1). -/
structure Speaker where
  level : Level
  source : Source
  /-- Step in hand, 1..6, of the sequence in service. -/
  step : Option Nat
  /-- A TONE step waits for its first cycle start (R146). -/
  waiting : Bool
  /-- Cycle ends left in a TONE step (R146). -/
  cycles : Nat
  /-- Tick events left in a PAUSE step (R146). -/
  pause : Timer
  exchange : Exchange
  exchangeTimer : Timer
  /-- The message of the MESSAGE step in hand (R147). -/
  message : Nat
  /-- The busy level of this tick event has not been acted on yet. -/
  busyFresh : Bool
  /-- The four message number lines (R147). -/
  lines : Nat
  /-- Play and stop strobes: high while not `none` (R147). -/
  play : Timer
  stop : Timer
  alertSeq : SeqRecord
  evacSeq : SeqRecord
  noticeSeq : SeqRecord
  testSeq : SeqRecord
  testMessage : Nat
  testRequest : Bool
  noticeRequest : Bool
  deriving DecidableEq, Repr

/-- The authority record (9-5). -/
structure Authority where
  console : Option Nat
  number : Nat
  keep : Timer
  deriving DecidableEq, Repr

/-- Run states of a cadence record (9-6). -/
inductive RunState where
  | stopped | running | stopping
  deriving DecidableEq, Repr

/-- A cadence record (9-6). `pos` is `none` before the first cycle of a run has started. -/
structure Cadence where
  run : RunState
  pos : Option Nat
  cycleStart : Word16
  pending : Option Int
  fixed : Option Int
  follower : Bool
  lastLower : Option Word16
  standing : Timer
  cycleDue : Bool
  boundaryDue : Bool
  deriving DecidableEq, Repr

/-- The cadence generator: two records, the bell and the strobe (9-6). -/
structure CadenceUnit where
  alert : Cadence
  evac : Cadence
  /-- The record whose on-pulse the bell shows; the bell is low when `none`. -/
  bell : Option CadenceKind
  /-- Tick events the bell has been low, saturating at 255; `none` when it has not been high since LISTEN. -/
  bellLow : Option Nat
  strobe : Timer
  deriving DecidableEq, Repr

/-! ## Console link (chapter 10) -/

/-- Outcomes of the result record (10-1). -/
inductive IssueOutcome where
  | empty | queued | sent | dropped | refused
  deriving DecidableEq, Repr

/-- Refusal reasons (10-1). -/
inductive Reason where
  | none | busy | notReady | alarmPresent | regimeActive | notApplicable | epochLimit | authority | argument
  deriving DecidableEq, Repr

/-- The result record (10-2). -/
structure IssueResult where
  number : Nat
  kind : Nat
  outcome : IssueOutcome
  reason : Reason
  deriving DecidableEq, Repr

/-- The console link (chapter 10). -/
structure Link where
  selected : Bool
  taken : Bool
  buffer : List Byte
  response : List Byte
  /-- The link keep timer; link-alive is set while it runs (R162). -/
  keep : Timer
  result : IssueResult
  issueCounter : Nat
  keeping : Bool
  keepMask : FloorMask
  authorityNumber : Nat
  period : Timer
  deriving DecidableEq, Repr

/-! ## Fault list and indicators (chapter 11) -/

/-- A fault record (11-1). -/
structure FaultRecord where
  kind : FaultKind
  subject : Nat
  active : Bool
  count : Nat
  firstSeen : Word16
  deriving DecidableEq, Repr

/-- The fault list (11-1). -/
structure FaultList where
  records : List FaultRecord
  overflow : Nat
  deriving DecidableEq, Repr

/-- The lamps with a timing of their own (R5, R15, R175). LINE is lit while `line` is not `none`. -/
structure Lamps where
  runLit : Bool
  runFlash : Timer
  alarmLit : Bool
  alarmFlash : Timer
  haltLit : Bool
  haltFlash : Timer
  line : Timer
  deriving DecidableEq, Repr

/-! ## The whole station -/

/-- One OM-412 station and the commands that wait for it. -/
structure State where
  pending : List Instr
  pins : Inputs
  time : Timebase
  station : Station
  image : Image
  rx : Receiver
  tx : Transmitter
  slots : Slots
  line : LineCounters
  builder : Builder
  zones : Tab Zone 8
  peers : Peers
  regime : Regime
  stairs : Tab Stair 4
  cars : Tab Car 4
  restoreRefused : Nat
  speaker : Speaker
  authority : Authority
  cadence : CadenceUnit
  link : Link
  faults : FaultList
  lamps : Lamps
  deriving DecidableEq, Repr

/-- Reasons to stop with a fault. There is none: the manual gives every command of the OM-412 an effect or none at
all, and its own faults are records of the fault list (R171). No definition raises one; this is safe. -/
inductive Fault where
  deriving DecidableEq, Repr

/-- Reasons to refuse a command. -/
inductive Refusal where
  /-- The command has no meaning yet. Raised by an arm of `exec` alone, and by none now; safe. -/
  | notModelled (mnemonic : String)
  deriving DecidableEq, Repr

/-! ## The machine right after reset -/

/-- All input pins low (log 5). -/
def inputsLow : Inputs :=
  { loops := Tab.fill 8 0, feedback := Tab.fill 4 false, door := Tab.fill 4 false, key := Tab.fill 4 false,
    busy := false }

/-- The timebase held at zero (R1). -/
def Timebase.zero : Timebase :=
  { prescaler := 0, bitClocks := 0, tick := 0, toSecond := 0, second := 0, secondDue := false }

def Rate.zero : Rate := { w := 0, n := 0, d := 0 }

def CadenceParams.zero : CadenceParams := { p := 0, d := 0, k := 0, g := 0 }

/-- The image before the end of LOAD (log 6). -/
def Image.blank : Image :=
  { low := 0, high := 0, primary := 0, alternate := 0, heartbeat := 0, period := 0, bandUp := 0, bandDown := 0,
    margin := 0, up := Rate.zero, down := Rate.zero, patternBase := 0, patternStep := 0, barOrigin := false,
    resumeStep := false, zoneKinds := Tab.fill 8 .unused, lobbyFloors := 0, lobbyZones := 0,
    stairsPresent := Tab.fill 4 false, carsPresent := Tab.fill 4 false, minterms := Tab.fill 4 0,
    heldOpenLimit := 0, recallTimeout := 0, alertCadence := CadenceParams.zero,
    evacCadence := CadenceParams.zero, strobeWidth := 0, keepLimit := 0, alertSteps := Tab.fill 6 ⟨.stop, 0⟩,
    evacSteps := Tab.fill 6 ⟨.stop, 0⟩, noticeSteps := Tab.fill 6 ⟨.stop, 0⟩ }

/-- The station in RESET (R3; log 6 for the fields R3 does not name). -/
def Station.atReset : Station :=
  { lifecycle := .reset, address := 0, role := none, loadStatus := .notLoaded, digest := 0, listenTimer := none,
    listenComplete := false, takeHoldOff := 0 }

/-- HUNTING, recessive run 0, assembly empty (R36). -/
def Receiver.atReset : Receiver :=
  { phase := .hunting, recessiveRun := 0, checked := 0, level := true, equal := 0, crc := 0xFFFF, bits := [],
    bytes := [], syncTick := 0 }

/-- All slots empty, no successor (R36). -/
def Slots.empty : Slots := { status := none, fifo := [], mark := none, successor := none }

/-- All line counters 0, window count 0, LINE-DEGRADED not active (R36). -/
def LineCounters.zero : LineCounters :=
  { accepted := 0, crcError := 0, stuffError := 0, jamSeen := 0, badLength := 0, unknownKind := 0, sent := 0,
    collisions := 0, dropped := 0, windowCount := 0, windowSeconds := 0, degraded := false }

/-- The status builder after pin reset (R46). -/
def Builder.atReset : Builder :=
  { heartbeat := none, heartbeatOwed := false, changeDue := false, spacing := none, reported := [],
    snapshot := none }

/-- A zone record after pin reset (R73). -/
def Zone.atReset (kind : ZoneKind) : Zone :=
  { kind := kind, state := .normal, candidate := none, run := 0, accepted := none, stage := none, latch := false,
    count := 0, mark := false }

/-- The common fields of a peer entry after pin reset (R90). -/
def PeerBase.atReset : PeerBase :=
  { presence := .unknown, age := 0, standing := .awaiting, listenComplete := false, digest := 0,
    paramDisagree := false, faultCount := 0, worstFault := 0 }

/-- A quiet zone as a report carries it. -/
def ZoneReport.quiet : ZoneReport := { state := .normal, condition := false }

/-- A car at rest as a report carries it. -/
def CarReport.rest : CarReport :=
  { state := .normal, target := .none, late := false, restorePending := false, inputFault := false }

/-- A floor entry after pin reset (R90). -/
def FloorEntry.atReset : FloorEntry :=
  { base := PeerBase.atReset, zones := Tab.fill 8 ZoneReport.quiet, alarmLatch := false, lobbyLatch := false,
    phase := .quiet, disagreements := 0, disagree := false, stairs := Tab.fill 4 .locked, level := .idle,
    source := .tenant, authority := 63 }

/-- A bank entry after pin reset (R90). -/
def BankEntry.atReset : BankEntry :=
  { base := PeerBase.atReset, cars := Tab.fill 4 CarReport.rest, restoreRefused := 0 }

/-- A console entry after pin reset (R90). -/
def ConsoleEntry.atReset : ConsoleEntry := { base := PeerBase.atReset, linkAlive := false }

/-- The peer table after pin reset (R90). -/
def Peers.atReset : Peers :=
  { floors := Tab.fill 48 FloorEntry.atReset, banks := Tab.fill 2 BankEntry.atReset,
    consoles := Tab.fill 4 ConsoleEntry.atReset, duplicateAge := none }

/-- The regime view after pin reset (R91). -/
def Regime.atReset : Regime :=
  { generation := none, general := false, hold := 0, silence := 0, origins := [], overflow := 0,
    phases := Tab.fill 48 .quiet }

/-- An input with no candidate (R125, R141). -/
def Debounced.unsampled (level : Bool) : Debounced := { accepted := level, candidate := none, run := 0 }

/-- A stair record after pin reset (R125). -/
def Stair.atReset (present : Bool) (minterm : Nat) : Stair :=
  { present := present, minterm := minterm, state := .locked, release := false, unlock := false,
    door := Debounced.unsampled true, feedback := Debounced.unsampled true, key := Debounced.unsampled false,
    feedbackFault := false, mismatch := none, heldOpen := none, latch := false, count := 0 }

/-- A car record after pin reset (R141). -/
def Car.atReset (present : Bool) : Car :=
  { present := present, state := .normal, target := .none, recallTimer := none, late := false, restorePending := false,
    inputFault := false, autoService := Debounced.unsampled false, doorsOpen := Debounced.unsampled false,
    atPrimary := Debounced.unsampled false, atAlternate := Debounced.unsampled false,
    ffKey := Debounced.unsampled false, latch := false, count := 0 }

/-- A sequence never entered (R142). -/
def SeqRecord.fresh : SeqRecord := { resume := none, finished := false, took := false }

/-- The speaker record after pin reset (R142). -/
def Speaker.atReset : Speaker :=
  { level := .idle, source := .tenant, step := none, waiting := false, cycles := 0, pause := none,
    exchange := .idle, exchangeTimer := none, message := 0, busyFresh := false, lines := 0, play := none,
    stop := none, alertSeq := SeqRecord.fresh, evacSeq := SeqRecord.fresh, noticeSeq := SeqRecord.fresh,
    testSeq := SeqRecord.fresh, testMessage := 0, testRequest := false, noticeRequest := false }

/-- No authority (R154). -/
def Authority.none : Authority := { console := Option.none, number := 0, keep := Option.none }

/-- A cadence record after pin reset (R155). -/
def Cadence.atReset : Cadence :=
  { run := .stopped, pos := none, cycleStart := 0, pending := none, fixed := none, follower := false,
    lastLower := none, standing := none, cycleDue := false, boundaryDue := false }

/-- The cadence generator after pin reset (R155). -/
def CadenceUnit.atReset : CadenceUnit :=
  { alert := Cadence.atReset, evac := Cadence.atReset, bell := none, bellLow := none, strobe := none }

/-- The console link after pin reset (R170). -/
def Link.atReset : Link :=
  { selected := false, taken := false, buffer := [], response := [], keep := none,
    result := { number := 0, kind := 0, outcome := .empty, reason := .none }, issueCounter := 0, keeping := false,
    keepMask := 0, authorityNumber := 0, period := none }

/-- No fault record (R176). -/
def FaultList.empty : FaultList := { records := [], overflow := 0 }

/-- All lamps off (R3). -/
def Lamps.off : Lamps :=
  { runLit := false, runFlash := none, alarmLit := false, alarmFlash := none, haltLit := false, haltFlash := none,
    line := none }

/-- The station with the reset pin low (R3), every block at its value after pin reset, and no command waiting. -/
def State.reset : State :=
  { pending := [], pins := inputsLow, time := Timebase.zero, station := Station.atReset, image := Image.blank,
    rx := Receiver.atReset, tx := .idle, slots := Slots.empty, line := LineCounters.zero,
    builder := Builder.atReset, zones := Tab.fill 8 (Zone.atReset .unused), peers := Peers.atReset,
    regime := Regime.atReset, stairs := Tab.fill 4 (Stair.atReset false 0),
    cars := Tab.fill 4 (Car.atReset false), restoreRefused := 0, speaker := Speaker.atReset,
    authority := Authority.none, cadence := CadenceUnit.atReset, link := Link.atReset,
    faults := FaultList.empty, lamps := Lamps.off }

end Sys2Proof.Machine
end

