-- ==== Sys2Proof/Machine/Line.lean ====
section
/-! DEFINITION. The riser line's framing: CRC, stuffing, the bits of a frame (R17 to R20), and the receiver that takes
them in, one sample at a time (R16, R21 to R25). -/

namespace Sys2Proof.Machine

/-! ## Bits and bytes -/

/-- The bits of a byte, most significant first (0-7). -/
def byteBits (b : Byte) : List Bool :=
  [b.getLsbD 7, b.getLsbD 6, b.getLsbD 5, b.getLsbD 4, b.getLsbD 3, b.getLsbD 2, b.getLsbD 1, b.getLsbD 0]

/-- The bits of a list of bytes in the order they are sent. -/
def bytesBits (bs : List Byte) : List Bool := bs.flatMap byteBits

/-- The number that bits give, the latest bit first. -/
def bitsValue : List Bool → Nat
  | [] => 0
  | b :: bs => b.toNat + 2 * bitsValue bs

/-- The byte `n` modulo 256. -/
def byte (n : Nat) : Byte := BitVec.ofNat 8 n

/-- Two bytes, most significant first (0-7). -/
def word (n : Nat) : List Byte := [byte (n / 256), byte n]

/-! ## CRC and stuffing -/

/-- One data bit through the CRC register (R19). -/
def crcStep (reg : Nat) (bit : Bool) : Nat :=
  let shifted := reg * 2 % 65536
  if bit != reg.testBit 15 then shifted ^^^ 0x8005 else shifted

/-- The CRC of bytes, most significant bits first, from 0xFFFF (R19). -/
def crcOf (bs : List Byte) : Nat := (bytesBits bs).foldl crcStep 0xFFFF

/-- Stuffing (R18): after five equal bits in a row one bit of the opposite value, which begins a new run. `level` and
`n` are the run so far. -/
def stuff (level : Bool) (n : Nat) : List Bool → List Bool
  | [] => []
  | b :: bs =>
    let m := if b = level then n + 1 else 1
    if m = 5 then b :: (!b) :: stuff (!b) 1 bs else b :: stuff b m bs

/-! ## Frames -/

def FrameClass.code : FrameClass → Nat
  | .alarm => 0
  | .command => 1
  | .mark => 2
  | .status => 3

def FrameClass.ofCode (n : Nat) : FrameClass :=
  match n % 4 with
  | 0 => .alarm
  | 1 => .command
  | 2 => .mark
  | _ => .status

/-- The class gap in bit times (2-2). -/
def FrameClass.gap : FrameClass → Nat
  | .alarm => 0
  | .command => 4
  | .mark => 8
  | .status => 12

/-- The kind table of 2-2: which classes a record kind may travel in; no class for a code that is no kind. -/
def kindMayTravel (code : Nat) (cls : FrameClass) : Bool :=
  match code, cls with
  | 1, .alarm => true
  | 1, .status => true
  | 2, .alarm => true
  | 2, .status => true
  | 3, .alarm => true
  | 3, .status => true
  | 4, .command => true
  | 5, .mark => true
  | _, _ => false

/-- The five header bytes (2-2, R20). -/
def Frame.header (f : Frame) : List Byte :=
  [byte (f.source * 4 + f.cls.code), byte (f.dest * 4), byte f.code, f.generation, byte f.payload.length]

/-- Header, payload and CRC (R17). -/
def Frame.bytes (f : Frame) : List Byte :=
  f.header ++ f.payload ++ word (crcOf (f.header ++ f.payload))

/-- The sync octet 0xC5 on the line (R17); `true` is recessive. -/
def syncOctet : List Bool := [true, true, false, false, false, true, false, true]

/-- The bits of a frame on the line: the sync octet unstuffed, then the stuffed rest (R17, R18). -/
def Frame.lineBits (f : Frame) : List Bool := syncOctet ++ stuff true 0 (bytesBits f.bytes)

/-! ## The receiver -/

/-- What a sample may bring the receiver to (R21 to R25). -/
inductive RxEvent where
  | syncMismatch
  | stuffError
  | jamSeen
  | badLength
  | crcError
  | unknownKind
  | abandoned
  | accepted (frame : Frame) (syncTick : Word16)
  deriving DecidableEq, Repr

/-- The recessive run after a sample (R16). -/
def runAfter (run : Nat) (sample : Bool) : Nat := if sample then min 255 (run + 1) else 0

/-- Back to HUNTING with the assembly empty; the recessive run goes on. -/
def Receiver.hunt (r : Receiver) : Receiver :=
  { r with phase := .hunting, checked := 0, level := true, equal := 0, crc := 0xFFFF, bits := [], bytes := [] }

/-- The samples SYNC checks after the third sync bit (R21). -/
def syncRest : List Bool := [false, false, true, false, true]

/-- The payload length once header byte 4 is in (R24). -/
def Receiver.length (r : Receiver) : Nat := (r.bytes.reverse.getD 4 0).toNat

/-- The whole frame is in: header, payload and CRC. -/
def Receiver.whole (r : Receiver) : Bool := 5 ≤ r.bytes.length && r.bytes.length == 7 + r.length

/-- The frame that the bytes taken in spell. -/
def Receiver.frame (r : Receiver) : Frame :=
  let bs := r.bytes.reverse
  let b (i : Nat) : Byte := bs.getD i 0
  { source := (b 0).toNat / 4, cls := FrameClass.ofCode (b 0).toNat, dest := (b 1).toNat / 4, code := (b 2).toNat,
    generation := b 3, payload := (bs.drop 5).take (b 4).toNat }

/-- The two CRC bytes received. -/
def Receiver.crcReceived (r : Receiver) : Nat :=
  (r.bytes.getD 1 0).toNat * 256 + (r.bytes.getD 0 0).toNat

/-- The end of a frame (R25): the CRC, then the kind and its class. -/
def Receiver.close (r : Receiver) : Receiver × Option RxEvent :=
  if r.crcReceived ≠ r.crc then (r.hunt, some .crcError)
  else if kindMayTravel r.frame.code r.frame.cls then (r.hunt, some (.accepted r.frame r.syncTick))
  else (r.hunt, some .unknownKind)

/-- A byte is complete: the destination filter (R23), the length (R24), the end of the frame (R22, R25). -/
def Receiver.byteDone (mine : Nat → Bool) (r : Receiver) : Receiver × Option RxEvent :=
  if r.bytes.length = 2 ∧ ¬ mine ((r.bytes.getD 0 0).toNat / 4) then (r.hunt, some .abandoned)
  else if r.bytes.length = 5 ∧ r.length > 48 then (r.hunt, some .badLength)
  else if r.whole ∧ r.equal ≠ 5 then r.close
  else (r, none)

/-- A data bit: it enters the byte in hand and, in header and payload, the CRC register (R19, R22). -/
def Receiver.dataBit (mine : Nat → Bool) (sample : Bool) (r : Receiver) : Receiver × Option RxEvent :=
  let equal := if sample = r.level ∧ r.equal ≠ 0 then r.equal + 1 else 1
  let covered := r.bytes.length < 5 || r.bytes.length < 5 + r.length
  let r := { r with level := sample, equal := equal, crc := if covered then crcStep r.crc sample else r.crc }
  if r.bits.length = 7 then
    { r with bits := [], bytes := byte (bitsValue (sample :: r.bits)) :: r.bytes }.byteDone mine
  else ({ r with bits := sample :: r.bits }, none)

/-- A sample in ASSEMBLING (R22). -/
def Receiver.assemble (mine : Nat → Bool) (sample : Bool) (r : Receiver) : Receiver × Option RxEvent :=
  if r.equal = 6 then (r.hunt, some (if sample then .stuffError else .jamSeen))
  else if r.equal = 5 then
    if sample = r.level then
      if sample then (r.hunt, some .stuffError) else ({ r with equal := 6 }, none)
    else
      let r := { r with level := sample, equal := 1 }
      if r.whole then r.close else (r, none)
  else r.dataBit mine sample

/-- One sample of the line (R16, R21, R22). `mine` is the destination filter, `now` the tick count noted at the
completion of a sync octet. -/
def Receiver.sample (mine : Nat → Bool) (now : Word16) (sample : Bool) (r : Receiver) :
    Receiver × Option RxEvent :=
  let armed := 16 ≤ r.recessiveRun
  let r := { r with recessiveRun := runAfter r.recessiveRun sample }
  match r.phase with
  | .hunting => if armed && !sample then ({ r with phase := .sync, checked := 0 }, none) else (r, none)
  | .sync =>
    if sample ≠ syncRest.getD r.checked true then (r.hunt, some .syncMismatch)
    else if r.checked = 4 then ({ r.hunt with phase := .assembling, syncTick := now }, none)
    else ({ r with checked := r.checked + 1 }, none)
  | .assembling => r.assemble mine sample

/-- Samples in order, with the events they bring, in order. -/
def Receiver.feed (mine : Nat → Bool) (now : Word16) : List Bool → Receiver → Receiver × List RxEvent
  | [], r => (r, [])
  | b :: bs, r =>
    let (r1, e) := r.sample mine now b
    let (r2, es) := r1.feed mine now bs
    (r2, e.toList ++ es)

/-- The samples that a frame of another station brings after `quiet` bit times of quiet: its two leading sync bits
are two more recessive samples. -/
def Frame.samples (f : Frame) (quiet sinceSync : Nat) : Samples :=
  { quiet := quiet, bits := f.lineBits, sinceSync := sinceSync }

end Sys2Proof.Machine

namespace Sys2Proof

/-- All the samples of a line command. -/
def Samples.all (line : Samples) : List Bool := List.replicate line.quiet true ++ line.bits

end Sys2Proof
end

