-- ==== Sys2Proof/Machine/Codec.lean ====
section
/-! DEFINITION. The record layouts of 3-2: codes, the bytes of STATUS, COMMAND and MARK payloads, and taking a payload
apart (R43 to R45). -/

namespace Sys2Proof.Machine

/-! ## Codes (3-2) -/

def Phase.code : Phase → Nat
  | .quiet => 0
  | .standby => 1
  | .alert => 2
  | .evacuate => 3

def Phase.ofCode (n : Nat) : Phase :=
  match n with
  | 0 => .quiet
  | 1 => .standby
  | 2 => .alert
  | _ => .evacuate

def Level.code : Level → Nat
  | .idle => 0
  | .test => 1
  | .notice => 2
  | .alert => 3
  | .evacuate => 4
  | .manual => 5

def Level.ofCode (n : Nat) : Option Level :=
  match n with
  | 0 => some .idle
  | 1 => some .test
  | 2 => some .notice
  | 3 => some .alert
  | 4 => some .evacuate
  | 5 => some .manual
  | _ => none

def Source.code : Source → Nat
  | .tenant => 0
  | .message => 1
  | .tone => 2
  | .live => 3
  | .mute => 4

def Source.ofCode (n : Nat) : Option Source :=
  match n with
  | 0 => some .tenant
  | 1 => some .message
  | 2 => some .tone
  | 3 => some .live
  | 4 => some .mute
  | _ => none

def ZoneState.code : ZoneState → Nat
  | .disabled => 0
  | .normal => 1
  | .verifyReset => 2
  | .verifySettle => 3
  | .verifyConfirm => 4
  | .alarm => 5
  | .fault => 6

/-- A received code 7 is taken as 6, FAULT (R45). -/
def ZoneState.ofCode (n : Nat) : ZoneState :=
  match n with
  | 0 => .disabled
  | 1 => .normal
  | 2 => .verifyReset
  | 3 => .verifySettle
  | 4 => .verifyConfirm
  | 5 => .alarm
  | _ => .fault

def StairState.code : StairState → Nat
  | .locked => 0
  | .unlocked => 1
  | .released => 2
  | .fault => 3

def StairState.ofCode (n : Nat) : StairState :=
  match n with
  | 0 => .locked
  | 1 => .unlocked
  | 2 => .released
  | _ => .fault

def CarState.code : CarState → Nat
  | .normal => 0
  | .recalling => 1
  | .parked => 2
  | .firefighter => 3
  | .unavailable => 4

def CarState.ofCode (n : Nat) : Option CarState :=
  match n with
  | 0 => some .normal
  | 1 => some .recalling
  | 2 => some .parked
  | 3 => some .firefighter
  | 4 => some .unavailable
  | _ => none

def Target.code : Target → Nat
  | .none => 0
  | .primary => 1
  | .alternate => 2

def Target.ofCode (n : Nat) : Option Target :=
  match n with
  | 0 => some .none
  | 1 => some .primary
  | 2 => some .alternate
  | _ => Option.none

def FaultKind.code : FaultKind → Nat
  | .configDefaulted => 1
  | .configClamped => 2
  | .duplicateAddress => 3
  | .foreignCommand => 4
  | .lineDegraded => 5
  | .frameDropped => 6
  | .peerSilent => 7
  | .phaseDisagree => 8
  | .paramDisagree => 9
  | .zoneOpen => 10
  | .zoneShort => 11
  | .doorLock => 12
  | .doorHeld => 13
  | .messageTimeout => 14
  | .liftUnavailable => 15
  | .liftInput => 16
  | .authorityLapsed => 17
  | .originOverflow => 18

/-! ## Whole STATUS records -/

/-- The role body of a STATUS (3-2). -/
inductive StatusBody where
  | floor (phase : Phase) (level : Level) (source : Source) (authority : Nat) (zones : Tab ZoneReport 8)
      (changed : Nat) (stairs : Tab StairState 4)
  | lift (cars : Tab CarReport 4) (restoreRefused : Nat)
  | console (linkAlive : Bool)
  deriving DecidableEq, Repr

/-- A STATUS record: the regime fields that open every payload, then the role body (3-2). -/
structure StatusRecord where
  unset : Bool
  general : Bool
  listenComplete : Bool
  hold : Nat
  silence : Nat
  digest : Nat
  faultCount : Nat
  worstFault : Nat
  /-- Origin floor and elapsed seconds, in the sender's list order. -/
  origins : List (Nat × Nat)
  body : StatusBody
  deriving DecidableEq, Repr

/-- Bit `i` set when `b`. -/
def flag (b : Bool) (i : Nat) : Nat := if b then 2 ^ i else 0

/-- The zone nibble: state in bits 3..1, condition-present in bit 0. -/
def ZoneReport.nibble (z : ZoneReport) : Nat := z.state.code * 2 + flag z.condition 0

def ZoneReport.ofNibble (n : Nat) : ZoneReport := { state := ZoneState.ofCode (n / 2 % 8), condition := n.testBit 0 }

/-- The four bytes of eight zone nibbles. -/
def zoneBytes (t : Tab ZoneReport 8) : List Byte :=
  let z (i : Nat) : Nat := (t.at i ZoneReport.quiet).nibble
  [byte (z 0 * 16 + z 1), byte (z 2 * 16 + z 3), byte (z 4 * 16 + z 5), byte (z 6 * 16 + z 7)]

/-- The byte of four stair states, stair A in bits 7..6. -/
def stairByte (t : Tab StairState 4) : Byte :=
  let s (i : Nat) : Nat := (t.at i .locked).code
  byte (s 0 * 64 + s 1 * 16 + s 2 * 4 + s 3)

/-- Phase, speaker level and source in one byte. -/
def speakerByte (phase : Phase) (level : Level) (source : Source) : Byte :=
  byte (phase.code * 64 + level.code * 8 + source.code)

/-- A car byte. -/
def CarReport.byte (c : CarReport) : Byte :=
  Machine.byte
    (c.state.code * 32 + c.target.code * 8 + flag c.late 2 + flag c.restorePending 1 + flag c.inputFault 0)

def CarReport.ofByte (b : Byte) : Option CarReport :=
  match CarState.ofCode (b.toNat / 32), Target.ofCode (b.toNat / 8 % 4) with
  | some state, some target =>
    some { state := state, target := target, late := b.getLsbD 2, restorePending := b.getLsbD 1,
           inputFault := b.getLsbD 0 }
  | _, _ => none

/-- The four car bytes of a bank. -/
def carBytes (t : Tab CarReport 4) : List Byte := t.list.map CarReport.byte

def StatusBody.bytes : StatusBody → List Byte
  | .floor phase level source authority zones changed stairs =>
    [speakerByte phase level source, byte authority] ++ zoneBytes zones ++ [byte changed, stairByte stairs]
  | .lift cars refused => carBytes cars ++ [byte refused]
  | .console alive => [byte (flag alive 0)]

def originBytes (o : Nat × Nat) : List Byte := byte o.1 :: word o.2

/-- The payload of a STATUS (3-2). -/
def StatusRecord.payload (r : StatusRecord) : List Byte :=
  [byte (flag r.unset 0 + flag r.general 1 + flag r.listenComplete 2), byte r.hold, byte r.silence, byte r.digest,
    byte r.faultCount, byte r.worstFault, byte r.origins.length]
  ++ r.origins.flatMap originBytes ++ r.body.bytes

/-- The kind code of a body. -/
def StatusBody.code : StatusBody → Nat
  | .floor .. => 1
  | .lift .. => 2
  | .console .. => 3

/-! ## Taking a STATUS apart (R43, R45) -/

/-- The origin entries, three bytes each. -/
def takeOrigins : Nat → List Byte → List (Nat × Nat)
  | n + 1, f :: hi :: lo :: rest => (f.toNat, hi.toNat * 256 + lo.toNat) :: takeOrigins n rest
  | _, _ => []

/-- The body size of a STATUS kind. -/
def bodySize (code : Nat) : Nat :=
  match code with
  | 1 => 8
  | 2 => 5
  | _ => 1

/-- Whether a source address belongs to the role of a STATUS kind (R43). -/
def sourceFits (code source : Nat) : Bool :=
  match code with
  | 1 => source < 48
  | 2 => source == 48 || source == 49
  | 3 => 56 ≤ source && source ≤ 59
  | _ => false

/-- The zone states of four bytes. -/
def takeZones (b : Nat → Byte) : Tab ZoneReport 8 :=
  Tab.ofFn 8 (fun z => ZoneReport.ofNibble (if z % 2 = 0 then (b (z / 2)).toNat / 16 else (b (z / 2)).toNat % 16))

def takeStairs (b : Byte) : Tab StairState 4 :=
  Tab.ofFn 4 (fun i => StairState.ofCode (b.toNat / 4 ^ (3 - i) % 4))

/-- The four cars of a bank body, when every code is one of the tables'. -/
def takeCars (b : Nat → Byte) : Option (Tab CarReport 4) :=
  match CarReport.ofByte (b 0), CarReport.ofByte (b 1), CarReport.ofByte (b 2), CarReport.ofByte (b 3) with
  | some c0, some c1, some c2, some c3 => some ⟨[c0, c1, c2, c3], rfl⟩
  | _, _, _, _ => none

/-- The role body, or `none` when a field holds a code the tables do not give. -/
def takeBody (code : Nat) (bs : List Byte) : Option StatusBody :=
  let b (i : Nat) : Byte := bs.getD i 0
  match code with
  | 1 =>
    match Level.ofCode ((b 0).toNat / 8 % 8), Source.ofCode ((b 0).toNat % 8) with
    | some level, some source =>
      some (.floor (Phase.ofCode ((b 0).toNat / 64)) level source (b 1).toNat (takeZones (fun i => b (2 + i)))
        (b 6).toNat (takeStairs (b 7)))
    | _, _ => none
  | 2 => (takeCars b).map (fun cars => .lift cars (b 4).toNat)
  | _ => some (.console ((b 0).getLsbD 0))

/-- A whole STATUS of kind `code` from `source`, decoded as R45 lays down, or `none` when it is set aside (R43). -/
def takeStatus (code source : Nat) (payload : List Byte) : Option StatusRecord :=
  let b (i : Nat) : Byte := payload.getD i 0
  let n := (b 6).toNat
  let origins := takeOrigins n (payload.drop 7)
  if sourceFits code source && 7 ≤ payload.length && n ≤ 8 && payload.length == 7 + 3 * n + bodySize code
      && origins.all (fun o => o.1 ≤ 47) then
    (takeBody code (payload.drop (7 + 3 * n))).map (fun body =>
      { unset := (b 0).getLsbD 0, general := (b 0).getLsbD 1, listenComplete := (b 0).getLsbD 2,
        hold := (b 1).toNat, silence := (b 2).toNat, digest := (b 3).toNat,
        faultCount := min 16 (b 4).toNat, worstFault := (b 5).toNat, origins := origins, body := body })
  else none

/-! ## COMMAND records (3-2, R41, R44) -/

def Command.code : Command → Nat
  | .general => 1
  | .hold _ => 2
  | .resume _ => 3
  | .silence _ => 4
  | .resound _ => 5
  | .allClear => 6
  | .zoneDisable _ => 7
  | .zoneEnable _ => 8
  | .take _ _ => 9
  | .keep _ => 10
  | .give _ => 11
  | .testAnnounce _ _ => 12
  | .liftRestore _ => 13

/-- The six bytes of a floor mask, the highest positions first (0-7). -/
def maskBytes (m : FloorMask) : List Byte :=
  [m.extractLsb' 40 8, m.extractLsb' 32 8, m.extractLsb' 24 8, m.extractLsb' 16 8, m.extractLsb' 8 8,
    m.extractLsb' 0 8]

/-- The floor mask of six bytes. -/
def maskOf (bs : List Byte) : FloorMask :=
  BitVec.ofNat 48 ((bs.take 6).foldl (fun acc b => acc * 256 + b.toNat) 0)

/-- The payload of a COMMAND (3-2). -/
def Command.payload (c : Command) : List Byte :=
  byte c.code ::
    match c with
    | .general => []
    | .hold e => [byte e]
    | .resume e => [byte e]
    | .silence e => [byte e]
    | .resound e => [byte e]
    | .allClear => []
    | .zoneDisable z => [byte z]
    | .zoneEnable z => [byte z]
    | .take m n => maskBytes m ++ word n
    | .keep n => word n
    | .give m => maskBytes m
    | .testAnnounce m n => maskBytes m ++ [byte n]
    | .liftRestore bank => [byte bank]

/-- A whole COMMAND sent to `dest`, or `none` when it is set aside (R44). -/
def takeCommand (dest : Nat) (payload : List Byte) : Option Command :=
  match payload with
  | [] => none
  | k :: args =>
    let a (i : Nat) : Nat := (args.getD i 0).toNat
    let broadcast (n : Nat) : Bool := args.length == n && dest == 63
    match k.toNat with
    | 1 => if broadcast 0 then some .general else none
    | 2 => if broadcast 1 then some (.hold (a 0)) else none
    | 3 => if broadcast 1 then some (.resume (a 0)) else none
    | 4 => if broadcast 1 then some (.silence (a 0)) else none
    | 5 => if broadcast 1 then some (.resound (a 0)) else none
    | 6 => if broadcast 0 then some .allClear else none
    | 7 => if args.length == 1 && dest < 48 && 1 ≤ a 0 && a 0 ≤ 8 then some (.zoneDisable (a 0)) else none
    | 8 => if args.length == 1 && dest < 48 && 1 ≤ a 0 && a 0 ≤ 8 then some (.zoneEnable (a 0)) else none
    | 9 => if broadcast 8 then some (.take (maskOf args) (a 6 * 256 + a 7)) else none
    | 10 => if broadcast 2 then some (.keep (a 0 * 256 + a 1)) else none
    | 11 => if broadcast 6 then some (.give (maskOf args)) else none
    | 12 => if broadcast 7 && 1 ≤ a 6 && a 6 ≤ 15 then some (.testAnnounce (maskOf args) (a 6)) else none
    | 13 => if args.length == 1 && (a 0 == 48 || a 0 == 49) && dest == a 0 then some (.liftRestore (a 0)) else none
    | _ => none

/-! ## MARK records (3-2, R42, R44) -/

def cadenceCode : CadenceKind → Nat
  | .alert => 1
  | .evacuate => 2

/-- A MARK record: cadence kind, offset, cycle length. -/
structure MarkRecord where
  kind : CadenceKind
  offset : Nat
  cycle : Nat
  deriving DecidableEq, Repr

/-- The payload of a MARK (3-2). -/
def MarkRecord.payload (m : MarkRecord) : List Byte := [byte (cadenceCode m.kind), byte m.offset] ++ word m.cycle

/-- A whole MARK from `source`, or `none` when it is set aside (R44). -/
def takeMark (source : Nat) (payload : List Byte) : Option MarkRecord :=
  let b (i : Nat) : Nat := (payload.getD i 0).toNat
  let cycle := b 2 * 256 + b 3
  if source < 48 && payload.length == 4 && 2 ≤ cycle && b 1 * 2 ≤ cycle then
    match b 0 with
    | 1 => some { kind := .alert, offset := b 1, cycle := cycle }
    | 2 => some { kind := .evacuate, offset := b 1, cycle := cycle }
    | _ => none
  else none

end Sys2Proof.Machine
end

