-- ==== Sys2Proof/Machine/Ops.lean ====
section
/-! DEFINITION. Shared operations over the state: timers, debounce, the fault list, the line counters, entries of the
peer table. -/

namespace Sys2Proof.Machine

/-! ## Timers (R2) -/

/-- One tick event passes on a running timer. -/
def Timer.tick (t : Timer) : Timer := t.map (fun n => n - 1)

/-- A timer started at `n` tick events. -/
def Timer.start (n : Nat) : Timer := some n

/-- The timer has expired and its expiry has not been acted on. -/
def Timer.due (t : Timer) : Bool := t == some 0

/-! ## Debounced inputs (R115, R127) -/

/-- One sample of an input. -/
def Debounced.sample (level : Bool) (d : Debounced) : Debounced :=
  if d.candidate = some level then { d with run := min 4 (d.run + 1) }
  else { d with candidate := some level, run := 1 }

/-- The run has reached 4 with a candidate that differs from the accepted level. -/
def Debounced.due (d : Debounced) : Bool := d.run == 4 && d.candidate == some (!d.accepted)

/-- The candidate becomes the accepted level. -/
def Debounced.accept (d : Debounced) : Debounced := { d with accepted := d.candidate.getD d.accepted }

/-- The one sample taken at the entry to LISTEN. -/
def Debounced.atListen (level : Bool) : Debounced := { accepted := level, candidate := some level, run := 4 }

/-! ## The fault list (R171, R172) -/

/-- The severity rank of 11-2. -/
def FaultKind.rank : FaultKind → Nat
  | .configDefaulted => 18
  | .duplicateAddress => 17
  | .liftUnavailable => 16
  | .doorLock => 15
  | .zoneShort => 14
  | .zoneOpen => 13
  | .lineDegraded => 12
  | .peerSilent => 11
  | .phaseDisagree => 10
  | .paramDisagree => 9
  | .messageTimeout => 8
  | .liftInput => 7
  | .doorHeld => 6
  | .authorityLapsed => 5
  | .frameDropped => 4
  | .configClamped => 3
  | .foreignCommand => 2
  | .originOverflow => 1

/-- Whether a record is the one of this kind and subject. -/
def FaultRecord.is (kind : FaultKind) (subject : Nat) (r : FaultRecord) : Bool :=
  r.kind == kind && r.subject == subject

/-- The records without the inactive one nearest the head. -/
def dropOldestInactive : List FaultRecord → List FaultRecord
  | [] => []
  | r :: rs => if r.active then r :: dropOldestInactive rs else rs

/-- A raise (R171). -/
def FaultList.raise (kind : FaultKind) (subject : Nat) (now : Word16) (l : FaultList) : FaultList :=
  let fresh : FaultRecord := { kind := kind, subject := subject, active := true, count := 1, firstSeen := now }
  if l.records.any (FaultRecord.is kind subject) then
    { l with records := l.records.map (fun r =>
        if r.is kind subject then { r with active := true, count := min 255 (r.count + 1) } else r) }
  else if l.records.length < 16 then { l with records := l.records ++ [fresh] }
  else if l.records.any (fun r => !r.active) then { l with records := dropOldestInactive l.records ++ [fresh] }
  else { l with overflow := min 255 (l.overflow + 1) }

/-- A clearing condition (R172): only the active flag changes. -/
def FaultList.clear (kind : FaultKind) (subject : Nat) (l : FaultList) : FaultList :=
  { l with records := l.records.map (fun r => if r.is kind subject then { r with active := false } else r) }

/-- Every record of a kind becomes inactive (R173). -/
def FaultList.clearKind (kind : FaultKind) (l : FaultList) : FaultList :=
  { l with records := l.records.map (fun r => if r.kind = kind then { r with active := false } else r) }

/-- The active count (R172). -/
def FaultList.activeCount (l : FaultList) : Nat := (l.records.filter (fun r => r.active)).length

/-- The rank and code of the worse of a record and what was worst so far. -/
def worseFault (best : Nat × Nat) (r : FaultRecord) : Nat × Nat :=
  if r.active && best.1 < r.kind.rank then (r.kind.rank, r.kind.code) else best

/-- The worst kind: the code of the active record of the highest rank, 0 when none is active (R172). -/
def FaultList.worst (l : FaultList) : Nat := (l.records.foldl worseFault (0, 0)).2

/-- A block raises a fault; the seconds counter is the first-seen second (R171). -/
def State.raise (kind : FaultKind) (subject : Nat) (s : State) : State :=
  { s with faults := s.faults.raise kind subject s.time.second }

/-- A fault becomes inactive. -/
def State.clearFault (kind : FaultKind) (subject : Nat) (s : State) : State :=
  { s with faults := s.faults.clear kind subject }

/-- Every fault of a kind becomes inactive. -/
def State.clearFaults (kind : FaultKind) (s : State) : State := { s with faults := s.faults.clearKind kind }

/-- A raise that is made inactive in its own event (FOREIGN-COMMAND, ORIGIN-OVERFLOW). -/
def State.raiseAtOnce (kind : FaultKind) (subject : Nat) (s : State) : State :=
  (s.raise kind subject).clearFault kind subject

/-! ## Line counters (R26, R27) -/

/-- A 16-bit counter that saturates (R26). -/
def bump16 (n : Nat) : Nat := min 65535 (n + 1)

/-- A bad frame in the window: LINE-DEGRADED is raised as the count rises from 16 to 17 (R27). It counts as active from
there by the flag kept here, also when a full fault list had no place for its record (log 24). -/
def State.badFrame (s : State) : State :=
  let degrades := s.line.windowCount = 16 ∧ ¬ s.line.degraded
  let s1 := { s with line := { s.line with windowCount := min 255 (s.line.windowCount + 1),
                                           degraded := s.line.degraded || decide degrades } }
  if degrades then s1.raise .lineDegraded 0 else s1

/-- An accepted record set aside by taking apart (R43, R44). -/
def State.setAside (s : State) : State :=
  ({ s with line := { s.line with unknownKind := bump16 s.line.unknownKind } }).badFrame

/-! ## Records of the tables -/

def State.zone (s : State) (z : Nat) : Zone := s.zones.at z (Zone.atReset .unused)

def State.stair (s : State) (i : Nat) : Stair := s.stairs.at i (Stair.atReset false 0)

def State.car (s : State) (c : Nat) : Car := s.cars.at c (Car.atReset false)

def State.phaseOf (s : State) (f : Nat) : Phase := s.regime.phases.at f .quiet

def State.floorEntry (s : State) (f : Nat) : FloorEntry := s.peers.floors.at f FloorEntry.atReset

def State.bankEntry (s : State) (b : Nat) : BankEntry := s.peers.banks.at b BankEntry.atReset

def State.consoleEntry (s : State) (c : Nat) : ConsoleEntry := s.peers.consoles.at c ConsoleEntry.atReset

def State.updZone (s : State) (z : Nat) (f : Zone → Zone) : State := { s with zones := s.zones.upd z f }

def State.updStair (s : State) (i : Nat) (f : Stair → Stair) : State := { s with stairs := s.stairs.upd i f }

def State.updCar (s : State) (c : Nat) (f : Car → Car) : State := { s with cars := s.cars.upd c f }

def Peers.updFloor (p : Peers) (f : Nat) (g : FloorEntry → FloorEntry) : Peers := { p with floors := p.floors.upd f g }

def Peers.updBank (p : Peers) (b : Nat) (g : BankEntry → BankEntry) : Peers := { p with banks := p.banks.upd b g }

def Peers.updConsole (p : Peers) (c : Nat) (g : ConsoleEntry → ConsoleEntry) : Peers :=
  { p with consoles := p.consoles.upd c g }

/-- Whether an address names a peer entry (R74). -/
def isPeerAddress (a : Nat) : Bool := a < 48 || a == 48 || a == 49 || (56 ≤ a && a ≤ 59)

/-- The common fields of the entry that an address names (R74). -/
def Peers.base (p : Peers) (a : Nat) : PeerBase :=
  if a < 48 then (p.floors.at a FloorEntry.atReset).base
  else if a < 50 then (p.banks.at (a - 48) BankEntry.atReset).base
  else (p.consoles.at (a - 56) ConsoleEntry.atReset).base

/-- A change of the common fields of the entry that an address names. -/
def Peers.updBase (p : Peers) (a : Nat) (f : PeerBase → PeerBase) : Peers :=
  if a < 48 then p.updFloor a (fun e => { e with base := f e.base })
  else if a < 50 then p.updBank (a - 48) (fun e => { e with base := f e.base })
  else p.updConsole (a - 56) (fun e => { e with base := f e.base })

/-- A change of the common fields of every entry, by its address. -/
def Peers.mapBase (p : Peers) (f : Nat → PeerBase → PeerBase) : Peers :=
  { p with floors := p.floors.mapIdx (fun i e => { e with base := f i e.base }),
           banks := p.banks.mapIdx (fun i e => { e with base := f (48 + i) e.base }),
           consoles := p.consoles.mapIdx (fun i e => { e with base := f (56 + i) e.base }) }

/-- The addresses of all entries, in order. -/
def peerAddresses : List Nat := List.range 48 ++ [48, 49, 56, 57, 58, 59]

/-- A count of changes, wrapping from 255 to 0 (3-5). -/
def wrapCount (n by_ : Nat) : Nat := (n + by_) % 256

end Sys2Proof.Machine
end

