-- ==== Sys2Proof/Machine/Operands.lean ====
section
/-! DEFINITION. The forms in which the input pins are read: loop bands, stair lines and the car lines that share
their pins (R57, R115, R127). -/

namespace Sys2Proof.Machine

/-- The class of a loop reading (R57). -/
def loopClass (reading : Nat) : LoopClass :=
  if reading ≤ 19 then .short
  else if reading ≤ 89 then .alarm
  else if reading ≤ 169 then .normal
  else .opened

end Sys2Proof.Machine

namespace Sys2Proof

/-- The reading of a zone's loop input. -/
def Inputs.reading (p : Inputs) (zone : Nat) : Nat := (p.loops.at zone 0).toNat

/-- A loop input read as a level: 128..255 is high (R127). -/
def Inputs.loopLevel (p : Inputs) (i : Nat) : Bool := 128 ≤ p.reading i

/-- The level of a stair's line (R115). -/
def Inputs.stairLine (p : Inputs) (stair : Nat) : StairInput → Bool
  | .door => p.door.at stair false
  | .feedback => p.feedback.at stair false
  | .key => p.key.at stair false

/-- The level of a car's line, on the pins of R127; car 0 is the manual's car 1. -/
def Inputs.carLine (p : Inputs) (car : Nat) : CarInput → Bool
  | .autoService => p.loopLevel (2 * car)
  | .doorsOpen => p.loopLevel (2 * car + 1)
  | .atPrimary => p.feedback.at car false
  | .atAlternate => p.door.at car false
  | .ffKey => p.key.at car false

end Sys2Proof

namespace Sys2Proof.Machine

def Stair.input (s : Stair) : StairInput → Debounced
  | .door => s.door
  | .feedback => s.feedback
  | .key => s.key

def Stair.setInput (s : Stair) (i : StairInput) (d : Debounced) : Stair :=
  match i with
  | .door => { s with door := d }
  | .feedback => { s with feedback := d }
  | .key => { s with key := d }

def Car.input (c : Car) : CarInput → Debounced
  | .autoService => c.autoService
  | .doorsOpen => c.doorsOpen
  | .atPrimary => c.atPrimary
  | .atAlternate => c.atAlternate
  | .ffKey => c.ffKey

def Car.setInput (c : Car) (i : CarInput) (d : Debounced) : Car :=
  match i with
  | .autoService => { c with autoService := d }
  | .doorsOpen => { c with doorsOpen := d }
  | .atPrimary => { c with atPrimary := d }
  | .atAlternate => { c with atAlternate := d }
  | .ffKey => { c with ffKey := d }

/-- One sample of each of a stair's inputs (R115). -/
def Stair.sample (p : Inputs) (i : Nat) (s : Stair) : Stair :=
  { s with door := s.door.sample (p.stairLine i .door), feedback := s.feedback.sample (p.stairLine i .feedback),
           key := s.key.sample (p.stairLine i .key) }

/-- The sample at the entry to LISTEN (R115). -/
def Stair.sampleAtListen (p : Inputs) (i : Nat) (s : Stair) : Stair :=
  { s with door := Debounced.atListen (p.stairLine i .door),
           feedback := Debounced.atListen (p.stairLine i .feedback),
           key := Debounced.atListen (p.stairLine i .key) }

/-- One sample of each of a car's inputs (R127). -/
def Car.sample (p : Inputs) (i : Nat) (c : Car) : Car :=
  { c with autoService := c.autoService.sample (p.carLine i .autoService),
           doorsOpen := c.doorsOpen.sample (p.carLine i .doorsOpen),
           atPrimary := c.atPrimary.sample (p.carLine i .atPrimary),
           atAlternate := c.atAlternate.sample (p.carLine i .atAlternate),
           ffKey := c.ffKey.sample (p.carLine i .ffKey) }

/-- The sample at the entry to LISTEN (R127). -/
def Car.sampleAtListen (p : Inputs) (i : Nat) (c : Car) : Car :=
  { c with autoService := Debounced.atListen (p.carLine i .autoService),
           doorsOpen := Debounced.atListen (p.carLine i .doorsOpen),
           atPrimary := Debounced.atListen (p.carLine i .atPrimary),
           atAlternate := Debounced.atListen (p.carLine i .atAlternate),
           ffKey := Debounced.atListen (p.carLine i .ffKey) }

end Sys2Proof.Machine
end

