-- ==== Sys2Proof/Machine/Flags.lean ====
section
/-! DEFINITION. The flags and values that follow from other state: activity, own phase, condition-present, compromise,
the class of a STATUS, cadence lengths. -/

namespace Sys2Proof.Machine

/-- The blocks act: LISTEN or RUN (R10). -/
def State.acts (s : State) : Bool := s.station.lifecycle == .listen || s.station.lifecycle == .run

/-- The station acts in this role. -/
def State.actsAs (s : State) (r : Role) : Bool := s.acts && s.station.role == some r

/-- The regime is active (R92). -/
def Regime.active (r : Regime) : Bool := !r.origins.isEmpty || r.general

/-- The floors of the origin list. -/
def Regime.originFloors (r : Regime) : List Nat := r.origins.map (fun x => x.origin)

/-- The phase of the own floor position (0-5). -/
def State.ownPhase (s : State) : Phase := s.phaseOf s.station.address

/-- The silence limit in seconds (5-5). -/
def State.silenceLimit (s : State) : Nat := 3 * s.image.heartbeat + 1

/-! ## Zones -/

/-- A supervised zone (R56). -/
def Zone.supervised (z : Zone) : Bool := z.kind != .unused

/-- A verified kind (R56). -/
def Zone.verified (z : Zone) : Bool := z.kind == .detector || z.kind == .lobby

/-- A zone whose loop is sampled (R57). -/
def Zone.classified (z : Zone) : Bool :=
  z.supervised && (z.state == .normal || z.state == .verifyConfirm || z.state == .alarm || z.state == .fault)

/-- Condition-present (R59). -/
def Zone.condition (z : Zone) : Bool := z.state == .alarm && z.accepted == some .alarm

/-- Loop power of each state (4-3, R56). -/
def Zone.power (z : Zone) : Bool := z.supervised && z.state != .disabled && z.state != .verifyReset

/-- The acceptance of a class is at hand (R58). -/
def Zone.acceptDue (z : Zone) : Bool := z.classified && z.run == 4 && z.candidate != z.accepted

/-- The zone as a report carries it (R39, R68). -/
def Zone.report (z : Zone) : ZoneReport := { state := z.state, condition := z.condition }

/-! ## Cars -/

/-- Whether a car is at its target (R128). -/
def Car.atTarget (c : Car) : Bool :=
  match c.target with
  | .none => false
  | .primary => c.atPrimary.accepted && !c.inputFault
  | .alternate => c.atAlternate.accepted && !c.inputFault

def Car.report (c : Car) : CarReport :=
  { state := c.state, target := c.target, late := c.late, restorePending := c.restorePending,
    inputFault := c.inputFault }

/-- The primary recall floor is compromised (R131). -/
def State.compromised (s : State) : Bool :=
  s.regime.originFloors.contains s.image.primary || (s.floorEntry s.image.primary).lobbyLatch

/-! ## Cadences (R155) -/

def Image.cadence (i : Image) : CadenceKind → CadenceParams
  | .alert => i.alertCadence
  | .evacuate => i.evacCadence

/-- The half-period h. -/
def CadenceParams.half (c : CadenceParams) : Nat := (c.p + 1) * (c.d + 1)

/-- The cycle length C = h × (2K + G). -/
def CadenceParams.cycle (c : CadenceParams) : Nat := c.half * (2 * c.k + c.g)

/-- The position at which on-pulse K ends and the end-of-cycle off-interval begins. -/
def CadenceParams.tail (c : CadenceParams) : Nat := c.half * (2 * c.k - 1)

def CadenceUnit.record (u : CadenceUnit) : CadenceKind → Cadence
  | .alert => u.alert
  | .evacuate => u.evac

def CadenceUnit.setRecord (u : CadenceUnit) (k : CadenceKind) (c : Cadence) : CadenceUnit :=
  match k with
  | .alert => { u with alert := c }
  | .evacuate => { u with evac := c }

/-- The length of the current cycle, its fixed correction included. -/
def Cadence.cycleLength (c : Cadence) (p : CadenceParams) : Nat := ((p.cycle : Int) + c.fixed.getD 0).toNat

/-- The record is in an on-pulse (9-6). -/
def Cadence.onPulse (c : Cadence) (p : CadenceParams) : Bool :=
  c.run != .stopped &&
  match c.pos with
  | none => false
  | some n => decide (n < p.tail) && n / p.half % 2 == 0

/-- A position at which an on-pulse after the first begins, or one ends (R156). -/
def CadenceParams.boundary (p : CadenceParams) (n : Nat) : Bool :=
  decide (0 < n) && decide (n ≤ p.tail) && n % p.half == 0

/-- The bell cadence of the floor (R156). -/
def State.bellCadence (s : State) : Option CadenceKind :=
  match s.ownPhase with
  | .evacuate => some .evacuate
  | .alert => if s.regime.silence % 2 = 0 then some .alert else none
  | _ => none

/-! ## Console link -/

/-- Link-alive is set while the link keep timer runs (R162). -/
def Link.alive (l : Link) : Bool := l.keep.isSome

/-! ## Status builder -/

/-- Some change latch is set (R49). -/
def State.latched (s : State) : Bool :=
  s.zones.any (fun z => z.latch) || s.stairs.any (fun x => x.latch) || s.cars.any (fun c => c.latch)

/-- The class of the STATUS entry (R50). -/
def State.statusClass (s : State) : FrameClass :=
  if s.zones.any (fun z => z.state == .alarm && z.mark)
      || s.regime.originFloors.any (fun f => !s.builder.reported.contains f) then .alarm
  else .status

end Sys2Proof.Machine
end

