-- ==== Sys2Proof/Machine/Regime.lean ====
section
/-! DEFINITION. The regime engine (chapter 6): origins, the spread tick, phases, GENERAL, epochs, taking in a peer's
view. -/

namespace Sys2Proof.Machine

/-! ## Spread records -/

/-- One accumulator step: the new accumulator and the extra step (R99). -/
def stepAccumulator (acc : Nat) (r : Rate) : Nat × Nat :=
  if acc < r.n then (acc + r.d - r.n, 1) else (acc - r.n, 0)

/-- Both edges have reached the building's limits (R100). -/
def Spread.atLimits (i : Image) (r : Spread) : Bool := r.upEdge == i.high && r.downEdge == i.low

/-- One spread tick (R99, R100). -/
def Spread.tick (i : Image) (r : Spread) : Spread :=
  let up := stepAccumulator r.accUp i.up
  let down := stepAccumulator r.accDown i.down
  let r := { r with accUp := up.1, upEdge := min i.high (r.upEdge + i.up.w + up.2),
                    accDown := down.1, downEdge := max i.low (r.downEdge - (i.down.w + down.2)),
                    applied := r.applied + 1 }
  { r with complete := r.atLimits i }

/-- `n` spread ticks, stopping when the record is complete (R98). -/
def Spread.ticks (i : Image) : Nat → Spread → Spread
  | 0, r => r
  | n + 1, r => if r.complete then r else Spread.ticks i n (r.tick i)

/-- The ticks owed: ⌊e / T⌋ − k (R98). -/
def Spread.applyOwed (i : Image) (r : Spread) : Spread := Spread.ticks i (r.elapsed / i.period - r.applied) r

/-- The onset values of an origin (R94). -/
def Spread.onset (i : Image) (f : Nat) : Spread :=
  let r : Spread := { origin := f, elapsed := 0, applied := 0, upEdge := min i.high (f + i.bandUp),
                      downEdge := max i.low (f - i.bandDown), accUp := i.up.d / 2, accDown := i.down.d / 2,
                      complete := false }
  { r with complete := r.atLimits i }

/-- One second while the spread runs: e rises, saturating, and the owed ticks are applied (R97, R98). -/
def Spread.second (i : Image) (r : Spread) : Spread :=
  ({ r with elapsed := min 65535 (r.elapsed + 1) }).applyOwed i

/-- A larger elapsed value is adopted and the owed ticks are applied (R106). -/
def Spread.adopt (i : Image) (elapsed : Nat) (r : Spread) : Spread :=
  if r.elapsed < elapsed then ({ r with elapsed := elapsed }).applyOwed i else r

/-! ## Phases (R101, R102) -/

def Phase.max (a b : Phase) : Phase := if a.code < b.code then b else a

/-- The phase one record gives a floor (R101). -/
def Spread.phase (i : Image) (r : Spread) (f : Nat) : Phase :=
  if r.downEdge ≤ f ∧ f ≤ r.upEdge then .evacuate
  else if r.downEdge ≤ f + i.margin ∧ f ≤ r.upEdge + i.margin then .alert
  else .standby

/-- The floor position lies within L..H. -/
def Image.inUse (i : Image) (f : Nat) : Bool := i.low ≤ f && f ≤ i.high

/-- The computed phase of a floor (R101). -/
def Regime.computed (i : Image) (r : Regime) (f : Nat) : Phase :=
  if !i.inUse f || !r.active then .quiet
  else if r.general then .evacuate
  else r.origins.foldl (fun p x => p.max (x.phase i f)) .quiet

/-- Every stored phase becomes the higher of the computed and the stored one (R102). -/
def Regime.recompute (i : Image) (r : Regime) : Regime :=
  { r with phases := r.phases.mapIdx (fun f p => p.max (r.computed i f)) }

def State.recompute (s : State) : State := { s with regime := s.regime.recompute s.image }

/-! ## GENERAL and the epochs -/

/-- GENERAL is set (R103). -/
def State.setGeneral (s : State) : State :=
  if s.regime.general then s else ({ s with regime := { s.regime with general := true } }).recompute

/-- h_e adopts a larger value (R104). -/
def State.adoptHold (e : Nat) (s : State) : State := { s with regime := { s.regime with hold := max s.regime.hold e } }

/-- s_e adopts a larger value (R104). -/
def State.adoptSilence (e : Nat) (s : State) : State :=
  { s with regime := { s.regime with silence := max s.regime.silence e } }

/-- The resound of R95: an odd s_e below 255 is raised to the next even value. -/
def Regime.resound (r : Regime) : Regime :=
  if r.silence % 2 = 1 ∧ r.silence < 255 then { r with silence := r.silence + 1 } else r

/-! ## Origins -/

/-- A floor refused for a full list (R96). -/
def State.refuseOrigin (f : Nat) (s : State) : State :=
  let s1 := if s.regime.overflow.getLsbD f then s
    else ({ s with regime := { s.regime with overflow := s.regime.overflow ||| BitVec.twoPow 48 f } }).raiseAtOnce
      .originOverflow f
  s1.setGeneral

/-- A floor not in the list and within L..H is added with its elapsed value, or refused (R94, R95, R96, R106). -/
def State.addOrigin (f elapsed : Nat) (s : State) : State :=
  if !s.image.inUse f || s.regime.originFloors.contains f then s
  else if s.regime.origins.length < 8 then
    let r := ({ Spread.onset s.image f with elapsed := elapsed }).applyOwed s.image
    { s with regime := ({ s.regime with origins := s.regime.origins ++ [r] }).resound }
  else s.refuseOrigin f

/-- An alarm latch has been set for the first time in the generation (R94). -/
def State.latchOrigin (f : Nat) (s : State) : State := (s.addOrigin f 0).recompute

/-- One entry of a received summary (R106). -/
def State.takeOrigin (s : State) (o : Nat × Nat) : State :=
  if s.image.inUse o.1 && s.regime.originFloors.contains o.1 then
    { s with regime := { s.regime with origins := s.regime.origins.map (fun r =>
        if r.origin = o.1 then r.adopt s.image o.2 else r) } }
  else s.addOrigin o.1 o.2

/-- Taking in the regime fields of a merged STATUS: GENERAL, epochs, origins, one recomputation (R105). -/
def State.intake (r : StatusRecord) (s : State) : State :=
  let s1 := if r.general then s.setGeneral else s
  let s2 := (s1.adoptHold r.hold).adoptSilence r.silence
  (r.origins.foldl State.takeOrigin s2).recompute

/-! ## Generations -/

/-- δ, the difference of two generations modulo 256 (R80, R108). -/
def delta (received own : Byte) : Nat := (received - own).toNat

/-- The first adoption of a generation (R111). -/
def State.firstAdoption (g : Byte) (s : State) : State := { s with regime := { s.regime with generation := some g } }

/-- The regime engine at the adoption of a newer generation (R112). -/
def Regime.allClear (g : Byte) : Regime := { Regime.atReset with generation := some g }

/-- Seconds of the regime engine (R97, R98). -/
def State.regimeSecond (s : State) : State :=
  if s.regime.hold % 2 = 0 then
    ({ s with regime := { s.regime with origins := s.regime.origins.map (Spread.second s.image) } }).recompute
  else s

end Sys2Proof.Machine
end

