-- ==== Sys2Proof/Machine/Builder.lean ====
section
/-! DEFINITION. The status builder (3-5): change causes, placement, class, snapshot, and what it does when a flight
ends; and the entry to RUN (R14, R46). -/

namespace Sys2Proof.Machine

/-- The entry to RUN (R14, R15, R46). -/
def State.runEntry (s : State) : State :=
  let offset := s.station.address * s.image.heartbeat * 100 / 64
  { s with station := { s.station with lifecycle := .run },
           builder := { s.builder with
             heartbeat := Timer.start (if offset = 0 then s.image.heartbeat * 100 else offset),
             heartbeatOwed := s.builder.heartbeatOwed || offset == 0 },
           lamps := { s.lamps with runLit := true, runFlash := none } }

/-! ## Change causes (R48) -/

/-- The fields of the regime view whose change is a change cause (R48). -/
def Regime.view (r : Regime) : Option Byte × Bool × Nat × Nat × List Nat :=
  (r.generation, r.general, r.hold, r.silence, r.originFloors)

/-- A change cause lies between two states of one event (R48). -/
def changeCause (old new : State) : Bool :=
  old.zones.list.map (fun z => z.count) != new.zones.list.map (fun z => z.count)
  || old.stairs.list.map (fun x => x.count) != new.stairs.list.map (fun x => x.count)
  || old.cars.list.map (fun c => c.count) != new.cars.list.map (fun c => c.count)
  || old.regime.view != new.regime.view
  || (new.station.role == some .floor
      && (old.speaker.level != new.speaker.level || old.speaker.source != new.speaker.source
          || old.authority.console != new.authority.console || old.ownPhase != new.ownPhase))
  || (new.station.role == some .console && old.link.alive != new.link.alive)

/-- A report is owed (R49). -/
def State.reportOwed (s : State) : Bool := s.builder.heartbeatOwed || s.builder.changeDue || s.latched

/-- Placement and class at the end of an event (R49, R50): an owed entry is placed when its class permits, and a
PENDING entry is raised to ALARM when its class is found ALARM. -/
def State.placeStatus (s : State) : State :=
  if s.station.lifecycle != .run then s
  else match s.slots.status with
    | none =>
      if s.reportOwed && (s.statusClass == .alarm || s.builder.spacing.isNone) then
        { s with slots := { s.slots with
            status := some { cls := s.statusClass, collisions := 0, standing := .pending } } }
      else s
    | some e =>
      if e.standing == .pending && s.statusClass == .alarm then
        { s with slots := { s.slots with status := some { e with cls := .alarm } } }
      else s

/-- The builder at the end of an event: it takes the change causes and places its entry. -/
def State.builderReact (s old : State) : State :=
  ({ s with builder := { s.builder with changeDue := s.builder.changeDue || changeCause old s } }).placeStatus

/-! ## Filling a STATUS (R38 to R40, R51) -/

/-- The changed-since mask (R39). -/
def State.changedMask (s : State) : Nat :=
  (listMapFrom (fun i (z : Zone) => flag z.latch i) 0 s.zones.list).sum

/-- The role body as it stands (R39, R40). -/
def State.statusBody (s : State) : StatusBody :=
  match s.station.role with
  | some .lift => .lift (s.cars.map Car.report) s.restoreRefused
  | some .console => .console s.link.alive
  | _ => .floor s.ownPhase s.speaker.level s.speaker.source (s.authority.console.getD 63) (s.zones.map Zone.report)
      s.changedMask (s.stairs.map (fun x => x.state))

/-- The STATUS record as it stands (R38). -/
def State.statusRecord (s : State) : StatusRecord :=
  { unset := s.regime.generation.isNone, general := s.regime.general, listenComplete := s.station.listenComplete,
    hold := s.regime.hold, silence := s.regime.silence, digest := s.station.digest,
    faultCount := s.faults.activeCount, worstFault := s.faults.worst,
    origins := s.regime.origins.map (fun r => (r.origin, r.elapsed)), body := s.statusBody }

/-- The generation byte: the station's generation, 0 while unset (3-1). -/
def State.generationByte (s : State) : Byte := s.regime.generation.getD 0

/-- The frame of a STATUS of class `cls` (R20, R37). -/
def State.statusFrame (cls : FrameClass) (s : State) : Frame :=
  { source := s.station.address, cls := cls, dest := 63, code := s.statusBody.code, generation := s.generationByte,
    payload := s.statusRecord.payload }

/-- The snapshot's bookkeeping (R51). -/
def State.snapshot (s : State) : Snapshot :=
  { zones := s.zones.map (fun z => ⟨z.latch, z.count, z.mark⟩),
    stairs := s.stairs.map (fun x => ⟨x.latch, x.count, false⟩),
    cars := s.cars.map (fun c => ⟨c.latch, c.count, false⟩),
    origins := s.regime.originFloors, generation := s.regime.generation }

/-- The builder takes its snapshot at the start of the frame (R51). -/
def State.takeSnapshot (s : State) : State :=
  { s with builder := { s.builder with snapshot := some s.snapshot, heartbeatOwed := false, changeDue := false } }

/-! ## The end of a flight (R52 to R54) -/

def Kept.none : Kept := { latch := false, count := 0, mark := false }

def Zone.reported (k : Kept) (z : Zone) : Zone :=
  if k.count = z.count then { z with latch := z.latch && !k.latch, mark := z.mark && !k.mark } else z

def Stair.reported (k : Kept) (x : Stair) : Stair :=
  if k.count = x.count then { x with latch := x.latch && !k.latch } else x

def Car.reported (k : Kept) (c : Car) : Car :=
  if k.count = c.count then { c with latch := c.latch && !k.latch } else c

/-- The snapshot's generation is older than the station's own (R55). -/
def Snapshot.older (k : Snapshot) (own : Option Byte) : Bool := k.generation.isSome && own.isSome && k.generation != own

/-- The builder at the completion of the STATUS (R52, R55). -/
def State.statusCompleted (s : State) : State :=
  match s.builder.snapshot with
  | none => { s with builder := { s.builder with spacing := Timer.start 20 } }
  | some k =>
    { s with zones := s.zones.mapIdx (fun i z => z.reported (k.zones.at i Kept.none)),
             stairs := s.stairs.mapIdx (fun i x => x.reported (k.stairs.at i Kept.none)),
             cars := s.cars.mapIdx (fun i c => c.reported (k.cars.at i Kept.none)),
             builder := { s.builder with
               reported := if k.older s.regime.generation then [] else k.origins,
               snapshot := none, spacing := Timer.start 20 } }

/-- The builder when an attempt ends unsent (R53). -/
def State.statusUnsent (s : State) : State :=
  { s with builder := { s.builder with snapshot := none, changeDue := false } }

/-- The builder when the STATUS is dropped (R54). -/
def State.statusDropped (s : State) : State :=
  { s with builder := { s.builder with snapshot := none, changeDue := true, spacing := Timer.start 20 } }

/-- The builder at the adoption of a newer generation (R55). -/
def State.builderAllClear (s : State) : State :=
  { s with builder := { s.builder with reported := [] },
           zones := s.zones.map (fun z => { z with mark := false }) }

end Sys2Proof.Machine
end

