-- ==== Sys2Proof/Machine/Zones.lean ====
section
/-! DEFINITION. The zone supervisor (chapter 4). -/

namespace Sys2Proof.Machine

/-- Loop power removed 2 s, settle 3 s, confirm window 60 s, in tick events (R63). -/
def verifyResetTicks : Nat := 200
def verifySettleTicks : Nat := 300
def confirmTicks : Nat := 6000

/-- One sample of a classified zone (R58). -/
def Zone.sample (c : LoopClass) (z : Zone) : Zone :=
  if z.candidate = some c then { z with run := min 4 (z.run + 1) } else { z with candidate := some c, run := 1 }

/-- Classification is restarted (R58). -/
def Zone.restart (z : Zone) : Zone := { z with candidate := none, run := 0, accepted := none }

/-- The changes between two forms of a zone record: state and condition-present (R59). -/
def Zone.changes (old new : Zone) : Nat :=
  (if old.state = new.state then 0 else 1) + (if old.condition = new.condition then 0 else 1)

/-- The record `new` with the change latch and count that its changes from `old`, and `extra` others, call for
(R59). -/
def Zone.account (old : Zone) (extra : Nat) (new : Zone) : Zone :=
  let n := old.changes new + extra
  { new with latch := old.latch || decide (0 < n), count := wrapCount old.count n }

/-- A zone record is changed, with its latch and count (R59). -/
def State.changeZone (z extra : Nat) (f : Zone → Zone) (s : State) : State :=
  s.updZone z (fun old => old.account extra (f old))

/-- A zone's faults become inactive (R61). -/
def State.clearZoneFaults (z : Nat) (s : State) : State :=
  (s.clearFault .zoneOpen (z + 1)).clearFault .zoneShort (z + 1)

/-- The zone faults at the acceptance of a class (R61). -/
def State.zoneFaults (z : Nat) (c : LoopClass) (s : State) : State :=
  match c with
  | .opened => (s.clearFault .zoneShort (z + 1)).raise .zoneOpen (z + 1)
  | .short => (s.clearFault .zoneOpen (z + 1)).raise .zoneShort (z + 1)
  | _ => s.clearZoneFaults z

/-- What the entry of own zone `z` into ALARM does beyond its record (R67): the own floor entry's latches, the
origin when the alarm latch is first set, and the end of LISTEN (R13). -/
def State.alarmEntered (z : Nat) (s : State) : State :=
  let own := s.station.address
  let first := !(s.floorEntry own).alarmLatch
  let lobby := (s.zone z).kind == .lobby
  let s1 := { s with peers := s.peers.updFloor own (fun e =>
      { e with alarmLatch := true, lobbyLatch := e.lobbyLatch || lobby }) }
  let s2 := if first then s1.latchOrigin own else s1
  if s2.station.lifecycle == .listen then s2.runEntry else s2

/-- The state a classified zone takes at the acceptance of class `c` (R60, R62, R64, R65, R66). -/
def Zone.nextState (active : Bool) (c : LoopClass) (z : Zone) : ZoneState :=
  match z.state with
  | .normal | .fault =>
    match c with
    | .alarm => if z.verified && !active then .verifyReset else .alarm
    | .normal => .normal
    | _ => .fault
  | .verifyConfirm =>
    match c with
    | .alarm => .alarm
    | .normal => if z.stage.isSome then .verifyConfirm else .normal
    | _ => .fault
  | other => other

/-- The record after the acceptance of class `c` (R58 to R66). -/
def Zone.acceptClass (active : Bool) (c : LoopClass) (z : Zone) : Zone :=
  let next := z.nextState active c
  { z with accepted := some c, state := next,
           stage := if next = .verifyReset then Timer.start verifyResetTicks
                    else if next = .verifyConfirm then z.stage else none,
           mark := z.mark || (next == .alarm && z.state != .alarm) }

/-- The acceptance of class `c` by zone `z` (R58 to R67). -/
def State.acceptClass (z : Nat) (c : LoopClass) (s : State) : State :=
  let old := s.zone z
  let active := s.regime.active
  let extra := if old.accepted = none then 0 else 1
  let s1 := (s.zoneFaults z c).changeZone z extra (Zone.acceptClass active c)
  if old.state ≠ .alarm ∧ old.nextState active c = .alarm then s1.alarmEntered z else s1

/-- The expiry of the VERIFY-RESET or VERIFY-SETTLE stage (R63). -/
def Zone.stageExpired (active : Bool) (z : Zone) : Zone :=
  match z.state with
  | .verifyReset => { z with state := .verifySettle, stage := Timer.start verifySettleTicks }
  | .verifySettle =>
    { z.restart with state := .verifyConfirm, stage := if active then none else Timer.start confirmTicks }
  | _ => z

/-- The expiry of the confirm window (R64): accepted class, candidate and run are kept. -/
def Zone.confirmExpired (z : Zone) : Zone := { z with state := .normal, stage := none }

/-- ZONE DISABLE on a record (R69). -/
def Zone.disable (z : Zone) : Zone := { z with state := .disabled, stage := none }

/-- ZONE ENABLE on a record (R70). -/
def Zone.enable (z : Zone) : Zone := { z.restart with state := .normal }

/-- ZONE DISABLE (R69). -/
def State.disableZone (z : Nat) (s : State) : State :=
  if (s.zone z).supervised ∧ (s.zone z).state ≠ .disabled then (s.clearZoneFaults z).changeZone z 0 Zone.disable
  else s

/-- ZONE ENABLE (R70). -/
def State.enableZone (z : Nat) (s : State) : State :=
  if (s.zone z).supervised ∧ (s.zone z).state = .disabled then (s.clearZoneFaults z).changeZone z 0 Zone.enable
  else s

/-- The all-clear on a zone record (R71). A fourth sample not yet acted on is the first of a new run. -/
def Zone.allClear (z : Zone) : Zone :=
  let again := if z.acceptDue then { z.restart with candidate := z.candidate, run := 1 } else z.restart
  match z.state with
  | .alarm | .verifyReset | .verifySettle | .verifyConfirm =>
    { again with state := .normal, stage := none, mark := false }
  | _ => z

/-- The zone is restarted by the all-clear (R71). -/
def Zone.clearsAtAllClear (z : Zone) : Bool :=
  z.state == .alarm || z.state == .verifyReset || z.state == .verifySettle || z.state == .verifyConfirm

/-- The all-clear on one zone of the station (R71). -/
def State.allClearZone (s : State) (z : Nat) : State :=
  if (s.zone z).supervised ∧ (s.zone z).clearsAtAllClear then (s.clearZoneFaults z).changeZone z 0 Zone.allClear
  else s

/-- The zone supervisor at the all-clear (R71, R72). -/
def State.zonesAllClear (s : State) : State :=
  if s.station.role == some .floor then (List.range 8).foldl State.allClearZone s else s

/-- A zone when the regime becomes active (R65): the confirm window stops, and an ALARM run in hand is accepted. -/
def State.activateZone (s : State) (z : Nat) : State :=
  let r := s.zone z
  if r.supervised ∧ r.state = .verifyConfirm then
    let s1 := s.updZone z (fun x => { x with stage := none })
    if r.candidate = some .alarm ∧ 1 ≤ r.run then s1.acceptClass z .alarm else s1
  else s

/-- The zone supervisor when the regime becomes active (R65, R72). -/
def State.zonesActivated (s : State) : State :=
  if s.actsAs .floor then (List.range 8).foldl State.activateZone s else s

/-- The loops sampled at a tick event (R57, R58). -/
def State.sampleZones (s : State) : State :=
  if s.actsAs .floor then
    { s with zones := s.zones.mapIdx (fun i z =>
        if z.classified then z.sample (loopClass (s.pins.reading i)) else z) }
  else s

end Sys2Proof.Machine
end

