-- ==== Sys2Proof/Machine/Stairs.lean ====
section
/-! DEFINITION. The stair unit (chapter 7). -/

namespace Sys2Proof.Machine

/-- A pattern floor (R117). -/
def Image.patternFloor (i : Image) (f : Nat) : Bool :=
  i.patternStep != 0 && i.inUse f && decide (i.patternBase ≤ f) && (f - i.patternBase) % i.patternStep == 0

/-- The re-entry demand R (R116, R118). -/
def State.demand (s : State) : Bool :=
  let own := s.station.address
  s.regime.active
  && (own == s.image.primary || s.image.patternFloor own || s.ownPhase == .evacuate)
  && (!s.image.barOrigin || !s.regime.originFloors.contains own)

/-- The effective mask: bits 2 and 3 forced to 1 (R119). -/
def effectiveMask (m : Nat) : Nat := m % 4 + 12

/-- The unlock command (R119). -/
def Stair.command (demand : Bool) (x : Stair) : Bool :=
  x.release || (effectiveMask x.minterm).testBit (2 * demand.toNat + x.key.accepted.toNat)

/-- The feedback agrees with the lock output, which is high while the unlock command is 0 (7-6). -/
def Stair.agrees (x : Stair) : Bool := x.feedback.accepted == !x.unlock

/-- The state of a present stair (R121). -/
def Stair.derived (x : Stair) : StairState :=
  if x.release then .released
  else if x.feedbackFault then .fault
  else if x.unlock then .unlocked
  else .locked

/-- Release latch and unlock command under the demand R (R119, R120). -/
def Stair.drive (demand : Bool) (x : Stair) : Stair :=
  let x1 := { x with release := x.release || demand }
  { x1 with unlock := x1.command demand }

/-- The lock feedback check (R122). At an all-clear too: where the lock output that changes there agrees with the feedback,
the fault and DOOR-LOCK end in the same event, though R124 says that they are kept (log 16). -/
def Stair.check (x : Stair) : Stair :=
  if x.agrees then { x with mismatch := none, feedbackFault := false }
  else if !x.feedbackFault && x.mismatch.isNone then { x with mismatch := Timer.start 200 }
  else x

/-- The held-open timer at the end of an event: stopped at the all-clear, started as the regime becomes active with
the door OPEN (R123). -/
def Stair.heldOpenReact (cleared became : Bool) (limit : Nat) (x : Stair) : Stair :=
  let x1 := if cleared then { x with heldOpen := none } else x
  if became && !x1.door.accepted then { x1 with heldOpen := Timer.start (100 * limit) } else x1

/-- The state, with the change latch and count of its change (R121). -/
def Stair.settle (x : Stair) : Stair :=
  if x.derived = x.state then x
  else { x with state := x.derived, latch := true, count := wrapCount x.count 1 }

/-- A present stair at the end of an event. -/
def Stair.react (demand cleared became : Bool) (limit : Nat) (x : Stair) : Stair :=
  if x.present then (((x.drive demand).check).heldOpenReact cleared became limit).settle else x

/-- The DOOR-LOCK faults that became clear between two forms of the stair records (R122). -/
def State.clearDoorLocks (old : State) (s : State) : State :=
  (List.range 4).foldl (fun t i =>
    if (old.stair i).feedbackFault && !(s.stair i).feedbackFault then t.clearFault .doorLock (i + 1) else t) s

/-- The stair unit at the end of an event (R116 to R124). -/
def State.stairsReact (cleared became : Bool) (s : State) : State :=
  if s.actsAs .floor then
    State.clearDoorLocks s
      { s with stairs := s.stairs.map (Stair.react s.demand cleared became s.image.heldOpenLimit) }
  else s

/-- An accepted change of the door position (R123). -/
def State.doorChanged (i : Nat) (s : State) : State :=
  if (s.stair i).door.accepted then
    (s.updStair i (fun x => { x with heldOpen := none })).clearFault .doorHeld (i + 1)
  else if s.regime.active then
    s.updStair i (fun x => { x with heldOpen := Timer.start (100 * s.image.heldOpenLimit) })
  else s

/-- A debounced input of a stair is accepted (R115). -/
def State.acceptStairInput (i : Nat) (k : StairInput) (s : State) : State :=
  let s1 := s.updStair i (fun x => x.setInput k (x.input k).accept)
  match k with
  | .door => s1.doorChanged i
  | _ => s1

/-- The expiry of the mismatch timer (R122). -/
def State.mismatchExpired (i : Nat) (s : State) : State :=
  (s.updStair i (fun x => { x with mismatch := none, feedbackFault := true })).raise .doorLock (i + 1)

/-- The expiry of the held-open timer (R123). -/
def State.heldOpenExpired (i : Nat) (s : State) : State :=
  (s.updStair i (fun x => { x with heldOpen := none })).raise .doorHeld (i + 1)

/-- The stair unit at the all-clear: the release latches of present stairs are cleared (R124). -/
def State.stairsAllClear (s : State) : State :=
  if s.station.role == some .floor then
    { s with stairs := s.stairs.map (fun x => if x.present then { x with release := false } else x) }
  else s

/-- The stair inputs sampled at a tick event (R115). -/
def State.sampleStairs (s : State) : State :=
  if s.actsAs .floor then
    { s with stairs := s.stairs.mapIdx (fun i x => if x.present then x.sample s.pins i else x) }
  else s

end Sys2Proof.Machine
end

