-- ==== Sys2Proof/Machine/Lifts.lean ====
section
/-! DEFINITION. The lift unit (chapter 8). -/

namespace Sys2Proof.Machine

/-- The fields of a car byte in which two forms of a record differ (R130). -/
def Car.changes (old new : Car) : Nat :=
  (if old.state = new.state then 0 else 1) + (if old.target = new.target then 0 else 1)
  + (if old.late = new.late then 0 else 1) + (if old.restorePending = new.restorePending then 0 else 1)
  + (if old.inputFault = new.inputFault then 0 else 1)

/-- The record `new` with the change latch and count that its changes from `old` call for (R130). Every change of a car
is made through it, one entry to a state at a time: a car that goes on at once through a second state in the same event
counts that entry as well. -/
def Car.account (old new : Car) : Car :=
  { new with latch := old.latch || decide (0 < old.changes new), count := wrapCount old.count (old.changes new) }

/-- LIFT-UNAVAILABLE and LIFT-INPUT follow the change of a car record (R128, R134, R135, R139). -/
def State.carFaults (c : Nat) (old new : Car) (s : State) : State :=
  let s1 := if new.state = .unavailable ∧ old.state ≠ .unavailable then s.raise .liftUnavailable (c + 1)
    else if old.state = .unavailable ∧ new.state ≠ .unavailable then s.clearFault .liftUnavailable (c + 1)
    else s
  if new.inputFault && !old.inputFault then s1.raise .liftInput (c + 1)
  else if old.inputFault && !new.inputFault then s1.clearFault .liftInput (c + 1)
  else s1

/-- A present car's record is changed by `f`, which counts its changes itself, and the car's faults follow. -/
def State.changeCar (c : Nat) (f : Car → Car) (s : State) : State :=
  if (s.car c).present then (s.updCar c f).carFaults c (s.car c) (f (s.car c)) else s

/-- Entry to FIREFIGHTER when key and doors both stand (R137). -/
def Car.tryFirefighter (c : Car) : Car :=
  if c.ffKey.accepted && c.doorsOpen.accepted then c.account { c with state := .firefighter, recallTimer := none }
  else c

/-- A car parks (R134, R135). -/
def Car.park (c : Car) : Car :=
  (c.account { c with state := .parked, recallTimer := none,
                      late := c.late || c.state == CarState.unavailable }).tryFirefighter

/-- A car goes UNAVAILABLE (R134). -/
def Car.lose (c : Car) : Car := c.account { c with state := .unavailable, recallTimer := none }

/-- A car enters NORMAL (R139). -/
def Car.release (c : Car) : Car :=
  c.account { c with state := .normal, target := .none, recallTimer := none, late := false, restorePending := false }

/-- A car enters RECALLING to its target and goes on at once where it already stands there or is out of automatic
service (R132, R138). `timeout` is in seconds (R133). Of a car handed back that is both, R138 names both outcomes and
gives no order; parking wins, the order that R132 gives at the start of a recall (log 13). -/
def Car.recall (timeout : Nat) (target : Target) (c : Car) : Car :=
  let c1 := c.account { c with state := .recalling, target := target, recallTimer := Timer.start (100 * timeout) }
  if c1.atTarget then c1.park else if !c1.autoService.accepted then c1.lose else c1

/-- The regime becomes active (R132). -/
def Car.activate (timeout : Nat) (compromised : Bool) (c : Car) : Car :=
  match c.state with
  | .normal => c.recall timeout (if compromised then .alternate else .primary)
  | .firefighter => c.account { c with restorePending := false }
  | _ => c

/-- The primary is compromised: a car with target PRIMARY takes ALTERNATE (R136). -/
def Car.retarget (timeout : Nat) (c : Car) : Car :=
  if c.target ≠ .primary then c
  else
    let c1 := c.account { c with target := .alternate }
    match c.state with
    | .recalling | .parked =>
      let c2 := c1.account { c1 with state := .recalling, recallTimer := Timer.start (100 * timeout) }
      if c2.atTarget then c2.park else c2
    | .unavailable => if c1.atTarget then c1.park else c1
    | .firefighter => c1
    | .normal => c

/-- The lift unit at the end of an event (R131, R132, R136). -/
def State.carReact (became : Bool) (s : State) (c : Nat) : State :=
  s.changeCar c (fun x =>
    let x1 := if became then x.activate s.image.recallTimeout s.compromised else x
    if s.compromised then x1.retarget s.image.recallTimeout else x1)

/-- The four cars act in one event in the order of their numbers, which decides the order of the faults that the event
raises; the manual gives none (log 3). -/
def State.liftsReact (became : Bool) (s : State) : State :=
  if s.actsAs .lift then (List.range 4).foldl (State.carReact became) s else s

/-- The input-fault flag follows the two floor inputs (R128). -/
def Car.deriveFault (c : Car) : Car :=
  c.account { c with inputFault := c.atPrimary.accepted && c.atAlternate.accepted }

/-- What a car does at the acceptance of input `i`; `arrived` when at target went from false to true (R134 to R138). -/
def Car.act (timeout : Nat) (active arrived : Bool) (i : CarInput) (c : Car) : Car :=
  match c.state with
  | .normal => c
  | .recalling =>
    if arrived then c.park else if i = .autoService ∧ ¬ c.autoService.accepted then c.lose else c
  | .unavailable => if arrived then c.park else c
  | .parked => c.tryFirefighter
  | .firefighter =>
    if i = .ffKey ∧ ¬ c.ffKey.accepted then
      if !active && c.restorePending then c.release else c.recall timeout c.target
    else c

/-- A debounced input of a car is accepted (R127, R128). -/
def Car.acceptInput (timeout : Nat) (active : Bool) (i : CarInput) (c : Car) : Car :=
  let c1 := (c.setInput i (c.input i).accept).deriveFault
  c1.act timeout active (!c.atTarget && c1.atTarget) i

def State.acceptCarInput (c : Nat) (i : CarInput) (s : State) : State :=
  s.changeCar c (Car.acceptInput s.image.recallTimeout s.regime.active i)

/-- The expiry of a recall timer (R134). -/
def State.recallExpired (c : Nat) (s : State) : State := s.changeCar c Car.lose

/-- LIFT RESTORE on a car while the regime is inactive (R139). -/
def Car.restore (c : Car) : Car :=
  match c.state with
  | .normal => c
  | .firefighter => c.account { c with restorePending := true }
  | _ => c.release

/-- LIFT RESTORE (R139). -/
def State.restoreBank (s : State) : State :=
  if s.regime.active then { s with restoreRefused := min 255 (s.restoreRefused + 1) }
  else (List.range 4).foldl (fun t c => t.changeCar c Car.restore) s

/-- The car inputs sampled at a tick event (R127). -/
def State.sampleCars (s : State) : State :=
  if s.actsAs .lift then
    { s with cars := s.cars.mapIdx (fun i c => if c.present then c.sample s.pins i else c) }
  else s

/-- The car records at the entry to LISTEN (R127, R128, R141). -/
def State.carsAtListen (s : State) : State :=
  if s.station.role == some .lift then
    let s1 := { s with cars := s.cars.mapIdx (fun i c => if c.present then c.sampleAtListen s.pins i else c) }
    (List.range 4).foldl (fun t c => t.changeCar c Car.deriveFault) s1
  else s

end Sys2Proof.Machine
end

