-- ==== Sys2Proof/Machine/Speaker.lean ====
section
/-! DEFINITION. The announcement engine: requests, sequences, the message exchange, decisions (9-1 to 9-4), and the
authority record (9-5). -/

namespace Sys2Proof.Machine

/-- What the engine reads of the rest of the station at a decision (R143 to R149). -/
structure SpeakerView where
  active : Bool
  phase : Phase
  silenced : Bool
  manual : Bool
  busy : Bool
  resumeStep : Bool
  alertSteps : List SeqStep
  evacSteps : List SeqStep
  noticeSteps : List SeqStep
  /-- The ALERT, EVACUATE cadence record is in an on-pulse. -/
  alertPulse : Bool
  evacPulse : Bool
  deriving DecidableEq, Repr

/-- The view as the station stands. -/
def State.speakerView (s : State) : SpeakerView :=
  { active := s.regime.active, phase := s.ownPhase, silenced := s.regime.silence % 2 == 1,
    manual := s.authority.console.isSome, busy := s.pins.busy, resumeStep := s.image.resumeStep,
    alertSteps := s.image.alertSteps.list, evacSteps := s.image.evacSteps.list,
    noticeSteps := s.image.noticeSteps.list,
    alertPulse := s.cadence.alert.onPulse s.image.alertCadence,
    evacPulse := s.cadence.evac.onPulse s.image.evacCadence }

/-! ## Requests (R143) -/

/-- The request of a level is present. -/
def Speaker.present (v : SpeakerView) (p : Speaker) : Level → Bool
  | .idle => true
  | .test => p.testRequest && !v.active
  | .notice => p.noticeRequest && !p.noticeSeq.finished && !v.active
  | .alert => v.phase == .alert && !v.silenced && !p.alertSeq.finished
  | .evacuate => v.phase == .evacuate && !p.evacSeq.finished
  | .manual => v.manual

/-- The highest level whose request is present. -/
def Speaker.highest (v : SpeakerView) (p : Speaker) : Level :=
  if p.present v .manual then .manual
  else if p.present v .evacuate then .evacuate
  else if p.present v .alert then .alert
  else if p.present v .notice then .notice
  else if p.present v .test then .test
  else .idle

/-! ## Sequences (R145) -/

def Speaker.seq (p : Speaker) : Level → SeqRecord
  | .test => p.testSeq
  | .notice => p.noticeSeq
  | .alert => p.alertSeq
  | .evacuate => p.evacSeq
  | _ => SeqRecord.fresh

def Speaker.setSeq (p : Speaker) (l : Level) (q : SeqRecord) : Speaker :=
  match l with
  | .test => { p with testSeq := q }
  | .notice => { p with noticeSeq := q }
  | .alert => { p with alertSeq := q }
  | .evacuate => { p with evacSeq := q }
  | _ => p

/-- The steps of a level's sequence; TEST is one MESSAGE step (9-2). -/
def Speaker.steps (v : SpeakerView) (p : Speaker) : Level → List SeqStep
  | .test => [⟨.message, p.testMessage⟩]
  | .notice => v.noticeSteps
  | .alert => v.alertSteps
  | .evacuate => v.evacSteps
  | _ => []

/-- Step `i`, counted from 1; STOP beyond the sequence. -/
def stepAt (steps : List SeqStep) (i : Nat) : SeqStep := steps.getD (i - 1) ⟨.stop, 0⟩

/-- Where a walk arrives: a step that comes in hand, or one at which the sequence finishes; and the note that a step
has taken time since step 1 was last entered. -/
structure Walk where
  pos : Nat
  hand : Bool
  took : Bool
  deriving DecidableEq, Repr

/-- The walk from step `i` (R145). The first argument bounds it; 14 is more than any walk takes. -/
def walkFrom (notice : Bool) (steps : List SeqStep) : Nat → Nat → Bool → Walk
  | 0, i, took => ⟨i, false, took⟩
  | n + 1, i, took =>
    let atOne := if took then walkFrom notice steps n 1 false else ⟨1, false, false⟩
    let next := if 6 ≤ i then atOne else walkFrom notice steps n (i + 1) took
    match (stepAt steps i).kind with
    | .tone => if notice then next else ⟨i, true, true⟩
    | .message => if (stepAt steps i).arg = 0 then next else ⟨i, true, true⟩
    | .pause => ⟨i, true, true⟩
    | .loop => if notice then ⟨i, false, took⟩ else atOne
    | .stop => ⟨i, false, took⟩

/-- The walk on from step `i`, which has ended. -/
def walkAfter (notice : Bool) (steps : List SeqStep) (i : Nat) : Walk :=
  if 6 ≤ i then walkFrom notice steps 14 1 false else walkFrom notice steps 14 (i + 1) true

/-- The cadence a level's TONE steps belong to (R146). -/
def Level.cadence : Level → Option CadenceKind
  | .alert => some .alert
  | .evacuate => some .evacuate
  | _ => none

/-- What the event in hand has done that a step entered in it must know: the stop strobe has been raised (R147); a
cycle of this cadence has started and a TONE step's last cycle end is counted with it (R146). -/
structure EntryNote where
  stopped : Bool
  cycleStart : Option CadenceKind
  deriving DecidableEq, Repr

def EntryNote.plain : EntryNote := { stopped := false, cycleStart := none }

/-- The step in hand is dropped or has ended. -/
def Speaker.dropStep (p : Speaker) : Speaker :=
  { p with step := none, waiting := false, cycles := 0, pause := none, exchange := .idle, exchangeTimer := none,
           busyFresh := false }

/-- The play strobe is pulsed and message `m` starts (R147). -/
def Speaker.startPlay (m : Nat) (p : Speaker) : Speaker :=
  { p with exchange := .starting, exchangeTimer := Timer.start 50, lines := m, play := Timer.start 1,
           busyFresh := false }

/-- Entry to a MESSAGE step (R147). -/
def Speaker.enterMessage (v : SpeakerView) (note : EntryNote) (m : Nat) (p : Speaker) : Speaker :=
  if note.stopped then
    { p with message := m, exchange := .clearing, exchangeTimer := Timer.start 50, busyFresh := false }
  else if v.busy then
    { p with message := m, exchange := .clearing, exchangeTimer := Timer.start 50, stop := Timer.start 1,
             busyFresh := false }
  else ({ p with message := m }).startPlay m

/-- Step `i` of the level in service comes in hand (R145 to R147). -/
def Speaker.enterStep (v : SpeakerView) (note : EntryNote) (i : Nat) (p : Speaker) : Speaker :=
  let p1 := { p.dropStep with step := some i }
  let st := stepAt (p.steps v p.level) i
  match st.kind with
  | .tone =>
    { p1 with waiting := !(note.cycleStart.isSome && note.cycleStart == p.level.cadence), cycles := max 1 st.arg }
  | .pause => { p1 with pause := Timer.start (100 * max 1 st.arg) }
  | .message => p1.enterMessage v note st.arg
  | _ => p1

/-- A sequence finishes: its request is withdrawn (R145, R152). -/
def Speaker.finish (l : Level) (p : Speaker) : Speaker :=
  let p1 := p.dropStep.setSeq l { p.seq l with finished := true, resume := none }
  if l = .test then { p1 with testRequest := false } else p1

/-- A level is put in service and its sequence entered at its resume point, or at step 1 (R148, R149). A sequence
that finishes at once leads to the next decision; the first argument bounds their number. -/
def Speaker.enterLevel (v : SpeakerView) (note : EntryNote) : Nat → Level → Speaker → Speaker
  | 0, _, p => { p.dropStep with level := .idle }
  | n + 1, l, p =>
    match l with
    | .idle | .manual => { p.dropStep with level := l }
    | _ =>
      let q := p.seq l
      let start := q.resume.getD 1
      let w := walkFrom (l == .notice) (p.steps v l) 14 start (if start = 1 then false else q.took)
      let p1 := ({ p with level := l }).setSeq l { q with resume := none, took := w.took }
      if w.hand then p1.enterStep v note w.pos
      else
        let p2 := p1.finish l
        Speaker.enterLevel v note n (p2.highest v) p2

/-- Decisions after a finish are at most one for each level. -/
def decisionBound : Nat := 7

/-- The end of the step in hand, which is a decision (R145, R148, R149). The end of a TEST step finishes TEST and withdraws
the TEST request that then stands, whichever TEST ANNOUNCE brought it (R152, log 25). -/
def Speaker.stepEnded (v : SpeakerView) (note : EntryNote) (p : Speaker) : Speaker :=
  match p.step with
  | none => p
  | some i =>
    let l := p.level
    let p0 := p.dropStep
    if l = .test then
      let p1 := p0.finish l
      p1.enterLevel v note decisionBound (p1.highest v)
    else
      let w := walkAfter (l == .notice) (p.steps v l) i
      if p0.highest v = l then
        let p1 := p0.setSeq l { p0.seq l with took := w.took }
        if w.hand then p1.enterStep v note w.pos
        else
          let p2 := p1.finish l
          p2.enterLevel v note decisionBound (p2.highest v)
      else
        let p1 := p0.setSeq l { p0.seq l with resume := some (if v.resumeStep then w.pos else 1) }
        p1.enterLevel v note decisionBound (p1.highest v)

/-- The kind of the step in hand. -/
def Speaker.stepKind (v : SpeakerView) (p : Speaker) : Option StepKind :=
  p.step.map (fun i => (stepAt (p.steps v p.level) i).kind)

/-- The step in hand is at a preemption point for the highest request (R148). -/
def Speaker.preemptible (v : SpeakerView) (p : Speaker) : Bool :=
  match p.stepKind v with
  | some .tone =>
    p.waiting ||
      (match p.level.cadence with
       | some .alert => !v.alertPulse
       | some .evacuate => !v.evacPulse
       | none => true)
  | some .message => p.highest v == .manual
  | _ => true

/-- The step in hand is dropped at a preemption point and the highest level put in service (R148, R149). At an all-clear
this comes after the resume points were cleared, so the one given here stays (log 33). -/
def Speaker.preempt (v : SpeakerView) (p : Speaker) : Speaker :=
  let p0 := if p.exchange = .idle then p else { p with stop := Timer.start 1 }
  let p1 :=
    match p.step with
    | none => p0.dropStep
    | some i => (p0.dropStep).setSeq p.level { p.seq p.level with resume := some (if v.resumeStep then i else 1) }
  p1.enterLevel v EntryNote.plain decisionBound (p1.highest v)

/-- The source (R144). -/
def Speaker.sourceNow (v : SpeakerView) (p : Speaker) : Source :=
  match p.level with
  | .idle => if v.active then .mute else .tenant
  | .manual => .live
  | _ =>
    match p.stepKind v with
    | some .tone => .tone
    | some .message => .message
    | _ => .mute

def Speaker.withSource (v : SpeakerView) (p : Speaker) : Speaker := { p with source := p.sourceNow v }

/-- The engine at the end of an event: requests withdrawn as the regime becomes active (R151, R152), the ALERT flag
cleared as s_e becomes odd (R143), a decision if the step in hand permits one (R148), the source (R144). -/
def Speaker.react (v : SpeakerView) (became silencedNow : Bool) (p : Speaker) : Speaker :=
  let p1 := if became then { p with testRequest := false, noticeRequest := false } else p
  let p2 := if silencedNow then { p1 with alertSeq := { p1.alertSeq with finished := false } } else p1
  let p3 := if p2.highest v ≠ p2.level ∧ p2.preemptible v then p2.preempt v else p2
  p3.withSource v

/-- The announcement engine at the end of an event, in every role (R142). -/
def State.speakerReact (old : State) (became : Bool) (s : State) : State :=
  let silencedNow := old.regime.silence % 2 == 0 && s.regime.silence % 2 == 1
  if s.actsAs .floor then { s with speaker := s.speaker.react s.speakerView became silencedNow }
  else { s with speaker := { s.speaker with source := if s.regime.active then .mute else .tenant } }

/-- The all-clear on a sequence (R151). -/
def SeqRecord.allClear (q : SeqRecord) : SeqRecord := { q with resume := none, finished := false }

/-- The announcement engine at the all-clear (R151). -/
def State.speakerAllClear (s : State) : State :=
  if s.station.role == some .floor then
    { s with speaker := { s.speaker with alertSeq := s.speaker.alertSeq.allClear,
                                         evacSeq := s.speaker.evacSeq.allClear,
                                         noticeSeq := s.speaker.noticeSeq.allClear, noticeRequest := true } }
  else s

/-! ## The message exchange (R147) -/

/-- The busy level of this tick event moves the exchange on. -/
def Speaker.busyDue (busy : Bool) (p : Speaker) : Bool :=
  p.busyFresh &&
  match p.exchange with
  | .idle => false
  | .clearing => !busy
  | .starting => busy
  | .playing => !busy

/-- The busy level read at a tick event (R147). -/
def State.busyRead (s : State) : State :=
  match s.speaker.exchange with
  | .clearing => { s with speaker := s.speaker.startPlay s.speaker.message }
  | .starting =>
    { s with speaker := { s.speaker with exchange := .playing, exchangeTimer := Timer.start 6000,
                                         busyFresh := false } }
  | .playing =>
    ({ s with speaker := s.speaker.stepEnded s.speakerView EntryNote.plain }).clearFault .messageTimeout
      s.speaker.message
  | .idle => s

/-- The expiry of the exchange timer (R147). -/
def State.messageExpired (s : State) : State :=
  let stops := s.speaker.exchange != .clearing
  let p := if stops then { s.speaker with stop := Timer.start 1 } else s.speaker
  ({ s with speaker := p.stepEnded s.speakerView { stopped := stops, cycleStart := none } }).raise .messageTimeout
    s.speaker.message

/-- A strobe raised at an earlier tick event is lowered (R147). -/
def Speaker.strobesEnd (p : Speaker) : Speaker :=
  { p with play := if p.play.due then none else p.play, stop := if p.stop.due then none else p.stop }

/-- The expiry of a PAUSE step (R146). -/
def State.pauseExpired (s : State) : State :=
  { s with speaker := s.speaker.stepEnded s.speakerView EntryNote.plain }

/-- A cycle of cadence `k` starts: a TONE step of that cadence takes it as its first, or counts a cycle end (R146). -/
def State.toneCycle (k : CadenceKind) (s : State) : State :=
  let p := s.speaker
  if p.stepKind s.speakerView = some .tone ∧ p.level.cadence = some k then
    if p.waiting then { s with speaker := { p with waiting := false } }
    else if p.cycles ≤ 1 then
      { s with speaker := p.stepEnded s.speakerView { stopped := false, cycleStart := some k } }
    else { s with speaker := { p with cycles := p.cycles - 1 } }
  else s

/-! ## Authority (R153, R154) -/

/-- The keep limit in tick events. -/
def Image.keepTicks (i : Image) : Nat := 100 * i.keepLimit

/-- TAKE at a floor in its mask (R153). -/
def State.takeAuthority (console number : Nat) (s : State) : State :=
  if s.authority.console = none ∨ s.authority.console = some console then
    ({ s with authority := { console := some console, number := number,
                             keep := Timer.start s.image.keepTicks } }).clearFaults .authorityLapsed
  else s

/-- Authority ends (R153, R154). -/
def State.endAuthority (s : State) : State :=
  { s with authority := { s.authority with console := none, keep := none } }

/-- GIVE at a floor in its mask (R153). -/
def State.giveAuthority (console : Nat) (s : State) : State :=
  if s.authority.console = some console then s.endAuthority else s

/-- Authority ends with AUTHORITY-LAPSED (R154). -/
def State.lapseAuthority (s : State) : State :=
  match s.authority.console with
  | some c => s.endAuthority.raise .authorityLapsed c
  | none => s

/-- KEEP at a floor (R154). -/
def State.keepAuthority (console number : Nat) (s : State) : State :=
  if s.authority.console = some console then
    if s.authority.number = number then
      { s with authority := { s.authority with keep := Timer.start s.image.keepTicks } }
    else s.lapseAuthority
  else s

/-- TEST ANNOUNCE at a floor in its mask (R152). Only the request bars it: one that comes while the MESSAGE step of a
withdrawn TEST is still in hand is taken, and the end of that step ends it unplayed (log 25). -/
def State.takeTest (message : Nat) (s : State) : State :=
  if s.regime.active ∨ s.speaker.testRequest then s
  else { s with speaker := { s.speaker with testMessage := message, testRequest := true,
                                            testSeq := SeqRecord.fresh } }

end Sys2Proof.Machine
end

