-- ==== Sys2Proof/Machine/Cadence.lean ====
section
/-! DEFINITION. The cadence generator (9-6, 9-7): cycles, bell, strobe, MARKs, leader and follower. -/

namespace Sys2Proof.Machine

/-- The run condition of a cadence record (R155). -/
def runCondition (k : CadenceKind) (p : Phase) : Bool :=
  match k with
  | .alert => p == .alert || p == .evacuate
  | .evacuate => p == .evacuate

/-- A record follows its run condition (R155, R157). -/
def Cadence.react (condition : Bool) (c : Cadence) : Cadence :=
  if condition then { c with run := .running }
  else if c.run = .running then { c with run := .stopping }
  else c

/-- The cadence generator at the end of an event (R155, R157). -/
def State.cadenceReact (s : State) : State :=
  if s.actsAs .floor then
    { s with cadence := { s.cadence with
        alert := s.cadence.alert.react (runCondition .alert s.ownPhase),
        evac := s.cadence.evac.react (runCondition .evacuate s.ownPhase) } }
  else s

/-- One tick event passes on a record: its position advances (R155); its standing timer runs (R158). -/
def Cadence.tick (p : CadenceParams) (c : Cadence) : Cadence :=
  let c1 := { c with standing := c.standing.tick }
  if c.run = .stopped then c1
  else match c.pos with
    | none => { c1 with cycleDue := true }
    | some n =>
      { c1 with pos := some (n + 1), cycleDue := decide (c.cycleLength p ≤ n + 1),
                boundaryDue := decide (n + 1 < c.cycleLength p) && p.boundary (n + 1) }

/-- One tick event passes on the cadence generator. -/
def State.tickCadence (s : State) : State :=
  if s.actsAs .floor then
    { s with cadence := { s.cadence with
        alert := s.cadence.alert.tick s.image.alertCadence,
        evac := s.cadence.evac.tick s.image.evacCadence,
        bellLow := if s.cadence.bell.isSome then s.cadence.bellLow
                   else s.cadence.bellLow.map (fun n => min 255 (n + 1)),
        strobe := s.cadence.strobe.tick } }
  else s

/-- An on-pulse of record `k` begins: the bell shows or skips it, the strobe starts (R156). -/
def State.pulseBegins (k : CadenceKind) (s : State) : State :=
  let h := (s.image.cadence k).half
  let quiet := match s.cadence.bellLow with
    | none => true
    | some n => decide ((h + 1) / 2 ≤ n)
  let shown := s.bellCadence == some k && s.cadence.bell.isNone && quiet
  let flashes := k == .evacuate && s.ownPhase == .evacuate
  { s with cadence := { s.cadence with
      bell := if shown then some k else s.cadence.bell,
      strobe := if flashes then Timer.start (min s.image.strobeWidth h) else s.cadence.strobe } }

/-- The pending correction is fixed into the end-of-cycle off-interval (R155). -/
def Cadence.fix (c : Cadence) : Cadence :=
  match c.pending with
  | none => c
  | some e => { c with fixed := some e, pending := none }

/-- An on-pulse of record `k` ends; after the last, the end-of-cycle off-interval begins (R155, R156). -/
def State.pulseEnds (k : CadenceKind) (last : Bool) (s : State) : State :=
  let u := if s.cadence.bell = some k then { s.cadence with bell := none, bellLow := some 0 } else s.cadence
  { s with cadence := if last then u.setRecord k (u.record k).fix else u }

/-- A pulse boundary of record `k` at its position (R156). -/
def State.pulseBoundary (k : CadenceKind) (s : State) : State :=
  let p := s.image.cadence k
  let c := s.cadence.record k
  let n := c.pos.getD 0
  let s1 := { s with cadence := s.cadence.setRecord k { c with boundaryDue := false } }
  if n / p.half % 2 = 0 then s1.pulseBegins k else s1.pulseEnds k (n == p.tail)

/-- A MARK is queued (R28, R158). -/
def State.queueMark (k : CadenceKind) (s : State) : State :=
  let m : MarkEntry :=
    { kind := k, cycle := (s.image.cadence k).cycle, collisions := 0, standing := .pending, overtaken := false }
  match s.slots.mark with
  | some { standing := .inFlight, .. } => { s with slots := { s.slots with successor := some m } }
  | _ => { s with slots := { s.slots with mark := some m } }

/-- The start of a new cycle of a RUNNING record (R155). -/
def Cadence.startCycle (now : Word16) (c : Cadence) : Cadence :=
  { c with pos := some 0, cycleStart := now, fixed := none, cycleDue := false, boundaryDue := false }

/-- A STOPPING record reaches the end of its cycle (R157). -/
def Cadence.stop (c : Cadence) : Cadence :=
  { c with run := .stopped, pos := none, pending := none, fixed := none, cycleDue := false, boundaryDue := false }

/-- The end of the cycle of record `k`, if it is due (R146, R155, R157, R158). -/
def State.cycleEnd (k : CadenceKind) (s : State) : State :=
  let c := s.cadence.record k
  if !c.cycleDue then s
  else if c.run = .running then
    let s1 := { s with cadence := s.cadence.setRecord k (c.startCycle s.time.tick) }
    let s2 := (s1.pulseBegins k).toneCycle k
    if !c.follower && s.station.lifecycle == .run then s2.queueMark k else s2
  else { s with cadence := s.cadence.setRecord k c.stop }

/-! ## Following a MARK (R158, R159) -/

/-- The position error of a record against a MARK (R159), in −C/2..C/2. Before the first cycle since reset has started the
record has no latest cycle start; the model reckons with the 0 that the field holds at reset (log 35). -/
def Cadence.positionError (cycle : Nat) (syncTick : Word16) (offset : Nat) (c : Cadence) : Int :=
  let leader := syncTick - BitVec.ofNat 16 offset
  let own := c.cycleStart + BitVec.ofInt 16 (c.fixed.getD 0)
  let e := (own - leader).toInt % (cycle : Int)
  if (cycle : Int) < 2 * e then e - cycle else e

/-- The pending correction for a position error (R159). -/
def correction (half : Nat) (e : Int) : Option Int :=
  if -2 ≤ e ∧ e ≤ 2 then none
  else some (max (-((half / 2 : Nat) : Int)) (min ((half / 2 : Nat) : Int) (-e)))

/-- A record takes a following MARK (R158, R159). `lower` when it comes from a lower address, `listen` in LISTEN,
`since` the tick events since its sync completion tick. -/
def Cadence.follow (p : CadenceParams) (lower listen : Bool) (syncTick : Word16) (since offset : Nat) (c : Cadence) :
    Cadence :=
  let c1 := if lower then
      { c with follower := true, lastLower := some syncTick, standing := Timer.start (p.cycle + 100 - since) }
    else c
  if c.run = .running ∧ (lower ∨ listen) then
    { c1 with pending := correction p.half (c.positionError p.cycle syncTick offset) }
  else c1

/-- The MARKs of record `k` that are queued when it becomes FOLLOWER are to be abandoned at their start (R158). -/
def Slots.overtake (k : CadenceKind) (q : Slots) : Slots :=
  let overtaken (m : MarkEntry) : MarkEntry := if m.kind = k then { m with overtaken := true } else m
  { q with mark := q.mark.map overtaken, successor := q.successor.map overtaken }

/-- A whole MARK at the cadence generator (R158, R159). -/
def State.followMark (source : Nat) (m : MarkRecord) (syncTick : Word16) (s : State) : State :=
  let p := s.image.cadence m.kind
  if s.station.role == some .floor && m.cycle == p.cycle then
    let since := (s.time.tick - syncTick).toNat
    let lower := decide (source < s.station.address)
    let listen := s.station.lifecycle == .listen
    let c := (s.cadence.record m.kind).follow p lower listen syncTick since m.offset
    { s with cadence := s.cadence.setRecord m.kind c, slots := if lower then s.slots.overtake m.kind else s.slots }
  else s

/-- The standing of record `k` lapses (R158). -/
def State.standingLapsed (k : CadenceKind) (s : State) : State :=
  { s with cadence := s.cadence.setRecord k { s.cadence.record k with follower := false, standing := none } }

end Sys2Proof.Machine
end

