-- ==== Sys2Proof/Machine/Loader.lean ====
section
/-! DEFINITION. The configuration loader (chapter 1): roles, the record's checks, the clamps, the defaults, the
digest, and the image that results. -/

namespace Sys2Proof.Machine

/-! ## Straps and roles (R4) -/

/-- The role of an address, `none` when the address is invalid (R4). -/
def roleOf (address : Nat) : Option Role :=
  if address < 48 then some .floor
  else if address < 50 then some .lift
  else if 56 ≤ address ∧ address ≤ 59 then some .console
  else none

/-- The role code of byte 1 (R4, 1-5). -/
def Role.code : Role → Nat
  | .floor => 1
  | .lift => 2
  | .console => 3

/-! ## The record's fields (1-5) -/

/-- Byte `i` of the record. -/
def recByte (r : Tab Byte 64) (i : Nat) : Nat := (r.at i 0).toNat

/-- The two-byte field at `i`. -/
def recWord (r : Tab Byte 64) (i : Nat) : Nat := recByte r i * 256 + recByte r (i + 1)

/-- The check of R7 that fails first: 1 FORMAT, 2 ROLE, 3 CHECKSUM. -/
def failedCheck (role : Role) (r : Tab Byte 64) : Option Nat :=
  if recByte r 0 ≠ 0x3C then some 1
  else if recByte r 1 ≠ role.code then some 2
  else if ((r.list.take 62).map BitVec.toNat).sum % 65536 ≠ recWord r 62 then some 3
  else none

/-! ## Clamps (R8, 1-6) -/

/-- A field and the offsets of the clamps made so far, the latest last. -/
structure Clamped (α : Type) where
  value : α
  faults : List Nat
  deriving DecidableEq, Repr

/-- A value out of its range is stored as `store`, and its offset noted. -/
def clampIf {α : Type} (bad : Bool) (store value : α) (offset : Nat) : Clamped α :=
  if bad then ⟨store, [offset]⟩ else ⟨value, []⟩

/-- A range with one stored value on each side. -/
def clampRange (low high value offset : Nat) : Clamped Nat :=
  if value < low then ⟨low, [offset]⟩ else if high < value then ⟨high, [offset]⟩ else ⟨value, []⟩

/-- A field with no limit below. -/
def clampHigh (high value offset : Nat) : Clamped Nat := clampIf (decide (high < value)) high value offset

/-- Zone kind codes; 6 to 15 are stored as DETECTOR. -/
def clampZoneKind (code offset : Nat) : Clamped ZoneKind :=
  match code with
  | 0 => ⟨.unused, []⟩
  | 1 => ⟨.detector, []⟩
  | 2 => ⟨.callpoint, []⟩
  | 3 => ⟨.flow, []⟩
  | 4 => ⟨.lobby, []⟩
  | 5 => ⟨.panel, []⟩
  | _ => ⟨.detector, [offset]⟩

/-- Step kind codes; 5 to 15 are stored as STOP, with the argument kept. -/
def clampStep (b offset : Nat) : Clamped SeqStep :=
  match b / 16 with
  | 0 => ⟨⟨.stop, b % 16⟩, []⟩
  | 1 => ⟨⟨.tone, b % 16⟩, []⟩
  | 2 => ⟨⟨.message, b % 16⟩, []⟩
  | 3 => ⟨⟨.pause, b % 16⟩, []⟩
  | 4 => ⟨⟨.loop, b % 16⟩, []⟩
  | _ => ⟨⟨.stop, b % 16⟩, [offset]⟩

/-- A table of clamped fields: the values, and the offsets in the fields' order. -/
def clampTab {α : Type} (n : Nat) (f : Nat → Clamped α) : Clamped (Tab α n) :=
  ⟨Tab.ofFn n (fun i => (f i).value), (List.range n).flatMap (fun i => (f i).faults)⟩

/-- The stored level of a nibble of byte `i`. -/
def highNibble (r : Tab Byte 64) (i : Nat) : Nat := recByte r i / 16
def lowNibble (r : Tab Byte 64) (i : Nat) : Nat := recByte r i % 16

/-- The cadence of bytes `i` and `i + 1` with its K clamped. -/
def clampCadence (r : Tab Byte 64) (i : Nat) : Clamped CadenceParams :=
  let k := recByte r (i + 1) / 16 % 8
  let c := clampIf (k == 0) 1 k (i + 1)
  ⟨{ p := highNibble r i, d := lowNibble r i, k := c.value, g := lowNibble r (i + 1) }, c.faults⟩

/-- The record clamped field by field in the order of 1-6 (R8): the image, and the byte offset of each clamp. -/
def clampRecord (r : Tab Byte 64) : Clamped Image :=
  let low := clampHigh 47 (recByte r 2) 2
  let high1 := clampHigh 47 (recByte r 3) 3
  let high := clampIf (decide (high1.value < low.value)) low.value high1.value 3
  let outside (f : Nat) : Bool := decide (f < low.value) || decide (high.value < f)
  let primary := clampIf (outside (recByte r 4)) low.value (recByte r 4) 4
  let alternate := clampIf (outside (recByte r 5)) low.value (recByte r 5) 5
  let heartbeat := clampRange 2 10 (recByte r 6) 6
  let period := clampRange 10 600 (recWord r 7) 7
  let bandUp := clampHigh 3 (highNibble r 9) 9
  let bandDown := clampHigh 3 (lowNibble r 9) 9
  let margin := clampHigh 7 (recByte r 10) 10
  let wUp := clampHigh 3 (recByte r 11) 11
  let wDown := clampHigh 3 (recByte r 14) 14
  let dUp := clampRange 1 16 (recByte r 13) 13
  let dDown := clampRange 1 16 (recByte r 16) 16
  let nUp := clampHigh (dUp.value - 1) (recByte r 12) 12
  let nDown := clampHigh (dDown.value - 1) (recByte r 15) 15
  let base := clampHigh 47 (recByte r 17) 17
  let step := clampHigh 8 (recByte r 18) 18
  let kinds := clampTab 8 (fun z =>
    clampZoneKind (if z % 2 = 0 then highNibble r (20 + z / 2) else lowNibble r (20 + z / 2)) (20 + z / 2))
  let heldOpen := clampRange 30 600 (recWord r 34) 34
  let recallT := clampRange 60 600 (recWord r 36) 36
  let alertC := clampCadence r 38
  let evacC := clampCadence r 40
  let strobe := clampRange 1 8 (recByte r 42) 42
  let keep := clampRange 5 30 (recByte r 43) 43
  let alertS := clampTab 6 (fun i => clampStep (recByte r (44 + i)) (44 + i))
  let evacS := clampTab 6 (fun i => clampStep (recByte r (50 + i)) (50 + i))
  let noticeS := clampTab 6 (fun i => clampStep (recByte r (56 + i)) (56 + i))
  let options := r.at 19 0
  let present := r.at 31 0
  { value :=
      { low := low.value, high := high.value, primary := primary.value, alternate := alternate.value,
        heartbeat := heartbeat.value, period := period.value, bandUp := bandUp.value, bandDown := bandDown.value,
        margin := margin.value, up := { w := wUp.value, n := nUp.value, d := dUp.value },
        down := { w := wDown.value, n := nDown.value, d := dDown.value }, patternBase := base.value,
        patternStep := step.value, barOrigin := options.getLsbD 0, resumeStep := options.getLsbD 1,
        zoneKinds := kinds.value, lobbyFloors := maskOf ((r.list.drop 24).take 6), lobbyZones := r.at 30 0,
        stairsPresent := Tab.ofFn 4 (fun i => present.getLsbD (4 + i)),
        carsPresent := Tab.ofFn 4 (fun i => present.getLsbD i),
        minterms := Tab.ofFn 4 (fun i => if i % 2 = 0 then highNibble r (32 + i / 2) else lowNibble r (32 + i / 2)),
        heldOpenLimit := heldOpen.value, recallTimeout := recallT.value, alertCadence := alertC.value,
        evacCadence := evacC.value, strobeWidth := strobe.value, keepLimit := keep.value,
        alertSteps := alertS.value, evacSteps := evacS.value, noticeSteps := noticeS.value },
    faults := low.faults ++ high1.faults ++ high.faults ++ primary.faults ++ alternate.faults ++ heartbeat.faults
      ++ period.faults ++ bandUp.faults ++ bandDown.faults ++ margin.faults ++ wUp.faults ++ wDown.faults
      ++ dUp.faults ++ dDown.faults ++ nUp.faults ++ nDown.faults ++ base.faults ++ step.faults ++ kinds.faults
      ++ heldOpen.faults ++ recallT.faults ++ alertC.faults ++ evacC.faults ++ strobe.faults ++ keep.faults
      ++ alertS.faults ++ evacS.faults ++ noticeS.faults }

/-! ## The built-in defaults (1-6) -/

def Image.defaults : Image :=
  { low := 0, high := 47, primary := 0, alternate := 1, heartbeat := 4, period := 60, bandUp := 1, bandDown := 1,
    margin := 2, up := { w := 1, n := 0, d := 1 }, down := { w := 0, n := 1, d := 2 }, patternBase := 0,
    patternStep := 0, barOrigin := false, resumeStep := true, zoneKinds := Tab.fill 8 .detector, lobbyFloors := 0,
    lobbyZones := 0, stairsPresent := Tab.fill 4 true, carsPresent := Tab.fill 4 true, minterms := Tab.fill 4 0xE,
    heldOpenLimit := 120, recallTimeout := 240, alertCadence := { p := 9, d := 9, k := 1, g := 0 },
    evacCadence := { p := 4, d := 9, k := 3, g := 2 }, strobeWidth := 2, keepLimit := 10,
    alertSteps := ⟨[⟨.tone, 3⟩, ⟨.message, 1⟩, ⟨.loop, 0⟩, ⟨.stop, 0⟩, ⟨.stop, 0⟩, ⟨.stop, 0⟩], rfl⟩,
    evacSteps := ⟨[⟨.tone, 3⟩, ⟨.message, 2⟩, ⟨.loop, 0⟩, ⟨.stop, 0⟩, ⟨.stop, 0⟩, ⟨.stop, 0⟩], rfl⟩,
    noticeSteps := ⟨[⟨.message, 3⟩, ⟨.stop, 0⟩, ⟨.stop, 0⟩, ⟨.stop, 0⟩, ⟨.stop, 0⟩, ⟨.stop, 0⟩], rfl⟩ }

/-! ## The digest (R9) -/

/-- The sum, modulo 256, of the image bytes at offsets 2, 3 and 7 to 16. -/
def Image.digest (i : Image) : Nat :=
  (i.low + i.high + i.period / 256 + i.period % 256 + (i.bandUp * 16 + i.bandDown) + i.margin
    + i.up.w + i.up.n + i.up.d + i.down.w + i.down.n + i.down.d) % 256

/-! ## The end of LOAD (R7 to R9) -/

/-- The image, the load status and the faults of the end of LOAD. -/
def State.load (role : Role) (r : Tab Byte 64) (s : State) : State :=
  match failedCheck role r with
  | some n =>
    ({ s with image := Image.defaults,
              station := { s.station with loadStatus := .defaulted, digest := Image.defaults.digest } }).raise
      .configDefaulted n
  | none =>
    let c := clampRecord r
    let s1 := { s with image := c.value,
                       station := { s.station with loadStatus := .loaded, digest := c.value.digest } }
    c.faults.foldl (fun t offset => t.raise .configClamped offset) s1

/-! ## The entry to LISTEN (R10, R12, R15) -/

/-- The LISTEN period in tick events (R12). -/
def Image.listenTicks (i : Image) : Nat := 100 * (2 * i.heartbeat + 1)

/-- The start-up hold-off of TAKE in tick events (R164). -/
def takeHoldOffTicks : Nat := 3000

/-- The records take their kinds and masks from the image (R56, R114, R126). -/
def State.takeImage (s : State) : State :=
  { s with zones := s.zones.mapIdx (fun i _ => Zone.atReset (s.image.zoneKinds.at i .unused)),
           stairs := s.stairs.mapIdx (fun i _ =>
             Stair.atReset (s.image.stairsPresent.at i false) (s.image.minterms.at i 0)),
           cars := s.cars.mapIdx (fun i _ => Car.atReset (s.image.carsPresent.at i false)) }

/-- The stair inputs at the entry to LISTEN (R115, R125). -/
def State.stairsAtListen (s : State) : State :=
  if s.station.role == some .floor then
    { s with stairs := s.stairs.mapIdx (fun i x => if x.present then x.sampleAtListen s.pins i else x) }
  else s

/-- The station enters LISTEN. -/
def State.listenEntry (pins : Inputs) (s : State) : State :=
  let s1 := { s.takeImage with
    pins := pins,
    station := { s.station with lifecycle := .listen, listenTimer := Timer.start s.image.listenTicks,
                                listenComplete := false, takeHoldOff := takeHoldOffTicks },
    lamps := { s.lamps with runLit := true, runFlash := Timer.start 50 } }
  s1.stairsAtListen.carsAtListen

end Sys2Proof.Machine
end

