-- ==== Sys2Proof/Machine/Peers.lean ====
section
/-! DEFINITION. The peer table (chapter 5): loopback, ageing, duplicate age, the all-clear over its entries, the
cross-checks; and the whole station's all-clear (R112). -/

namespace Sys2Proof.Machine

/-! ## Loopback (R75) -/

/-- The common fields of the own entry: LIVE, age 0, CURRENT, the own digest, fault summary and listen-complete. -/
def State.ownBase (s : State) (b : PeerBase) : PeerBase :=
  { b with presence := .live, age := 0, standing := .current, listenComplete := s.station.listenComplete,
           digest := s.station.digest, faultCount := s.faults.activeCount, worstFault := s.faults.worst }

/-- The own floor entry as the records stand (R68, R75); the latches are not written here. -/
def State.ownFloor (s : State) (e : FloorEntry) : FloorEntry :=
  { e with base := s.ownBase e.base, zones := s.zones.map Zone.report, phase := s.ownPhase,
           stairs := s.stairs.map (fun x => x.state), level := s.speaker.level, source := s.speaker.source,
           authority := s.authority.console.getD 63 }

def State.ownBank (s : State) (e : BankEntry) : BankEntry :=
  { e with base := s.ownBase e.base, cars := s.cars.map Car.report, restoreRefused := s.restoreRefused }

def State.ownConsole (s : State) (e : ConsoleEntry) : ConsoleEntry :=
  { e with base := s.ownBase e.base, linkAlive := s.link.alive }

/-- The own entry is written from the station's own records (R75). -/
def State.loopback (s : State) : State :=
  let own := s.station.address
  match s.station.role with
  | some .floor => { s with peers := s.peers.updFloor own s.ownFloor }
  | some .lift => { s with peers := s.peers.updBank (own - 48) s.ownBank }
  | some .console => { s with peers := s.peers.updConsole (own - 56) s.ownConsole }
  | none => s

/-! ## Ageing (R86) and the duplicate age (R77) -/

/-- One second event on the common fields of an entry. -/
def PeerBase.second (b : PeerBase) : PeerBase :=
  if b.presence = .unknown then b else { b with age := min 255 (b.age + 1) }

/-- Every LIVE and SILENT entry but the own one ages by a second (R86). -/
def State.agePeers (s : State) : State :=
  { s with peers := s.peers.mapBase (fun a b => if a = s.station.address then b else b.second) }

/-- A LIVE entry's age has reached the silence limit (R86). -/
def State.silenceDue (a : Nat) (s : State) : Bool :=
  isPeerAddress a && a != s.station.address && (s.peers.base a).presence == .live
    && decide (s.silenceLimit ≤ (s.peers.base a).age)

/-- An entry becomes SILENT (R86). -/
def State.silence (a : Nat) (s : State) : State :=
  ({ s with peers := s.peers.updBase a (fun b => { b with presence := .silent }) }).raise .peerSilent a

/-- The silence of one entry that has fallen due is taken before a record from it (R87). -/
def State.settleSilence (a : Nat) (s : State) : State := if s.silenceDue a then s.silence a else s

/-- The duplicate age rises at a second event (R77). -/
def State.ageDuplicate (s : State) : State :=
  { s with peers := { s.peers with duplicateAge := s.peers.duplicateAge.map (fun n => min 255 (n + 1)) } }

/-- The duplicate age has reached the silence limit (R77). -/
def State.duplicateDue (s : State) : Bool :=
  match s.peers.duplicateAge with
  | none => false
  | some n => decide (s.silenceLimit ≤ n)

/-- DUPLICATE-ADDRESS becomes inactive and the duplicate age stops (R77). -/
def State.endDuplicate (s : State) : State :=
  ({ s with peers := { s.peers with duplicateAge := none } }).clearFault .duplicateAddress s.station.address

/-- A record from the own address (R76). DUPLICATE-ADDRESS is active exactly while the duplicate age runs. -/
def State.duplicateHeard (s : State) : State :=
  let s1 := if s.duplicateDue then s.endDuplicate else s
  let s2 := if s1.peers.duplicateAge.isNone then s1.raise .duplicateAddress s1.station.address else s1
  { s2 with peers := { s2.peers with duplicateAge := some 0 } }

/-! ## The all-clear over the entries (R85) -/

/-- A floor entry of another station at the all-clear. -/
def FloorEntry.allClear (e : FloorEntry) : FloorEntry :=
  { e with base := { e.base with standing := .awaiting }, zones := Tab.fill 8 ZoneReport.quiet,
           alarmLatch := false, lobbyLatch := false, phase := .quiet, disagreements := 0, disagree := false }

/-- The peer table at the all-clear (R85): every entry but the own one becomes AWAITING, floor entries lose their
content, and the own floor entry its latches. -/
def Peers.allClear (own : Nat) (p : Peers) : Peers :=
  let p1 : Peers := { p with floors := p.floors.mapIdx (fun i e =>
    if i = own then { e with alarmLatch := false, lobbyLatch := false } else e.allClear) }
  p1.mapBase (fun a b => if a = own then b else { b with standing := .awaiting })

def State.peersAllClear (s : State) : State :=
  ({ s with peers := s.peers.allClear s.station.address }).clearFaults .phaseDisagree

/-! ## The cross-checks (R88, R89) -/

/-- The parameter cross-check of a received digest (R89). -/
def State.checkParameters (a digest : Nat) (s : State) : State :=
  let differs := digest != s.station.digest
  let was := (s.peers.base a).paramDisagree
  let s1 := { s with peers := s.peers.updBase a (fun b => { b with paramDisagree := differs }) }
  if differs && !was then s1.raise .paramDisagree a
  else if !differs && was then s1.clearFault .paramDisagree a
  else s1

/-- The phase cross-check of floor `f` (R88). -/
def State.checkPhase (f : Nat) (s : State) : State :=
  let e := s.floorEntry f
  if e.phase = s.phaseOf f then
    ({ s with peers := s.peers.updFloor f (fun x => { x with disagreements := 0, disagree := false }) }).clearFault
      .phaseDisagree f
  else
    let n := min 3 (e.disagreements + 1)
    let s1 := { s with peers := s.peers.updFloor f (fun x =>
      { x with disagreements := n, disagree := x.disagree || n == 3 }) }
    if n = 3 ∧ ¬ e.disagree then s1.raise .phaseDisagree f else s1

/-! ## The all-clear at the station (R112) -/

/-- The adoption of a newer generation: the regime ends, and every block that acts on the all-clear is told. The lift
unit changes nothing (R140); the stairs, the cadences and the speaker go on at the end of the event. The speaker's resume
points are cleared here, first; a sequence that leaves service later in the same event is then given one (log 33). -/
def State.adoptNewer (g : Byte) (s : State) : State :=
  let s1 := { s with regime := Regime.allClear g }
  s1.peersAllClear.zonesAllClear.builderAllClear.stairsAllClear.speakerAllClear

end Sys2Proof.Machine
end

