-- ==== Sys2Proof/Machine/Merge.lean ====
section
/-! DEFINITION. The merge of a whole STATUS (R79 to R83). -/

namespace Sys2Proof.Machine

/-- The fields of a peer entry that every record brings, whatever its generation (R79). -/
def State.refresh (a : Nat) (r : StatusRecord) (s : State) : State :=
  let wasSilent := (s.peers.base a).presence == .silent
  let s1 := { s with peers := s.peers.updBase a (fun b =>
    { b with presence := .live, age := 0, listenComplete := r.listenComplete, digest := r.digest,
             faultCount := r.faultCount, worstFault := r.worstFault }) }
  if wasSilent then s1.clearFault .peerSilent a else s1

/-- The fields of the role body that do not depend on the generation (R79). -/
def Peers.takeBody (a : Nat) (body : StatusBody) (p : Peers) : Peers :=
  match body with
  | .floor _ level source authority _ _ stairs =>
    p.updFloor a (fun e => { e with stairs := stairs, level := level, source := source, authority := authority })
  | .lift cars refused => p.updBank (a - 48) (fun e => { e with cars := cars, restoreRefused := refused })
  | .console alive => p.updConsole (a - 56) (fun e => { e with linkAlive := alive })

/-- The severity comparator (R81). -/
def mergeZone (stored received : ZoneReport) : ZoneReport :=
  if stored.state = .alarm ∧ received.state ≠ .disabled then { received with state := .alarm } else received

/-- The zones of a floor entry merged one by one (R81). -/
def FloorEntry.mergeZones (received : Tab ZoneReport 8) (e : FloorEntry) : FloorEntry :=
  { e with zones := e.zones.mapIdx (fun i z => mergeZone z (received.at i ZoneReport.quiet)) }

/-- Some received zone is in ALARM. -/
def alarmReceived (received : Tab ZoneReport 8) : Bool := received.any (fun z => z.state == .alarm)

/-- Some received lobby zone of floor `f` is in ALARM (R82). -/
def Image.lobbyReceived (i : Image) (f : Nat) (received : Tab ZoneReport 8) : Bool :=
  i.lobbyFloors.getLsbD f
    && (List.range 8).any (fun z => i.lobbyZones.getLsbD z && (received.at z ZoneReport.quiet).state == .alarm)

/-- Zones and latches of floor entry `f`, and the notification of a first alarm latch (R81, R82). -/
def State.mergeFloor (f : Nat) (received : Tab ZoneReport 8) (s : State) : State :=
  let e := s.floorEntry f
  let alarm := alarmReceived received
  let lobby := s.image.lobbyReceived f received
  let s1 := { s with peers := s.peers.updFloor f (fun x =>
    { x.mergeZones received with alarmLatch := x.alarmLatch || alarm, lobbyLatch := x.lobbyLatch || lobby }) }
  if alarm && !e.alarmLatch then s1.latchOrigin f else s1

def State.setStanding (a : Nat) (st : PeerStanding) (s : State) : State :=
  { s with peers := s.peers.updBase a (fun b => { b with standing := st }) }

/-- The own zones that a regime made active by the event in hand lets into ALARM, before the phases are read "as they
stand after the event" (R65, R102); `was` is the activity before. What they do is done once: the end of the event finds
nothing more of it to do. -/
def State.ownAlarms (was : Bool) (s : State) : State := if s.regime.active && !was then s.zonesActivated else s

/-- The content merge: zones and latches, the prefix, the reported phase, the phase cross-check (R81 to R83, R88). The
cross-check reads the phases as they stand after the event (R102): after the prefix (R83), and after the own zones whose
alarm the same event lets in by R65 (log 14). -/
def State.mergeContent (a : Nat) (r : StatusRecord) (s : State) : State :=
  match r.body with
  | .floor phase _ _ _ zones _ _ =>
    let s1 := ((s.setStanding a .current).mergeFloor a zones).intake r
    let s2 := { s1 with peers := s1.peers.updFloor a (fun e => { e with phase := phase }) }
    let s3 := s2.ownAlarms s.regime.active
    if r.unset then s3 else s3.checkPhase a
  | _ => (s.setStanding a .current).intake r

/-- The merge under the generation window (R80). -/
def State.mergeWindow (a : Nat) (g : Byte) (r : StatusRecord) (s : State) : State :=
  if r.unset then s.mergeContent a r
  else match s.regime.generation with
    | none => (s.firstAdoption g).mergeContent a r
    | some own =>
      if delta g own = 0 then s.mergeContent a r
      else if delta g own ≤ 127 then (s.adoptNewer g).mergeContent a r
      else s.setStanding a .stale

/-- The merge of a whole STATUS from address `a` with header generation `g` (R79 to R83). -/
def State.merge (a : Nat) (g : Byte) (r : StatusRecord) (s : State) : State :=
  let s1 := ((s.settleSilence a).refresh a r).checkParameters a r.digest
  ({ s1 with peers := s1.peers.takeBody a r.body }).mergeWindow a g r

end Sys2Proof.Machine
end

