-- ==== Sys2Proof/Machine/Event.lean ====
section
/-! DEFINITION. One event of the station: what a block did, and then what every other block makes of it in the same
event (R92, R113, and the closing words of each block's rules). -/

namespace Sys2Proof.Machine

/-- An own zone of a FLOOR station is in ALARM while the regime is inactive (R175). -/
def State.alarmFlashes (s : State) : Bool :=
  s.station.role == some .floor && !s.regime.active && s.zones.any (fun z => z.state == .alarm)

/-- The ALARM flash starts, lit first at the next tick event, or stops (R175). A second own zone that enters ALARM while
it runs leaves it running, and does not start it again (log 34). -/
def State.alarmLampReact (s : State) : State :=
  if s.alarmFlashes then
    if s.lamps.alarmFlash.isSome then s
    else { s with lamps := { s.lamps with alarmLit := false, alarmFlash := Timer.start 1 } }
  else { s with lamps := { s.lamps with alarmLit := false, alarmFlash := none } }

/-- The station took its all-clear between two states of one event: its generation was set and has changed. -/
def clearedBetween (old new : State) : Bool :=
  old.regime.generation.isSome && new.regime.generation.isSome
    && old.regime.generation != new.regime.generation

/-- The regime became active between two states of one event, after an all-clear of the event if there was one
(R92). -/
def becameActive (old new : State) : Bool :=
  new.regime.active && (!old.regime.active || clearedBetween old new)

/-- The blocks react to the view as the event has left it, loopback writes the own entry, and the status builder takes
the change causes. `old` is the state before the event. The event's own work stands before the blocks' reactions, so a
fault that the work raises comes before one that a reaction clears, also where the fault list is full and a record that
goes inactive would have made room for it (log 3). -/
def State.finish (s old : State) : State :=
  if !s.acts then s
  else
    let cleared := clearedBetween old s
    let became := becameActive old s
    let s1 := if became then s.zonesActivated else s
    let s2 := (s1.stairsReact cleared became).liftsReact became
    let s3 := (State.speakerReact old became s2).cadenceReact.alarmLampReact
    s3.loopback.builderReact old

/-- An event that takes place when it is due. -/
def State.event (due : Bool) (f : State → State) (s : State) : State := if due then (f s).finish s else s

end Sys2Proof.Machine
end

