-- ==== Sys2Proof/Machine/Commands.lean ====
section
/-! DEFINITION. What each whole COMMAND does at a station: the generation window (R108), then the block that owns its
kind. -/

namespace Sys2Proof.Machine

/-- A regime command of header generation `g` is not taken: it belongs to an older generation (R108). -/
def State.barred (g : Byte) (s : State) : Bool :=
  match s.regime.generation with
  | none => false
  | some own => decide (127 < delta g own)

/-- The generation window: first adoption, all-clear, or nothing (R108). -/
def State.window (g : Byte) (s : State) : State :=
  match s.regime.generation with
  | none => s.firstAdoption g
  | some own => if 1 ≤ delta g own ∧ delta g own ≤ 127 then s.adoptNewer g else s

/-- A regime command after the window (R108, R109). -/
def State.regimeCommand (g : Byte) (f : State → State) (s : State) : State :=
  if s.barred g then s else f (s.window g)

/-- The station's floor position has its bit set in a mask. -/
def State.masked (mask : FloorMask) (s : State) : Bool :=
  s.station.role == some .floor && mask.getLsbD s.station.address

def State.obeyGeneral (g : Byte) (s : State) : State := s.regimeCommand g State.setGeneral

def State.obeyHold (g : Byte) (e : Nat) (s : State) : State := s.regimeCommand g (State.adoptHold e)

def State.obeyResume (g : Byte) (e : Nat) (s : State) : State := s.regimeCommand g (State.adoptHold e)

def State.obeySilence (g : Byte) (e : Nat) (s : State) : State := s.regimeCommand g (State.adoptSilence e)

def State.obeyResound (g : Byte) (e : Nat) (s : State) : State := s.regimeCommand g (State.adoptSilence e)

/-- ALL-CLEAR acts through its header generation alone (R110). -/
def State.obeyAllClear (g : Byte) (s : State) : State := s.window g

/-- ZONE DISABLE of the manual's zone `z` (R69). -/
def State.obeyZoneDisable (g : Byte) (z : Nat) (s : State) : State :=
  let s1 := s.window g
  if s1.station.role == some .floor then s1.disableZone (z - 1) else s1

/-- ZONE ENABLE of the manual's zone `z` (R70). -/
def State.obeyZoneEnable (g : Byte) (z : Nat) (s : State) : State :=
  let s1 := s.window g
  if s1.station.role == some .floor then s1.enableZone (z - 1) else s1

/-- TAKE from a console (R153). -/
def State.obeyTake (console : Nat) (g : Byte) (mask : FloorMask) (number : Nat) (s : State) : State :=
  let s1 := s.window g
  if s1.masked mask then s1.takeAuthority console number else s1

/-- KEEP from a console (R154). -/
def State.obeyKeep (console : Nat) (g : Byte) (number : Nat) (s : State) : State :=
  let s1 := s.window g
  if s1.station.role == some .floor then s1.keepAuthority console number else s1

/-- GIVE from a console (R153). -/
def State.obeyGive (console : Nat) (g : Byte) (mask : FloorMask) (s : State) : State :=
  let s1 := s.window g
  if s1.masked mask then s1.giveAuthority console else s1

/-- TEST ANNOUNCE (R152). -/
def State.obeyTestAnnounce (g : Byte) (mask : FloorMask) (message : Nat) (s : State) : State :=
  let s1 := s.window g
  if s1.masked mask then s1.takeTest message else s1

/-- LIFT RESTORE (R139). -/
def State.obeyLiftRestore (g : Byte) (s : State) : State :=
  let s1 := s.window g
  if s1.station.role == some .lift then s1.restoreBank else s1

/-- A whole COMMAND from console `console` with header generation `g`. -/
def State.obey (console : Nat) (g : Byte) (c : Command) (s : State) : State :=
  match c with
  | .general => s.obeyGeneral g
  | .hold e => s.obeyHold g e
  | .resume e => s.obeyResume g e
  | .silence e => s.obeySilence g e
  | .resound e => s.obeyResound g e
  | .allClear => s.obeyAllClear g
  | .zoneDisable z => s.obeyZoneDisable g z
  | .zoneEnable z => s.obeyZoneEnable g z
  | .take mask number => s.obeyTake console g mask number
  | .keep number => s.obeyKeep console g number
  | .give mask => s.obeyGive console g mask
  | .testAnnounce mask message => s.obeyTestAnnounce g mask message
  | .liftRestore _ => s.obeyLiftRestore g

end Sys2Proof.Machine
end

