-- ==== Sys2Proof/Machine/Receive.lean ====
section
/-! DEFINITION. Reception: what each thing the receiver comes to does to the station (R21 to R27, R43, R44, R76 to
R78), and the meanings of the reception commands. -/

namespace Sys2Proof.Machine

/-! ## Discards (R22, R24 to R27) -/

def State.countStuffError (s : State) : State :=
  ({ s with line := { s.line with stuffError := bump16 s.line.stuffError } }).badFrame

def State.countJamSeen (s : State) : State :=
  { s with line := { s.line with jamSeen := bump16 s.line.jamSeen } }

def State.countBadLength (s : State) : State :=
  ({ s with line := { s.line with badLength := bump16 s.line.badLength } }).badFrame

def State.countCrcError (s : State) : State :=
  ({ s with line := { s.line with crcError := bump16 s.line.crcError } }).badFrame

def State.countUnknownKind (s : State) : State :=
  ({ s with line := { s.line with unknownKind := bump16 s.line.unknownKind } }).badFrame

/-! ## Acceptance and the receipt checks (R25, R76, R78, R175) -/

/-- An accepted frame is counted and lights LINE (R25, R175). -/
def State.countAccepted (s : State) : State :=
  { s with line := { s.line with accepted := bump16 s.line.accepted }, lamps := { s.lamps with line := Timer.start 5 } }

/-- A COMMAND whose source is no console (R78). -/
def Frame.foreign (f : Frame) : Bool := f.code == 4 && !(decide (56 ≤ f.source) && decide (f.source ≤ 59))

/-- An accepted record passes the receipt checks and goes to its owner, `hand` (R25, R76, R78). -/
def State.accept (hand : Frame → Word16 → State → State) (f : Frame) (syncTick : Word16) (s : State) : State :=
  let s1 := s.countAccepted
  if f.source = s1.station.address then s1.duplicateHeard
  else if f.foreign then s1.raiseAtOnce .foreignCommand f.source
  else hand f syncTick s1

/-! ## Taking apart (R43, R44) -/

/-- A STATUS record: merged when whole, else set aside. -/
def State.takeStatusFrame (f : Frame) (s : State) : State :=
  match takeStatus f.code f.source f.payload with
  | some r => s.merge f.source f.generation r
  | none => s.setAside

/-- A COMMAND record: obeyed when whole, else set aside. -/
def State.takeCommandFrame (f : Frame) (s : State) : State :=
  match takeCommand f.dest f.payload with
  | some c => s.obey f.source f.generation c
  | none => s.setAside

/-- A MARK record: followed when whole, else set aside. -/
def State.takeMarkFrame (f : Frame) (syncTick : Word16) (s : State) : State :=
  match takeMark f.source f.payload with
  | some m => s.followMark f.source m syncTick
  | none => s.setAside

/-- A record is handed on by its kind (R25). -/
def State.handOn (f : Frame) (syncTick : Word16) (s : State) : State :=
  match f.code with
  | 1 => s.takeStatusFrame f
  | 2 => s.takeStatusFrame f
  | 3 => s.takeStatusFrame f
  | 4 => s.takeCommandFrame f
  | 5 => s.takeMarkFrame f syncTick
  | _ => s

/-! ## Listening to the line -/

/-- What one thing the receiver came to does, before the other blocks react. -/
def State.rxAct (hand : Frame → Word16 → State → State) (e : RxEvent) (s : State) : State :=
  match e with
  | .syncMismatch => s
  | .abandoned => s
  | .stuffError => s.countStuffError
  | .jamSeen => s.countJamSeen
  | .badLength => s.countBadLength
  | .crcError => s.countCrcError
  | .unknownKind => s.countUnknownKind
  | .accepted f t => s.accept hand f t

/-- One event of the receiver. -/
def State.rxEvent (hand : Frame → Word16 → State → State) (s : State) (e : RxEvent) : State :=
  s.event true (State.rxAct hand e)

/-- The destination filter (R23). -/
def State.mine (s : State) (dest : Nat) : Bool := dest == s.station.address || dest == 63

/-- The receiver after the samples of a line command, and what it came to. The sync completion tick is the tick count
now less the tick events since (R21). -/
def State.fed (line : Samples) (s : State) : Receiver × List RxEvent :=
  s.rx.feed s.mine (s.time.tick - BitVec.ofNat 16 line.sinceSync) line.all

/-- The station samples the line (R16, R22). The receiver acts from the entry to LISTEN and is held off while the
station drives the line (R31). -/
def State.hear (hand : Frame → Word16 → State → State) (line : Samples) (s : State) : State :=
  if s.acts ∧ s.tx = .idle then (s.fed line).2.foldl (State.rxEvent hand) { s with rx := (s.fed line).1 } else s

/-! ## The meanings of the reception commands

The line decides what is received; a command of the table names what its samples spell, and samples that spell
something else have the effect that the line gives them (log 9). -/

/-- FRAME_DISCARD (R22 to R27). -/
def execFrameDiscard (line : Samples) (s : State) : Host.Outcome State Fault Refusal := .next (s.hear State.handOn line)

/-- SYNC_MISMATCH (R21). -/
def execSyncMismatch (line : Samples) (s : State) : Host.Outcome State Fault Refusal := .next (s.hear State.handOn line)

/-- A STATUS-FLOOR is merged (R79); any other record goes to its own owner. -/
def handStatusFloor (f : Frame) (t : Word16) (s : State) : State :=
  if f.code = 1 then s.takeStatusFrame f else s.handOn f t

/-- STATUS_FLOOR (R79). -/
def execStatusFloor (line : Samples) (s : State) : Host.Outcome State Fault Refusal := .next (s.hear handStatusFloor line)

/-- A STATUS-LIFT is merged (R79). -/
def handStatusLift (f : Frame) (t : Word16) (s : State) : State :=
  if f.code = 2 then s.takeStatusFrame f else s.handOn f t

/-- STATUS_LIFT (R79). -/
def execStatusLift (line : Samples) (s : State) : Host.Outcome State Fault Refusal := .next (s.hear handStatusLift line)

/-- A STATUS-CONSOLE is merged (R79). -/
def handStatusConsole (f : Frame) (t : Word16) (s : State) : State :=
  if f.code = 3 then s.takeStatusFrame f else s.handOn f t

/-- STATUS_CONSOLE (R79). -/
def execStatusConsole (line : Samples) (s : State) : Host.Outcome State Fault Refusal :=
  .next (s.hear handStatusConsole line)

/-- The whole COMMAND that a frame carries. -/
def Frame.command (f : Frame) : Option Command := if f.code = 4 then takeCommand f.dest f.payload else none

/-- A GENERAL is obeyed (R109). -/
def handGeneral (f : Frame) (t : Word16) (s : State) : State :=
  match f.command with
  | some .general => s.obeyGeneral f.generation
  | _ => s.handOn f t

/-- GENERAL (R109). -/
def execGeneral (line : Samples) (s : State) : Host.Outcome State Fault Refusal := .next (s.hear handGeneral line)

/-- A HOLD is obeyed (R109). -/
def handHold (f : Frame) (t : Word16) (s : State) : State :=
  match f.command with
  | some (.hold e) => s.obeyHold f.generation e
  | _ => s.handOn f t

/-- HOLD (R109). -/
def execHold (line : Samples) (s : State) : Host.Outcome State Fault Refusal := .next (s.hear handHold line)

/-- A RESUME is obeyed (R109). -/
def handResume (f : Frame) (t : Word16) (s : State) : State :=
  match f.command with
  | some (.resume e) => s.obeyResume f.generation e
  | _ => s.handOn f t

/-- RESUME (R109). -/
def execResume (line : Samples) (s : State) : Host.Outcome State Fault Refusal := .next (s.hear handResume line)

/-- A SILENCE is obeyed (R109). -/
def handSilence (f : Frame) (t : Word16) (s : State) : State :=
  match f.command with
  | some (.silence e) => s.obeySilence f.generation e
  | _ => s.handOn f t

/-- SILENCE (R109). -/
def execSilence (line : Samples) (s : State) : Host.Outcome State Fault Refusal := .next (s.hear handSilence line)

/-- A RESOUND is obeyed (R109). -/
def handResound (f : Frame) (t : Word16) (s : State) : State :=
  match f.command with
  | some (.resound e) => s.obeyResound f.generation e
  | _ => s.handOn f t

/-- RESOUND (R109). -/
def execResound (line : Samples) (s : State) : Host.Outcome State Fault Refusal := .next (s.hear handResound line)

/-- An ALL-CLEAR is obeyed (R110). -/
def handAllClear (f : Frame) (t : Word16) (s : State) : State :=
  match f.command with
  | some .allClear => s.obeyAllClear f.generation
  | _ => s.handOn f t

/-- ALL_CLEAR (R110). -/
def execAllClear (line : Samples) (s : State) : Host.Outcome State Fault Refusal := .next (s.hear handAllClear line)

/-- A ZONE DISABLE is obeyed (R69). -/
def handZoneDisable (f : Frame) (t : Word16) (s : State) : State :=
  match f.command with
  | some (.zoneDisable z) => s.obeyZoneDisable f.generation z
  | _ => s.handOn f t

/-- ZONE_DISABLE (R69). -/
def execZoneDisable (line : Samples) (s : State) : Host.Outcome State Fault Refusal := .next (s.hear handZoneDisable line)

/-- A ZONE ENABLE is obeyed (R70). -/
def handZoneEnable (f : Frame) (t : Word16) (s : State) : State :=
  match f.command with
  | some (.zoneEnable z) => s.obeyZoneEnable f.generation z
  | _ => s.handOn f t

/-- ZONE_ENABLE (R70). -/
def execZoneEnable (line : Samples) (s : State) : Host.Outcome State Fault Refusal := .next (s.hear handZoneEnable line)

/-- A TAKE is obeyed (R153). -/
def handTake (f : Frame) (t : Word16) (s : State) : State :=
  match f.command with
  | some (.take mask number) => s.obeyTake f.source f.generation mask number
  | _ => s.handOn f t

/-- TAKE (R153). -/
def execTake (line : Samples) (s : State) : Host.Outcome State Fault Refusal := .next (s.hear handTake line)

/-- A KEEP is obeyed (R154). -/
def handKeep (f : Frame) (t : Word16) (s : State) : State :=
  match f.command with
  | some (.keep number) => s.obeyKeep f.source f.generation number
  | _ => s.handOn f t

/-- KEEP (R154). -/
def execKeep (line : Samples) (s : State) : Host.Outcome State Fault Refusal := .next (s.hear handKeep line)

/-- A GIVE is obeyed (R153). -/
def handGive (f : Frame) (t : Word16) (s : State) : State :=
  match f.command with
  | some (.give mask) => s.obeyGive f.source f.generation mask
  | _ => s.handOn f t

/-- GIVE (R153). -/
def execGive (line : Samples) (s : State) : Host.Outcome State Fault Refusal := .next (s.hear handGive line)

/-- A TEST ANNOUNCE is obeyed (R152). -/
def handTestAnnounce (f : Frame) (t : Word16) (s : State) : State :=
  match f.command with
  | some (.testAnnounce mask message) => s.obeyTestAnnounce f.generation mask message
  | _ => s.handOn f t

/-- TEST_ANNOUNCE (R152). -/
def execTestAnnounce (line : Samples) (s : State) : Host.Outcome State Fault Refusal :=
  .next (s.hear handTestAnnounce line)

/-- A LIFT RESTORE is obeyed (R139). -/
def handLiftRestore (f : Frame) (t : Word16) (s : State) : State :=
  match f.command with
  | some (.liftRestore _) => s.obeyLiftRestore f.generation
  | _ => s.handOn f t

/-- LIFT_RESTORE (R139). -/
def execLiftRestore (line : Samples) (s : State) : Host.Outcome State Fault Refusal := .next (s.hear handLiftRestore line)

/-- A COMMAND of no kind is set aside (R44). -/
def handUnknownCommandKind (f : Frame) (t : Word16) (s : State) : State :=
  if f.code = 4 ∧ f.command = none then s.setAside else s.handOn f t

/-- UNKNOWN_COMMAND_KIND (R44). -/
def execUnknownCommandKind (line : Samples) (s : State) : Host.Outcome State Fault Refusal :=
  .next (s.hear handUnknownCommandKind line)

/-- A MARK is followed (R159). -/
def handMark (f : Frame) (t : Word16) (s : State) : State :=
  if f.code = 5 then s.takeMarkFrame f t else s.handOn f t

/-- MARK (R158, R159). -/
def execMark (line : Samples) (s : State) : Host.Outcome State Fault Refusal := .next (s.hear handMark line)

end Sys2Proof.Machine
end

