-- ==== Sys2Proof/Machine/Link.lean ====
section
/-! DEFINITION. The console link (chapter 10): transactions, reads, ISSUE, keeping; and the meanings of its commands. -/

namespace Sys2Proof.Machine

/-! ## Transactions (R160) -/

/-- The argument bytes of an ISSUE of this kind; a kind with no row of R163 has none. -/
def issueArguments (kind : Nat) : Nat :=
  if kind = 7 ∨ kind = 8 then 2
  else if kind = 9 ∨ kind = 11 then 6
  else if kind = 12 then 7
  else if kind = 13 then 1
  else 0

/-- The bytes are the start of a request that is not yet taken: none, or a code that still waits for arguments (R160,
R163). -/
def partialRequest : List Byte → Bool
  | [] => true
  | [code] => code == 1 || code == 2 || code == 6 || code == 9
  | code :: kind :: arguments => code == 6 && decide (arguments.length < issueArguments kind.toNat)

/-- A request of these bytes can be taken: the link serves requests, select is active, no request of the transaction has
been taken, and what has been clocked in is the start of these bytes (R11, R160). -/
def State.linkReady (bytes : List Byte) (s : State) : Bool :=
  s.actsAs .console && s.link.selected && !s.link.taken && s.link.buffer.isPrefixOf bytes

/-- A request is taken with the last of its bytes: its effect `f`, then the response fixed from the state, in one event
(R160). -/
def State.request (bytes : List Byte) (f : State → State) (response : State → List Byte) (s : State) : State :=
  if s.linkReady bytes then
    let s1 := (f { s with link := { s.link with taken := true, buffer := bytes } }).finish s
    { s1 with link := { s1.link with response := response s1 } }
  else s

/-- A request that changes no state of the station is taken: its bytes, and the response fixed from the state as it
stands (R160, R161). -/
def State.answer (bytes : List Byte) (response : State → List Byte) (s : State) : State :=
  if s.linkReady bytes then { s with link := { s.link with taken := true, buffer := bytes, response := response s } }
  else s

/-- LINK_SELECT_ACTIVE (R160): a transaction begins, and `clocked`, the bytes of its request that are in before the one
with which it is taken (none where the command names none), stands in the link (log 27). -/
def execLinkSelectActive (s : State) (clocked : List Byte := []) : Host.Outcome State Fault Refusal :=
  .next (if s.actsAs .console ∧ ¬ s.link.selected ∧ partialRequest clocked then
    { s with link := { s.link with selected := true, taken := false, buffer := clocked, response := [] } } else s)

/-- LINK_SELECT_INACTIVE (R160): the transaction ends, the partial request and the bytes not clocked are lost. -/
def execLinkSelectInactive (s : State) : Host.Outcome State Fault Refusal :=
  .next (if s.actsAs .console then
    { s with link := { s.link with selected := false, taken := false, buffer := [], response := [] } } else s)

/-! ## Responses (10-1) -/

/-- A response byte with the bits of `named` as given; the layouts do not name the others (log 4). -/
def withSpare (code offset : Nat) (named value : Byte) : Byte :=
  (value &&& named) ||| (Config.linkSpareBits code offset &&& ~~~named)

def Presence.code : Presence → Nat
  | .unknown => 0
  | .live => 1
  | .silent => 2

def PeerStanding.code : PeerStanding → Nat
  | .current => 0
  | .awaiting => 1
  | .stale => 2

/-- Bits 0..5 of the flags byte. -/
def PeerBase.flags (b : PeerBase) : Nat :=
  b.presence.code + 4 * b.standing.code + flag b.listenComplete 4 + flag b.paramDisagree 5

/-- Age, digest, fault count and worst kind. -/
def PeerBase.body (b : PeerBase) : List Byte := [byte b.age, byte b.digest, byte b.faultCount, byte b.worstFault]

/-- READ ENTRY. -/
def FloorEntry.response (floor : Nat) (e : FloorEntry) : List Byte :=
  [byte 1, byte floor, withSpare 1 2 (byte 0x7F) (byte (e.base.flags + flag e.disagree 6))] ++ e.base.body
  ++ zoneBytes e.zones
  ++ [withSpare 1 11 (byte 0x0F) (byte (flag e.alarmLatch 0 + flag e.lobbyLatch 1 + 4 * e.disagreements)),
      speakerByte e.phase e.level e.source, byte e.authority, stairByte e.stairs]

/-- READ BANK. -/
def BankEntry.response (bank : Nat) (e : BankEntry) : List Byte :=
  [byte 2, byte bank, withSpare 2 2 (byte 0x3F) (byte e.base.flags)] ++ e.base.body ++ carBytes e.cars
  ++ [byte e.restoreRefused]

/-- READ CONSOLE. -/
def ConsoleEntry.response (console : Nat) (e : ConsoleEntry) : List Byte :=
  [byte 9, byte console, withSpare 9 2 (byte 0x3F) (byte e.base.flags)] ++ e.base.body
  ++ [withSpare 9 7 (byte 1) (byte (flag e.linkAlive 0))]

/-- The phase vector, four floors to a byte. -/
def Regime.phaseBytes (r : Regime) : List Byte :=
  let p (f : Nat) : Nat := (r.phases.at f .quiet).code
  (List.range 12).map (fun j => byte (p (4 * j) * 64 + p (4 * j + 1) * 16 + p (4 * j + 2) * 4 + p (4 * j + 3)))

/-- An origin slot of READ REGIME. -/
def Spread.slot (r : Spread) : List Byte :=
  [byte (r.origin + flag r.complete 7)] ++ word r.elapsed ++ word r.applied ++ [byte r.upEdge, byte r.downEdge]

/-- Bytes filled up with zeros to a length. -/
def padTo (n : Nat) (bs : List Byte) : List Byte := bs ++ List.replicate (n - bs.length) 0

/-- READ REGIME. -/
def State.regimeResponse (s : State) : List Byte :=
  [byte 3, withSpare 3 1 (byte 7)
      (byte (flag s.regime.generation.isNone 0 + flag s.regime.general 1 + flag s.regime.active 2)),
    s.generationByte, byte s.regime.hold, byte s.regime.silence, byte s.regime.origins.length]
  ++ s.regime.phaseBytes ++ padTo 56 (s.regime.origins.flatMap Spread.slot)

/-- A fault record of READ FAULTS. -/
def FaultRecord.bytes (r : FaultRecord) : List Byte :=
  [byte r.kind.code, byte r.subject, byte (flag r.active 0), byte r.count] ++ word r.firstSeen.toNat

/-- READ FAULTS. -/
def State.faultsResponse (s : State) : List Byte :=
  [byte 4, byte s.faults.activeCount, byte s.faults.overflow, byte s.faults.records.length]
  ++ padTo 96 (s.faults.records.flatMap FaultRecord.bytes)

/-- READ COUNTERS. -/
def State.countersResponse (s : State) : List Byte :=
  [byte 5] ++ word s.line.accepted ++ word s.line.crcError ++ word s.line.stuffError ++ word s.line.jamSeen
  ++ word s.line.badLength ++ word s.line.unknownKind ++ word s.line.sent ++ word s.line.collisions
  ++ word s.line.dropped ++ [byte s.line.windowCount, withSpare 5 20 (byte 1) (byte (flag s.line.degraded 0))]

def IssueOutcome.code : IssueOutcome → Nat
  | .empty => 0
  | .queued => 1
  | .sent => 2
  | .dropped => 3
  | .refused => 4

def Reason.code : Reason → Nat
  | .none => 0
  | .busy => 1
  | .notReady => 2
  | .alarmPresent => 3
  | .regimeActive => 4
  | .notApplicable => 5
  | .epochLimit => 6
  | .authority => 7
  | .argument => 8

/-- READ RESULT. -/
def State.resultResponse (s : State) : List Byte :=
  let r := s.link.result
  [byte 7, byte r.number, byte r.kind, byte r.outcome.code, byte r.reason.code,
    withSpare 7 5 (byte 3) (byte (flag s.link.keeping 0 + flag s.link.alive 1))]
  ++ word s.link.authorityNumber ++ maskBytes s.link.keepMask

/-- The answer to a read that names nothing: 0xFF, then zeros for the rest of its length (R160). -/
def refusedRead (length : Nat) : List Byte := padTo length [byte 0xFF]

/-! ## The reads (R161) -/

/-- READ_ENTRY (R161). -/
def execReadEntry (floor : Byte) (s : State) : Host.Outcome State Fault Refusal :=
  .next (s.answer [byte 1, floor] (fun t =>
    if floor.toNat ≤ 47 then (t.floorEntry floor.toNat).response floor.toNat else refusedRead 15))

/-- READ_BANK (R161). -/
def execReadBank (bank : Byte) (s : State) : Host.Outcome State Fault Refusal :=
  .next (s.answer [byte 2, bank] (fun t =>
    if bank.toNat ≤ 1 then (t.bankEntry bank.toNat).response bank.toNat else refusedRead 12))

/-- READ_REGIME (R161). -/
def execReadRegime (s : State) : Host.Outcome State Fault Refusal :=
  .next (s.answer [byte 3] State.regimeResponse)

/-- READ_FAULTS (R161). -/
def execReadFaults (s : State) : Host.Outcome State Fault Refusal :=
  .next (s.answer [byte 4] State.faultsResponse)

/-- READ_COUNTERS (R161). -/
def execReadCounters (s : State) : Host.Outcome State Fault Refusal :=
  .next (s.answer [byte 5] State.countersResponse)

/-- READ_RESULT (R161). -/
def execReadResult (s : State) : Host.Outcome State Fault Refusal :=
  .next (s.answer [byte 7] State.resultResponse)

/-- READ_CONSOLE (R161). -/
def execReadConsole (console : Byte) (s : State) : Host.Outcome State Fault Refusal :=
  .next (s.answer [byte 9, console] (fun t =>
    if console.toNat ≤ 3 then (t.consoleEntry console.toNat).response console.toNat else refusedRead 8))

/-- Link keep: 5 s in tick events (R162). -/
def linkKeepTicks : Nat := 500

/-- The link keep timer restarts (R162). -/
def State.restartLinkKeep (s : State) : State :=
  { s with link := { s.link with keep := Timer.start linkKeepTicks } }

/-- LINK_KEEP (R162). -/
def execLinkKeep (s : State) : Host.Outcome State Fault Refusal :=
  .next (s.request [byte 8] State.restartLinkKeep (fun _ => [byte 8]))

/-- A request byte that is none of the nine codes (R160). -/
def isUnknownRequest (code : Byte) : Bool := !(decide (1 ≤ code.toNat) && decide (code.toNat ≤ 9))

/-- UNKNOWN_REQUEST (R160). -/
def execUnknownRequest (code : Byte) (s : State) : Host.Outcome State Fault Refusal :=
  .next (if isUnknownRequest code then s.answer [code] (fun _ => [byte 0xFF]) else s)

/-! ## ISSUE (10-2) -/

/-- An ISSUE as the panel gives it: its kind and the panel's arguments (R163). -/
inductive Issue where
  | general | hold | resume | silence | resound | allClear
  | zoneDisable (floor zone : Nat)
  | zoneEnable (floor zone : Nat)
  | take (mask : FloorMask)
  | give (mask : FloorMask)
  | testAnnounce (mask : FloorMask) (message : Nat)
  | liftRestore (bank : Nat)
  | badKind (kind : Nat)
  deriving DecidableEq, Repr

/-- The command kind byte (R163). -/
def Issue.kind : Issue → Nat
  | .general => 1
  | .hold => 2
  | .resume => 3
  | .silence => 4
  | .resound => 5
  | .allClear => 6
  | .zoneDisable _ _ => 7
  | .zoneEnable _ _ => 8
  | .take _ => 9
  | .give _ => 11
  | .testAnnounce _ _ => 12
  | .liftRestore _ => 13
  | .badKind k => k

/-- The bytes of the request (R163). -/
def Issue.bytes (i : Issue) : List Byte :=
  [byte 6, byte i.kind] ++
    match i with
    | .zoneDisable f z => [byte f, byte z]
    | .zoneEnable f z => [byte f, byte z]
    | .take m => maskBytes m
    | .give m => maskBytes m
    | .testAnnounce m n => maskBytes m ++ [byte n]
    | .liftRestore b => [byte b]
    | _ => []

/-- A floor mask is empty or names a position outside L..H (R164). -/
def Image.badMask (i : Image) (m : FloorMask) : Bool :=
  m == 0 || (List.range 48).any (fun f => m.getLsbD f && !i.inUse f)

/-- A zone number of 0 or above 8 (R164). -/
def badZone (z : Nat) : Bool := z == 0 || decide (8 < z)

/-- The ARGUMENT check (R164). -/
def Issue.badArgument (image : Image) : Issue → Bool
  | .zoneDisable f z => !image.inUse f || badZone z
  | .zoneEnable f z => !image.inUse f || badZone z
  | .take m => image.badMask m
  | .give m => image.badMask m
  | .testAnnounce m n => image.badMask m || n == 0 || decide (15 < n)
  | .liftRestore b => decide (1 < b)
  | .badKind _ => true
  | _ => false

def Issue.isTake : Issue → Bool
  | .take _ => true
  | _ => false

/-- The NOT-READY check (R164). -/
def State.notReady (i : Issue) (s : State) : Bool :=
  s.station.lifecycle == .listen || s.regime.generation.isNone || (i.isTake && decide (0 < s.station.takeHoldOff))

/-- The REGIME-ACTIVE check (R164). -/
def Issue.barredByRegime (active : Bool) : Issue → Bool
  | .testAnnounce _ _ => active
  | .liftRestore _ => active
  | _ => false

/-- The NOT-APPLICABLE check (R164). -/
def Issue.notApplicable (r : Regime) : Issue → Bool
  | .hold => r.hold % 2 == 1
  | .resume => r.hold % 2 == 0
  | .silence => r.silence % 2 == 1
  | .resound => r.silence % 2 == 0
  | _ => false

/-- The EPOCH-LIMIT check (R164). -/
def Issue.atLimit (r : Regime) : Issue → Bool
  | .resume => r.hold == 255
  | .resound => r.silence == 255
  | _ => false

/-- A floor entry that the ALARM-PRESENT check looks at and that holds ALL-CLEAR back (R164). -/
def FloorEntry.holdsAllClear (e : FloorEntry) : Bool :=
  (e.base.standing == .current || e.base.presence == .silent)
    && e.zones.any (fun z => z.state == .alarm && z.condition)

/-- The ALARM-PRESENT check (R164). -/
def State.alarmPresent (i : Issue) (s : State) : Bool := i == .allClear && s.peers.floors.any FloorEntry.holdsAllClear

/-- The AUTHORITY check (R164). -/
def State.otherAuthority (i : Issue) (s : State) : Bool :=
  match i with
  | .take m => (List.range 48).any (fun f =>
      m.getLsbD f && (s.floorEntry f).authority != 63 && (s.floorEntry f).authority != s.station.address)
  | _ => false

/-- The checks of R164 in order: the first that fails gives the reason. -/
def State.refusal (i : Issue) (s : State) : Option Reason :=
  if s.link.result.outcome = .queued then some .busy
  else if s.notReady i then some .notReady
  else if i.badArgument s.image then some .argument
  else if i.barredByRegime s.regime.active then some .regimeActive
  else if i.notApplicable s.regime then some .notApplicable
  else if i.atLimit s.regime then some .epochLimit
  else if s.alarmPresent i then some .alarmPresent
  else if s.otherAuthority i then some .authority
  else none

/-- The number a TAKE carries (R167). -/
def Link.takeNumber (l : Link) : Nat := if l.keeping then l.authorityNumber else (l.authorityNumber + 1) % 65536

/-- The COMMAND that a checked ISSUE forms (R165, R167). -/
def State.form (i : Issue) (s : State) : Command :=
  match i with
  | .general => .general
  | .hold => .hold (s.regime.hold + 1)
  | .resume => .resume (s.regime.hold + 1)
  | .silence => .silence (s.regime.silence + 1)
  | .resound => .resound (s.regime.silence + 1)
  | .allClear => .allClear
  | .zoneDisable _ z => .zoneDisable z
  | .zoneEnable _ z => .zoneEnable z
  | .take m => .take m s.link.takeNumber
  | .give m => .give m
  | .testAnnounce m n => .testAnnounce m n
  | .liftRestore b => .liftRestore (48 + b)
  | .badKind _ => .general

/-- The destination (R165). -/
def Issue.dest : Issue → Nat
  | .zoneDisable f _ => f
  | .zoneEnable f _ => f
  | .liftRestore b => 48 + b
  | _ => 63

/-- The FIFO entry of a checked ISSUE (R41, R165). -/
def State.formEntry (i : Issue) (s : State) : CommandEntry :=
  { issued := true, command := s.form i,
    generation := if i = .allClear then s.generationByte + 1 else s.generationByte,
    dest := i.dest, collisions := 0, standing := .pending }

/-- An ISSUE is checked, and refused or queued (R163). -/
def State.issue (i : Issue) (s : State) : State :=
  let number := (s.link.issueCounter + 1) % 256
  let record (outcome : IssueOutcome) (reason : Reason) : Link :=
    { s.link with issueCounter := number,
                  result := { number := number, kind := i.kind, outcome := outcome, reason := reason } }
  match s.refusal i with
  | some .busy => s
  | some r => { s with link := record .refused r }
  | none => { s with link := record .queued .none,
                     slots := { s.slots with fifo := s.slots.fifo ++ [s.formEntry i] } }

/-- The response of an ISSUE: the outcome and reason, BUSY when it was refused so (R163). -/
def issueResponse (busy : Bool) (t : State) : List Byte :=
  let r := t.link.result
  if busy then [byte 6, byte IssueOutcome.refused.code, byte Reason.busy.code, byte r.number]
  else [byte 6, byte r.outcome.code, byte r.reason.code, byte r.number]

/-- The ISSUE request (R163). -/
def State.issueRequest (i : Issue) (s : State) : State :=
  s.request i.bytes (State.issue i) (issueResponse (s.link.result.outcome == .queued))

/-- ISSUE_GENERAL (R163 to R165). -/
def execIssueGeneral (s : State) : Host.Outcome State Fault Refusal := .next (s.issueRequest .general)

/-- ISSUE_HOLD (R163 to R165). -/
def execIssueHold (s : State) : Host.Outcome State Fault Refusal := .next (s.issueRequest .hold)

/-- ISSUE_RESUME (R163 to R165). -/
def execIssueResume (s : State) : Host.Outcome State Fault Refusal := .next (s.issueRequest .resume)

/-- ISSUE_SILENCE (R163 to R165). -/
def execIssueSilence (s : State) : Host.Outcome State Fault Refusal := .next (s.issueRequest .silence)

/-- ISSUE_RESOUND (R163 to R165). -/
def execIssueResound (s : State) : Host.Outcome State Fault Refusal := .next (s.issueRequest .resound)

/-- ISSUE_ALL_CLEAR (R163 to R165). -/
def execIssueAllClear (s : State) : Host.Outcome State Fault Refusal := .next (s.issueRequest .allClear)

/-- ISSUE_ZONE_DISABLE (R163 to R165). -/
def execIssueZoneDisable (floor zone : Byte) (s : State) : Host.Outcome State Fault Refusal :=
  .next (s.issueRequest (.zoneDisable floor.toNat zone.toNat))

/-- ISSUE_ZONE_ENABLE (R163 to R165). -/
def execIssueZoneEnable (floor zone : Byte) (s : State) : Host.Outcome State Fault Refusal :=
  .next (s.issueRequest (.zoneEnable floor.toNat zone.toNat))

/-- ISSUE_TAKE (R163 to R165, R167). -/
def execIssueTake (mask : FloorMask) (s : State) : Host.Outcome State Fault Refusal := .next (s.issueRequest (.take mask))

/-- ISSUE_GIVE (R163 to R165). -/
def execIssueGive (mask : FloorMask) (s : State) : Host.Outcome State Fault Refusal := .next (s.issueRequest (.give mask))

/-- ISSUE_TEST_ANNOUNCE (R163 to R165). -/
def execIssueTestAnnounce (mask : FloorMask) (message : Byte) (s : State) : Host.Outcome State Fault Refusal :=
  .next (s.issueRequest (.testAnnounce mask message.toNat))

/-- ISSUE_LIFT_RESTORE (R163 to R165). -/
def execIssueLiftRestore (bank : Byte) (s : State) : Host.Outcome State Fault Refusal :=
  .next (s.issueRequest (.liftRestore bank.toNat))

/-- A kind byte that ISSUE refuses: 0, 10 or above 13 (R163). -/
def isBadKind (kind : Byte) : Bool := kind.toNat == 0 || kind.toNat == 10 || decide (13 < kind.toNat)

/-- ISSUE_BAD_KIND (R163, R164). -/
def execIssueBadKind (kind : Byte) (s : State) : Host.Outcome State Fault Refusal :=
  .next (if isBadKind kind then s.issueRequest (.badKind kind.toNat) else s)

/-! ## Keeping (10-4) -/

/-- The KEEP period in tick events (R167). -/
def Image.keepPeriodTicks (i : Image) : Nat := max 100 (100 * (i.keepLimit / 3))

/-- A TAKE of the console's own completes (R167). -/
def State.ownTake (mask : FloorMask) (number : Nat) (s : State) : State :=
  if s.link.alive then
    { s with link := { s.link with keepMask := s.link.keepMask ||| mask, authorityNumber := number, keeping := true,
                                   period := if s.link.keeping then s.link.period
                                             else Timer.start s.image.keepPeriodTicks } }
  else s

/-- A GIVE of the console's own completes (R167). -/
def State.ownGive (mask : FloorMask) (s : State) : State :=
  let left := s.link.keepMask &&& ~~~mask
  if left = 0 then { s with link := { s.link with keepMask := left, keeping := false, period := none } }
  else { s with link := { s.link with keepMask := left } }

/-- What a console does with its own command when its frame completes (R166). -/
def State.applyOwn (e : CommandEntry) (s : State) : State :=
  match e.command with
  | .general => s.obeyGeneral e.generation
  | .hold n => s.obeyHold e.generation n
  | .resume n => s.obeyResume e.generation n
  | .silence n => s.obeySilence e.generation n
  | .resound n => s.obeyResound e.generation n
  | .allClear => s.obeyAllClear e.generation
  | .take m n => s.ownTake m n
  | .give m => s.ownGive m
  | _ => s

/-- The COMMAND at the head has completed (R166); a KEEP touches nothing (R168). -/
def State.commandCompleted (e : CommandEntry) (s : State) : State :=
  if e.issued then
    State.applyOwn e
      { s with link := { s.link with result := { s.link.result with outcome := .sent, reason := .none } } }
  else s

/-- The COMMAND at the head has been dropped (R166, R168). -/
def State.commandDropped (e : CommandEntry) (s : State) : State :=
  if e.issued then
    { s with link := { s.link with result := { s.link.result with outcome := .dropped, reason := .none } } }
  else s

/-- A KEEP stands in the FIFO (R168). -/
def Slots.holdsKeep (f : Slots) : Bool := f.fifo.any (fun e => !e.issued)

/-- The KEEP of R168. -/
def State.keepEntry (s : State) : CommandEntry :=
  { issued := false, command := .keep s.link.authorityNumber, generation := s.generationByte, dest := 63,
    collisions := 0, standing := .pending }

/-- The KEEP period expires (R168). -/
def State.keepPeriod (s : State) : State :=
  let s1 := { s with link := { s.link with period := Timer.start s.image.keepPeriodTicks } }
  if s1.slots.holdsKeep then s1 else { s1 with slots := { s1.slots with fifo := s1.slots.fifo ++ [s1.keepEntry] } }

/-- The link keep timer expires (R162, R168). -/
def State.endLinkKeep (s : State) : State :=
  { s with link := { s.link with keep := none, keeping := false, keepMask := 0, period := none } }

/-- The expiry of the KEEP period, when due (R168). -/
def State.onKeepPeriod (s : State) : State :=
  s.event (s.actsAs .console && s.link.keeping && s.link.period.due) State.keepPeriod

/-- KEEP_PERIOD_EXPIRY (R168). -/
def execKeepPeriodExpiry (s : State) : Host.Outcome State Fault Refusal := .next s.onKeepPeriod

/-- The expiry of the link keep timer, when due (R162). -/
def State.onLinkKeepExpiry (s : State) : State := s.event (s.actsAs .console && s.link.keep.due) State.endLinkKeep

/-- LINK_KEEP_EXPIRY (R162, R168). -/
def execLinkKeepExpiry (s : State) : Host.Outcome State Fault Refusal := .next s.onLinkKeepExpiry

end Sys2Proof.Machine
end

