-- ==== Sys2Proof/Machine/Transmit.lean ====
section
/-! DEFINITION. Transmission (R28 to R35, R42): candidate, access wait, frame start, deferral, collision, jam,
completion; and the meanings of those commands and of the status builder's timers. -/

namespace Sys2Proof.Machine

/-! ## The candidate and its wait (R29, R30) -/

/-- What the transmitter takes from a slot: its class and collision count. -/
structure Candidate where
  slot : SlotId
  cls : FrameClass
  collisions : Nat
  deriving DecidableEq, Repr

/-- The STATUS entry as a candidate, if it is PENDING in this class. -/
def Slots.statusCandidate (cls : FrameClass) (f : Slots) : Option Candidate :=
  match f.status with
  | some e => if e.standing = .pending ∧ e.cls = cls then some ⟨.status, cls, e.collisions⟩ else none
  | none => none

/-- The head of the COMMAND FIFO as a candidate. -/
def Slots.commandCandidate (f : Slots) : Option Candidate :=
  match f.fifo with
  | e :: _ => if e.standing = .pending then some ⟨.command, .command, e.collisions⟩ else none
  | [] => none

/-- The MARK as a candidate. -/
def Slots.markCandidate (f : Slots) : Option Candidate :=
  match f.mark with
  | some e => if e.standing = .pending then some ⟨.mark, .mark, e.collisions⟩ else none
  | none => none

/-- The first PENDING entry in the order of R29. -/
def Slots.candidate (f : Slots) : Option Candidate :=
  (f.statusCandidate .alarm).or (f.commandCandidate.or (f.markCandidate.or (f.statusCandidate .status)))

/-- The access wait in bit times (R30). -/
def accessWait (address : Nat) (c : Candidate) : Nat :=
  16 + c.cls.gap + (if 1 ≤ c.collisions then 5 * (address + 1) else 0)

/-! ## The start of a frame (R31, R42) -/

/-- The tick count at which the sync octet of a frame started now will complete, 8 bit times on (R31). A frame started
at bit clock 152 completes it on the tick event itself; of the counts before and after that event the manual names
neither, and the model gives the one after it (log 8). -/
def State.syncCompletion (s : State) : Word16 :=
  if 160 ≤ s.time.bitClocks + 8 then s.time.tick + 1 else s.time.tick

/-- The offset of a MARK of kind `k` (R42). -/
def State.markOffset (k : CadenceKind) (s : State) : Nat := (s.syncCompletion - (s.cadence.record k).cycleStart).toNat

/-- A MARK is abandoned at its start: when its offset would exceed C/2 or 255, when its record is no longer RUNNING, or
when the record has become FOLLOWER since it queued the MARK, LEADER again or not (R42, R158). -/
def State.abandonsMark (m : MarkEntry) (s : State) : Bool :=
  decide (m.cycle < 2 * s.markOffset m.kind) || decide (255 < s.markOffset m.kind)
    || (s.cadence.record m.kind).run != .running || m.overtaken

/-- The frame of a MARK (R37, R42). -/
def State.markFrame (m : MarkEntry) (s : State) : Frame :=
  { source := s.station.address, cls := .mark, dest := 63, code := 5, generation := s.generationByte,
    payload := MarkRecord.payload { kind := m.kind, offset := s.markOffset m.kind, cycle := m.cycle } }

/-- The frame of a COMMAND entry (R20, R41). -/
def State.commandFrame (e : CommandEntry) (s : State) : Frame :=
  { source := s.station.address, cls := .command, dest := e.dest, code := 4, generation := e.generation,
    payload := e.command.payload }

/-- The STATUS frame starts with its snapshot (R31, R51). -/
def State.startStatus (e : StatusEntry) (s : State) : State :=
  let s1 := s.takeSnapshot
  { s1 with tx := .sending .status (s.statusFrame e.cls),
            slots := { s1.slots with status := some { e with standing := .inFlight } } }

/-- The head of the FIFO starts as it was queued (R31). -/
def State.startCommand (e : CommandEntry) (rest : List CommandEntry) (s : State) : State :=
  { s with tx := .sending .command (s.commandFrame e),
           slots := { s.slots with fifo := { e with standing := .inFlight } :: rest } }

def State.startMark (m : MarkEntry) (s : State) : State :=
  { s with tx := .sending .mark (s.markFrame m),
           slots := { s.slots with mark := some { m with standing := .inFlight } } }

/-- The MARK slot goes to its successor, or empties (R28). -/
def Slots.nextMark (f : Slots) : Slots := { f with mark := f.successor, successor := none }

/-- The candidate starts if its wait is met; an abandoned MARK leaves and the candidate is taken again (R31). The
first argument bounds the retakings. -/
def State.tryStart : Nat → State → State
  | 0, s => s
  | n + 1, s =>
    match s.slots.candidate with
    | none => s
    | some c =>
      if s.rx.recessiveRun < accessWait s.station.address c then s
      else match c.slot, s.slots.status, s.slots.fifo, s.slots.mark with
        | .status, some e, _, _ => s.startStatus e
        | .command, _, e :: rest, _ => s.startCommand e rest
        | .mark, _, _, some m =>
          if s.abandonsMark m then State.tryStart n { s with slots := s.slots.nextMark } else s.startMark m
        | _, _, _, _ => s

/-- The transmitter at a bit time of quiet: it takes its candidate (R29 to R31). -/
def State.transmit (s : State) : State :=
  if s.station.lifecycle = .run ∧ s.tx = .idle then (State.tryStart 3 s).finish s else s

/-- FRAME_START (R30, R31): `quiet` recessive samples pass, and the candidate whose wait is then met starts.
`bitClock` is how many bit clock events the frame's first bit lies after the last tick event. -/
def execFrameStart (quiet : Nat) (bitClock : Fin 160) (s : State) : Host.Outcome State Fault Refusal :=
  let s1 := s.hear State.handOn { quiet := quiet, bits := [], sinceSync := 0 }
  .next (if s1.acts then State.transmit { s1 with time := { s1.time with bitClocks := bitClock.val } } else s1)

/-! ## An attempt that ends unsent (R28, R31, R32, R53) -/

/-- The entry in flight returns to PENDING with its collision count `f` of what it was; a MARK gives way to its
successor (R28, R31, R32). -/
def Slots.unsent (f : Nat → Nat) (slot : SlotId) (q : Slots) : Slots :=
  match slot with
  | .status => { q with status := q.status.map (fun e => { e with standing := .pending, collisions := f e.collisions }) }
  | .command =>
    match q.fifo with
    | e :: rest => { q with fifo := { e with standing := .pending, collisions := f e.collisions } :: rest }
    | [] => q
  | .mark =>
    match q.successor with
    | some _ => q.nextMark
    | none => { q with mark := q.mark.map (fun e => { e with standing := .pending, collisions := f e.collisions }) }

/-- The owner is told that the attempt ended unsent (R53). -/
def State.ownerUnsent (slot : SlotId) (s : State) : State :=
  match slot with
  | .status => s.statusUnsent
  | _ => s

/-- The station defers (R31). -/
def State.defer (slot : SlotId) (s : State) : State :=
  State.ownerUnsent slot { s with tx := .idle, slots := s.slots.unsent id slot }

/-- DEFER (R31): the leading sync bit `bit` reads dominant. The receiver sees the same samples, and takes up the
other station's frame from that one. -/
def execDefer (bit : Fin 2) (s : State) : Host.Outcome State Fault Refusal :=
  .next (match s.tx with
    | .sending slot _ =>
      if s.acts then
        ((s.defer slot).finish s).hear State.handOn { quiet := bit.val, bits := [false], sinceSync := 0 }
      else s
    | _ => s)

/-- The collision count of the entry in flight. -/
def Slots.collisionsOf (slot : SlotId) (q : Slots) : Nat :=
  match slot with
  | .status => (q.status.map (fun e => e.collisions)).getD 0
  | .command => (q.fifo.head?.map (fun e => e.collisions)).getD 0
  | .mark => (q.mark.map (fun e => e.collisions)).getD 0

/-- The entry in flight leaves its slot (R34, R35). -/
def Slots.remove (slot : SlotId) (q : Slots) : Slots :=
  match slot with
  | .status => { q with status := none }
  | .command => { q with fifo := q.fifo.drop 1 }
  | .mark => q.nextMark

/-- The owner is told of the drop (R34, R54, R166). -/
def State.ownerDropped (slot : SlotId) (head : Option CommandEntry) (s : State) : State :=
  match slot, head with
  | .status, _ => s.statusDropped
  | .command, some e => s.commandDropped e
  | _, _ => s

/-- The collision limit (R34). -/
def collisionLimit : Nat := 16

/-- The frame in flight is dropped (R34). -/
def State.dropFrame (slot : SlotId) (f : Frame) (s : State) : State :=
  let s1 := { s with line := { s.line with dropped := bump16 s.line.dropped }, slots := s.slots.remove slot }
  State.ownerDropped slot s.slots.fifo.head? (s1.raise .frameDropped f.code)

/-- A collision on the frame in flight (R32). -/
def State.collide (slot : SlotId) (f : Frame) (s : State) : State :=
  let s1 := { s with tx := .jamming, line := { s.line with collisions := bump16 s.line.collisions } }
  if s.slots.collisionsOf slot + 1 < collisionLimit then
    State.ownerUnsent slot { s1 with slots := s1.slots.unsent (fun n => n + 1) slot }
  else s1.dropFrame slot f

/-- COLLISION (R32 to R34): the bit `bit` of the frame on the line, counted from 0, reads back otherwise than it is
driven. The comparison runs from the third sync bit to the last bit of the frame. -/
def execCollision (bit : Nat) (s : State) : Host.Outcome State Fault Refusal :=
  .next (match s.tx with
    | .sending slot f =>
      s.event (s.acts && decide (2 ≤ bit) && decide (bit < f.lineBits.length)) (State.collide slot f)
    | _ => s)

/-- The line is released: recessive run 0, the receiver in HUNTING (R32, R35). -/
def State.release (s : State) : State := { s with tx := .idle, rx := { s.rx.hunt with recessiveRun := 0 } }

/-- JAM_END (R32). -/
def execJamEnd (s : State) : Host.Outcome State Fault Refusal :=
  .next (s.event (s.acts && s.tx == .jamming) State.release)

/-- The owner is told of the completion (R35, R52, R166). -/
def State.ownerCompleted (slot : SlotId) (head : Option CommandEntry) (s : State) : State :=
  match slot, head with
  | .status, _ => s.statusCompleted
  | .command, some e => s.commandCompleted e
  | _, _ => s

/-- The frame in flight completes (R35, R173). -/
def State.complete (slot : SlotId) (f : Frame) (s : State) : State :=
  let s1 := s.release
  let s2 := { s1 with line := { s1.line with sent := bump16 s1.line.sent }, slots := s1.slots.remove slot }
  State.ownerCompleted slot s.slots.fifo.head? (s2.clearFault .frameDropped f.code)

/-- FRAME_COMPLETE (R35). -/
def execFrameComplete (s : State) : Host.Outcome State Fault Refusal :=
  .next (match s.tx with
    | .sending slot f => s.event s.acts (State.complete slot f)
    | _ => s)

/-! ## The status builder's timers (R47, R49) -/

/-- The heartbeat falls due (R47). -/
def State.heartbeat (s : State) : State :=
  { s with builder := { s.builder with heartbeatOwed := true, heartbeat := Timer.start (100 * s.image.heartbeat) } }

/-- The expiry of the heartbeat timer, when due (R47). -/
def State.onHeartbeat (s : State) : State :=
  s.event (s.station.lifecycle == .run && s.builder.heartbeat.due) State.heartbeat

/-- HEARTBEAT_TIMER_EXPIRY (R47). -/
def execHeartbeatTimerExpiry (s : State) : Host.Outcome State Fault Refusal := .next s.onHeartbeat

/-- The spacing timer opens (R49). -/
def State.openSpacing (s : State) : State := { s with builder := { s.builder with spacing := none } }

/-- The opening of the spacing timer, when due (R49). -/
def State.onSpacingOpen (s : State) : State := s.event (s.acts && s.builder.spacing.due) State.openSpacing

/-- SPACING_TIMER_OPEN (R49). -/
def execSpacingTimerOpen (s : State) : Host.Outcome State Fault Refusal := .next s.onSpacingOpen

end Sys2Proof.Machine
end

