-- ==== Sys2Proof/Machine/Field.lean ====
section
/-! DEFINITION. The meanings of the field events: zones, stairs, cars, speaker, authority, cadences and lamps. Each
takes place when the tick events have made it due (logs 2 and 3). -/

namespace Sys2Proof.Machine

/-! ## Zones (chapter 4) -/

/-- The acceptance of the candidate class of zone `z`, when due (R58). -/
def State.onClassAccepted (z : Nat) (s : State) : State :=
  s.event (s.actsAs .floor && (s.zone z).acceptDue) (fun t => t.acceptClass z ((s.zone z).candidate.getD .normal))

/-- LOOP_CLASS_ACCEPTED (R58 to R67). -/
def execLoopClassAccepted (zone : Fin 8) (s : State) : Host.Outcome State Fault Refusal :=
  .next (s.onClassAccepted zone.val)

/-- The zone is in a verification stage (R63). -/
def Zone.inStage (z : Zone) : Bool := z.state == .verifyReset || z.state == .verifySettle

/-- The expiry of the stage timer of zone `z`, when due (R63). -/
def State.onStageExpiry (z : Nat) (s : State) : State :=
  s.event (s.actsAs .floor && (s.zone z).inStage && (s.zone z).stage.due)
    (State.changeZone z 0 (Zone.stageExpired s.regime.active))

/-- STAGE_TIMER_EXPIRY (R63). -/
def execStageTimerExpiry (zone : Fin 8) (s : State) : Host.Outcome State Fault Refusal :=
  .next (s.onStageExpiry zone.val)

/-- The expiry of the confirm window of zone `z`, when due (R64). -/
def State.onConfirmExpiry (z : Nat) (s : State) : State :=
  s.event (s.actsAs .floor && (s.zone z).state == .verifyConfirm && (s.zone z).stage.due)
    (State.changeZone z 0 Zone.confirmExpired)

/-- CONFIRM_WINDOW_EXPIRY (R64). -/
def execConfirmWindowExpiry (zone : Fin 8) (s : State) : Host.Outcome State Fault Refusal :=
  .next (s.onConfirmExpiry zone.val)

/-! ## Stairs (chapter 7) -/

/-- The acceptance of a stair input, when due (R115). -/
def State.onStairInput (i : Nat) (k : StairInput) (s : State) : State :=
  s.event (s.actsAs .floor && (s.stair i).present && ((s.stair i).input k).due) (State.acceptStairInput i k)

/-- STAIR_INPUT_CHANGE (R115, R119, R122, R123). -/
def execStairInputChange (stair : Fin 4) (input : StairInput) (s : State) : Host.Outcome State Fault Refusal :=
  .next (s.onStairInput stair.val input)

/-- The expiry of a mismatch timer, when due (R122). -/
def State.onMismatchExpiry (i : Nat) (s : State) : State :=
  s.event (s.actsAs .floor && (s.stair i).present && (s.stair i).mismatch.due) (State.mismatchExpired i)

/-- MISMATCH_TIMER_EXPIRY (R122). -/
def execMismatchTimerExpiry (stair : Fin 4) (s : State) : Host.Outcome State Fault Refusal :=
  .next (s.onMismatchExpiry stair.val)

/-- The expiry of a held-open timer, when due (R123). -/
def State.onHeldOpenExpiry (i : Nat) (s : State) : State :=
  s.event (s.actsAs .floor && (s.stair i).present && (s.stair i).heldOpen.due) (State.heldOpenExpired i)

/-- HELD_OPEN_TIMER_EXPIRY (R123). -/
def execHeldOpenTimerExpiry (stair : Fin 4) (s : State) : Host.Outcome State Fault Refusal :=
  .next (s.onHeldOpenExpiry stair.val)

/-! ## Cars (chapter 8) -/

/-- The acceptance of a car input, when due (R127). -/
def State.onCarInput (c : Nat) (i : CarInput) (s : State) : State :=
  s.event (s.actsAs .lift && (s.car c).present && ((s.car c).input i).due) (State.acceptCarInput c i)

/-- CAR_INPUT_CHANGE (R127, R128, R134 to R138). -/
def execCarInputChange (car : Fin 4) (input : CarInput) (s : State) : Host.Outcome State Fault Refusal :=
  .next (s.onCarInput car.val input)

/-- The expiry of a recall timer, when due (R134). -/
def State.onRecallExpiry (c : Nat) (s : State) : State :=
  s.event (s.actsAs .lift && (s.car c).present && (s.car c).state == .recalling && (s.car c).recallTimer.due)
    (State.recallExpired c)

/-- RECALL_TIMER_EXPIRY (R134). -/
def execRecallTimerExpiry (car : Fin 4) (s : State) : Host.Outcome State Fault Refusal :=
  .next (s.onRecallExpiry car.val)

/-! ## Speaker and authority (chapter 9) -/

/-- The busy level read moves the exchange on, when it does (R147). -/
def State.onBusyLevel (s : State) : State :=
  s.event (s.actsAs .floor && s.speaker.busyDue s.pins.busy) State.busyRead

/-- BUSY_LEVEL (R147). -/
def execBusyLevel (s : State) : Host.Outcome State Fault Refusal := .next s.onBusyLevel

/-- The expiry of the exchange timer, when due (R147). -/
def State.onMessageExpiry (s : State) : State :=
  s.event (s.actsAs .floor && s.speaker.exchange != .idle && s.speaker.exchangeTimer.due) State.messageExpired

/-- MESSAGE_TIMER_EXPIRY (R147). -/
def execMessageTimerExpiry (s : State) : Host.Outcome State Fault Refusal := .next s.onMessageExpiry

/-- The end of a strobe, when due (R147). -/
def State.onStrobeEnd (s : State) : State :=
  s.event (s.actsAs .floor && (s.speaker.play.due || s.speaker.stop.due))
    (fun t => { t with speaker := t.speaker.strobesEnd })

/-- MESSAGE_STROBE_END (R147). -/
def execMessageStrobeEnd (s : State) : Host.Outcome State Fault Refusal := .next s.onStrobeEnd

/-- The expiry of a PAUSE step, when due (R146). -/
def State.onPauseExpiry (s : State) : State := s.event (s.actsAs .floor && s.speaker.pause.due) State.pauseExpired

/-- PAUSE_EXPIRY (R146). -/
def execPauseExpiry (s : State) : Host.Outcome State Fault Refusal := .next s.onPauseExpiry

/-- The expiry of the authority keep timer, when due (R154). -/
def State.onKeepExpiry (s : State) : State := s.event (s.actsAs .floor && s.authority.keep.due) State.lapseAuthority

/-- KEEP_TIMER_EXPIRY (R154). -/
def execKeepTimerExpiry (s : State) : Host.Outcome State Fault Refusal := .next s.onKeepExpiry

/-! ## Cadences (chapter 9) -/

/-- The cycle starts and ends due at this tick event, the ALERT record first (R155, R157, R158). -/
def State.onCycleStart (s : State) : State :=
  s.event (s.actsAs .floor && (s.cadence.alert.cycleDue || s.cadence.evac.cycleDue))
    (fun t => (t.cycleEnd .alert).cycleEnd .evacuate)

/-- CADENCE_CYCLE_START (R155). -/
def execCadenceCycleStart (s : State) : Host.Outcome State Fault Refusal := .next s.onCycleStart

/-- A pulse boundary of record `k`, when due (R156). -/
def State.onPulseBoundary (k : CadenceKind) (s : State) : State :=
  s.event (s.actsAs .floor && (s.cadence.record k).boundaryDue) (State.pulseBoundary k)

/-- CADENCE_PULSE_BOUNDARY (R156). -/
def execCadencePulseBoundary (kind : CadenceKind) (s : State) : Host.Outcome State Fault Refusal :=
  .next (s.onPulseBoundary kind)

/-- The end of a strobe pulse, when due (R156). -/
def State.onStrobePulseEnd (s : State) : State :=
  s.event (s.actsAs .floor && s.cadence.strobe.due) (fun t => { t with cadence := { t.cadence with strobe := none } })

/-- STROBE_PULSE_END (R156). -/
def execStrobePulseEnd (s : State) : Host.Outcome State Fault Refusal := .next s.onStrobePulseEnd

/-- The lapse of a record's standing, when due (R158). -/
def State.onStandingLapse (k : CadenceKind) (s : State) : State :=
  s.event (s.actsAs .floor && (s.cadence.record k).standing.due) (State.standingLapsed k)

/-- STANDING_LAPSE (R158). -/
def execStandingLapse (kind : CadenceKind) (s : State) : Host.Outcome State Fault Refusal :=
  .next (s.onStandingLapse kind)

/-! ## Lamps (R5, R15, R175) -/

/-- Half a blink of RUN, and half a flash of ALARM or of the HALTED FAULT indicator, in tick events. -/
def runBlinkTicks : Nat := 50
def flashTicks : Nat := 25

/-- A blinking lamp turns over, when due. -/
def State.onFlash (lamp : Lamp) (s : State) : State :=
  match lamp with
  | .run =>
    if s.lamps.runFlash.due then
      { s with lamps := { s.lamps with runLit := !s.lamps.runLit, runFlash := Timer.start runBlinkTicks } }
    else s
  | .alarm =>
    if s.lamps.alarmFlash.due then
      { s with lamps := { s.lamps with alarmLit := !s.lamps.alarmLit, alarmFlash := Timer.start flashTicks } }
    else s
  | .haltedFault =>
    if s.lamps.haltFlash.due then
      { s with lamps := { s.lamps with haltLit := !s.lamps.haltLit, haltFlash := Timer.start flashTicks } }
    else s

/-- INDICATOR_FLASH (R5, R15, R175). -/
def execIndicatorFlash (lamp : Lamp) (s : State) : Host.Outcome State Fault Refusal := .next (s.onFlash lamp)

/-- The LINE indicator goes dark, when due (R175). -/
def State.onLineDark (s : State) : State :=
  if s.lamps.line.due then { s with lamps := { s.lamps with line := none } } else s

/-- LINE_LIT_EXPIRY (R175). -/
def execLineLitExpiry (s : State) : Host.Outcome State Fault Refusal := .next s.onLineDark

end Sys2Proof.Machine
end

