-- ==== Sys2Proof/Machine/Time.lean ====
section
/-! DEFINITION. The lifecycle and the timebase (chapter 1): reset, release, the end of LOAD, LISTEN's end, the tick and
the second, and what falls due by seconds. -/

namespace Sys2Proof.Machine

/-! ## Lifecycle -/

/-- RESET (R3): every block takes its value after pin reset. -/
def execReset (s : State) : Host.Outcome State Fault Refusal := .next { State.reset with pending := s.pending }

/-- The release of reset (R4, R5): with a role the own entry is LIVE and CURRENT at once (R90, R3). -/
def State.releaseReset (address : Nat) (s : State) : State :=
  match roleOf address with
  | some r =>
    State.loopback { s with station := { s.station with lifecycle := .load, address := address, role := some r } }
  | none =>
    { s with station := { s.station with lifecycle := .halted, address := address, role := none },
             lamps := { s.lamps with haltLit := false, haltFlash := Timer.start 1 } }

/-- RESET_RELEASE (R4, R5). -/
def execResetRelease (straps : BitVec 6) (s : State) : Host.Outcome State Fault Refusal :=
  .next (if s.station.lifecycle = .reset then s.releaseReset straps.toNat else s)

/-- CONFIG_LOAD_COMPLETE (R7 to R10): the record is checked and taken, and the station enters LISTEN. -/
def execConfigLoadComplete (record : Tab Byte 64) (pins : Inputs) (s : State) : Host.Outcome State Fault Refusal :=
  .next (match s.station.lifecycle, s.station.role with
    | .load, some r => ((s.load r record).listenEntry pins).finish s
    | _, _ => s)

/-- The LISTEN period runs out: listen-complete is set, and LISTEN ends (R12, R13, R38). -/
def State.listenExpired (s : State) : State :=
  let s1 := { s with station := { s.station with listenTimer := none, listenComplete := true } }
  if s1.station.lifecycle = .listen then s1.runEntry else s1

/-- The expiry of the LISTEN period, when due (R12). -/
def State.onListenExpiry (s : State) : State := s.event (s.acts && s.station.listenTimer.due) State.listenExpired

/-- LISTEN_PERIOD_EXPIRY (R12). -/
def execListenPeriodExpiry (s : State) : Host.Outcome State Fault Refusal := .next s.onListenExpiry

/-! ## The second event (R1) -/

/-- The seconds counter advances (R1). -/
def State.countSecond (s : State) : State :=
  { s with time := { s.time with second := s.time.second + 1, secondDue := false } }

/-- What counts seconds advances (R27, R77, R86, R97). -/
def State.secondWork (s : State) : State :=
  let s1 := s.regimeSecond.agePeers.ageDuplicate
  { s1 with line := { s1.line with windowSeconds := s1.line.windowSeconds + 1 } }

/-- The second event, when due (R1). -/
def State.onSecond (s : State) : State :=
  if s.time.secondDue then
    if s.acts then s.countSecond.secondWork.finish s else s.countSecond
  else s

/-- SECOND (R1). -/
def execSecond (s : State) : Host.Outcome State Fault Refusal := .next s.onSecond

/-- An entry becomes SILENT, when due (R86). -/
def State.onPeerSilence (a : Nat) (s : State) : State := s.event (s.acts && s.silenceDue a) (State.silence a)

/-- PEER_SILENCE (R86). -/
def execPeerSilence (address : Nat) (s : State) : Host.Outcome State Fault Refusal := .next (s.onPeerSilence address)

/-- The duplicate age reaches its limit, when due (R77). -/
def State.onDuplicateLimit (s : State) : State := s.event (s.acts && s.duplicateDue) State.endDuplicate

/-- DUPLICATE_AGE_LIMIT (R77). -/
def execDuplicateAgeLimit (s : State) : Host.Outcome State Fault Refusal := .next s.onDuplicateLimit

/-- A bad-frame window ends and the next begins (R27). -/
def State.endWindow (s : State) : State :=
  let clean := decide (s.line.windowCount ≤ 16)
  let s1 := { s with line := { s.line with windowCount := 0, windowSeconds := 0,
                                           degraded := s.line.degraded && !clean } }
  if clean && s.line.degraded then s1.clearFault .lineDegraded 0 else s1

/-- The window's length in second events (R27). -/
def windowLength : Nat := 60

/-- The end of a window, when due (R27). -/
def State.onWindowEnd (s : State) : State :=
  s.event (s.acts && decide (windowLength ≤ s.line.windowSeconds)) State.endWindow

/-- LINE_WINDOW_END (R27). -/
def execLineWindowEnd (s : State) : Host.Outcome State Fault Refusal := .next s.onWindowEnd

/-! ## The tick event (R1, R2) -/

/-- What a tick event leaves due and no command has taken is taken before the next tick event, in this order
(log 3). -/
def State.settleSeconds (s : State) : State :=
  ((peerAddresses.foldl (fun t a => t.onPeerSilence a) s.onSecond).onDuplicateLimit).onWindowEnd.onListenExpiry

def State.settleZones (s : State) : State :=
  (List.range 8).foldl (fun t z => ((t.onClassAccepted z).onStageExpiry z).onConfirmExpiry z) s

def State.settleStairs (s : State) : State :=
  (List.range 4).foldl (fun t i =>
    ((((t.onStairInput i .door).onStairInput i .feedback).onStairInput i .key).onMismatchExpiry i).onHeldOpenExpiry i) s

def State.settleCars (s : State) : State :=
  (List.range 4).foldl (fun t c =>
    (((((t.onCarInput c .atPrimary).onCarInput c .atAlternate).onCarInput c .doorsOpen).onCarInput c
      .ffKey).onCarInput c .autoService).onRecallExpiry c) s

def State.settleSpeaker (s : State) : State :=
  s.onBusyLevel.onMessageExpiry.onStrobeEnd.onPauseExpiry.onKeepExpiry

def State.settleCadences (s : State) : State :=
  (((((s.onCycleStart.onPulseBoundary .alert).onPulseBoundary .evacuate).onStrobePulseEnd).onStandingLapse
    .alert).onStandingLapse .evacuate)

def State.settleRest (s : State) : State :=
  ((((s.onFlash .run).onFlash .alarm).onFlash
    .haltedFault).onLineDark).onHeartbeat.onSpacingOpen.onKeepPeriod.onLinkKeepExpiry

/-- Everything left due is taken. -/
def State.settle (s : State) : State :=
  s.settleSeconds.settleZones.settleStairs.settleCars.settleSpeaker.settleCadences.settleRest

/-- The counts of the timebase at a tick event (R1). -/
def Timebase.tickEvent (t : Timebase) : Timebase :=
  { t with prescaler := 0, bitClocks := 0, tick := t.tick + 1,
           toSecond := if 99 ≤ t.toSecond then 0 else t.toSecond + 1,
           secondDue := decide (99 ≤ t.toSecond) }

/-- The lamps' timers at a tick event. -/
def Lamps.tick (l : Lamps) : Lamps :=
  { l with runFlash := l.runFlash.tick, alarmFlash := l.alarmFlash.tick, haltFlash := l.haltFlash.tick,
           line := l.line.tick }

/-- The speaker's timers at a tick event; the busy level is read afresh (R147). -/
def Speaker.tick (p : Speaker) : Speaker :=
  { p with pause := p.pause.tick, exchangeTimer := p.exchangeTimer.tick, play := p.play.tick, stop := p.stop.tick,
           busyFresh := p.exchange != .idle }

/-- Every timer of the blocks that act runs for one tick event (R2). -/
def State.runTimers (s : State) : State :=
  { s with station := { s.station with listenTimer := s.station.listenTimer.tick,
                                       takeHoldOff := s.station.takeHoldOff - 1 },
           builder := { s.builder with heartbeat := s.builder.heartbeat.tick, spacing := s.builder.spacing.tick },
           zones := s.zones.map (fun z => { z with stage := z.stage.tick }),
           stairs := s.stairs.map (fun x => { x with mismatch := x.mismatch.tick, heldOpen := x.heldOpen.tick }),
           cars := s.cars.map (fun c => { c with recallTimer := c.recallTimer.tick }),
           speaker := s.speaker.tick,
           authority := { s.authority with keep := s.authority.keep.tick },
           link := { s.link with keep := s.link.keep.tick, period := s.link.period.tick } }

/-- The tick event proper: counts, timers, samples of the inputs, cadence positions. -/
def State.tickEvent (pins : Inputs) (s : State) : State :=
  let s1 := { s with pins := pins, time := s.time.tickEvent, lamps := s.lamps.tick }
  if s1.acts then s1.runTimers.sampleZones.sampleStairs.sampleCars.tickCadence else s1

/-- TICK (R1, R57, R115, R127, R147). While the reset pin is low the timebase is held (R1). -/
def execTick (pins : Inputs) (s : State) : Host.Outcome State Fault Refusal :=
  .next (if s.station.lifecycle = .reset then s else s.settle.tickEvent pins)

end Sys2Proof.Machine
end

