-- ==== Sys2Proof/Machine/Outputs.lean ====
section
/-! DEFINITION. The output pins (0-6), which follow from the state: the reset values of R3, and what each block drives
from the entry to LISTEN. -/

namespace Sys2Proof.Machine

/-- The levels of the output pins. `true` is high, energised, lit or active. -/
structure Outputs where
  /-- The bits that the riser driver is putting on the line; recessive when empty. `true` is recessive. -/
  riser : List Bool
  /-- Configuration memory select (R6). -/
  memorySelect : Bool
  /-- The levels of the memory clock in turn, two to a clock cycle; low when empty (R6). -/
  memoryClock : List Bool
  /-- The levels of the memory port's data out, one to a clock cycle; low when empty (R6). -/
  memoryData : List Bool
  /-- The bytes on the link's data out, byte slot by byte slot from the start of the transaction, and 0x00 in every slot
  beyond (`Outputs.linkSlot`); `none` while data out is released (R160). -/
  linkData : Option (List Byte)
  loopPower : Tab Bool 8
  lock : Tab Bool 4
  sourceSelect : Nat
  messageLines : Nat
  play : Bool
  stop : Bool
  bell : Bool
  strobe : Bool
  liveVoice : Bool
  faultRelay : Bool
  runLamp : Bool
  faultLamp : Bool
  alarmLamp : Bool
  lineLamp : Bool
  deriving DecidableEq, Repr

/-- The reset values (R3). -/
def Outputs.atReset : Outputs :=
  { riser := [], memorySelect := false, memoryClock := [], memoryData := [], linkData := none,
    loopPower := Tab.fill 8 false, lock := Tab.fill 4 false, sourceSelect := 0, messageLines := 0, play := false,
    stop := false, bell := false, strobe := false, liveVoice := false, faultRelay := false, runLamp := false,
    faultLamp := false, alarmLamp := false, lineLamp := false }

/-- The jam: 12 dominant bits (R32). -/
def jamBits : List Bool := List.replicate 12 false

/-- What the riser driver is putting on the line. -/
def Transmitter.bits : Transmitter → List Bool
  | .idle => []
  | .sending _ f => f.lineBits
  | .jamming => jamBits

/-! ## The configuration memory port (R6) -/

/-- What the loader sends before the record comes in: the read instruction and the two address bytes. -/
def memoryRequest : List Byte := [0x03, 0x00, 0x00]

/-- The bits of the transaction, one to a memory clock cycle: 67 bytes. -/
def memoryCycles : Nat := 536

/-- Data out in each clock cycle of the transaction. The bytes go most significant bit first: the manual gives that order
to the riser line (0-7) and the console link (10-1) and none to this port, and the model takes the same (log 28). -/
def memoryDataOut : List Bool :=
  bytesBits memoryRequest ++ (List.range 512).map Config.memoryIdleOut

/-- The clock of the transaction: mode 0, low before the rising edge of each cycle and high after it. -/
def memoryClockOut : List Bool := (List.range (2 * memoryCycles)).map (fun i => i % 2 == 1)

/-! ## The link's data out (R160) -/

/-- Data out from the start of the transaction: 0x00 for every byte clocked in, then the response once it is fixed. -/
def Link.dataOut (l : Link) : Option (List Byte) :=
  if l.selected then some (List.replicate l.buffer.length 0 ++ l.response) else none

/-- The byte on data out in byte slot `n` of the transaction; `none` while data out is released. -/
def Outputs.linkSlot (o : Outputs) (n : Nat) : Option Byte := o.linkData.map (fun bytes => bytes.getD n 0)

/-! ## Car outputs (R129) -/

/-- The recall output of target `t` is high. -/
def Car.recalls (t : Target) (c : Car) : Bool :=
  c.present && (c.state == .recalling || c.state == .parked || c.state == .unavailable) && c.target == t

def Car.holdsDoors (c : Car) : Bool := c.present && c.state == .parked

def Car.permitsFirefighter (c : Car) : Bool := c.present && c.state == .firefighter

/-! ## Shared pins (R72, R127) -/

/-- Loop power output `i`, counted from 0: a zone's loop power, or a car's recall output. -/
def State.loopPowerPin (s : State) (i : Nat) : Bool :=
  match s.station.role with
  | some .floor => (s.zone i).power
  | some .lift => (s.car (i / 2)).recalls (if i % 2 = 0 then .primary else .alternate)
  | _ => false

/-- The lock output of a stair is high while its unlock command is 0; absent stairs stay low (R114, R119). -/
def Stair.lockPin (x : Stair) : Bool := x.present && !x.unlock

/-- Lock output `i`: a stair's lock, or a car's hold-doors-open. -/
def State.lockPin (s : State) (i : Nat) : Bool :=
  match s.station.role with
  | some .floor => (s.stair i).lockPin
  | some .lift => (s.car i).holdsDoors
  | _ => false

/-- The message number lines: the message number, or the cars' ff-permitted outputs, line 1 for car 1. -/
def State.messagePins (s : State) : Nat :=
  match s.station.role with
  | some .floor => s.speaker.lines
  | some .lift => ((List.range 4).map (fun c => flag (s.car c).permitsFirefighter c)).sum
  | _ => 0

/-- The outputs of a station in LISTEN or RUN. The memory port's data out stays low once the transaction is over: the
manual gives it a level at reset alone, and the model keeps to that one (log 28). -/
def State.drivenOutputs (s : State) : Outputs :=
  let floor := s.station.role == some .floor
  { riser := s.tx.bits, memorySelect := false, memoryClock := [], memoryData := [], linkData := s.link.dataOut,
    loopPower := Tab.ofFn 8 s.loopPowerPin, lock := Tab.ofFn 4 s.lockPin,
    sourceSelect := if floor then s.speaker.source.code else 0, messageLines := s.messagePins,
    play := floor && s.speaker.play.isSome, stop := floor && s.speaker.stop.isSome,
    bell := floor && s.cadence.bell.isSome, strobe := floor && s.cadence.strobe.isSome,
    liveVoice := floor && s.speaker.source == .live,
    faultRelay := s.faults.activeCount == 0, runLamp := s.lamps.runLit,
    faultLamp := s.faults.activeCount != 0, alarmLamp := s.regime.active || s.lamps.alarmLit,
    lineLamp := s.lamps.line.isSome }

/-- The output pins in every lifecycle state (R3, R5, R10). -/
def State.outputs (s : State) : Outputs :=
  match s.station.lifecycle with
  | .reset => Outputs.atReset
  | .load =>
    { Outputs.atReset with memorySelect := true, memoryClock := memoryClockOut, memoryData := memoryDataOut }
  | .halted => { Outputs.atReset with faultLamp := s.lamps.haltLit }
  | .listen => s.drivenOutputs
  | .run => s.drivenOutputs

end Sys2Proof.Machine
end

