-- ==== Sys2Proof/WellFormed.lean ====
section
/-! DEFINITION. Which commands are well formed: the operands that the manual's own ranges allow, and line commands
whose samples spell the record they name. -/

namespace Sys2Proof

open Sys2Proof.Machine

/-- A record's content is one a frame can carry: its fields fit the header, and its payload is at most 48 bytes (R20,
R24). -/
def Machine.Frame.fits (f : Frame) : Bool :=
  decide (f.source < 64) && decide (f.dest < 64) && decide (f.code < 256) && decide (f.payload.length ≤ 48)
    && kindMayTravel f.code f.cls

/-- A receiver in HUNTING that has heard 16 bit times of quiet (R21). -/
def Machine.Receiver.armed : Receiver := { Receiver.atReset with recessiveRun := 16 }

/-- A receiver that has taken the first dominant bit of a frame, as a deferring station's has (R31). -/
def Machine.Receiver.inSync : Receiver := { Receiver.atReset with phase := .sync }

/-- What a receiver that takes every destination comes to on the samples alone, from `r`. -/
def Samples.heard (r : Receiver) (line : Samples) : List RxEvent := (r.feed (fun _ => true) 0 line.all).2

/-- The one frame that the samples bring receiver `r` to accept. -/
def Samples.frameFrom (r : Receiver) (line : Samples) : Option Frame :=
  match line.heard r with
  | [.accepted f _] => some f
  | _ => none

/-- The frame that the samples spell, whole, or from the bit after its first dominant one (R31). -/
def Samples.frame (line : Samples) : Option Frame := (line.frameFrom Receiver.armed).or (line.frameFrom Receiver.inSync)

/-- The samples spell a record of this kind code. -/
def Samples.carries (line : Samples) (code : Nat) : Bool :=
  match line.frame with
  | some f => f.code == code
  | none => false

/-- The samples spell a COMMAND record of this command kind. -/
def Samples.carriesCommand (line : Samples) (kind : Nat) : Bool :=
  match line.frame with
  | some f => f.code == 4 && f.payload.head? == some (byte kind)
  | none => false

/-- The samples spell a COMMAND record of no kind: empty, or a kind code of 0 or above 13 (R44). -/
def Samples.carriesNoCommand (line : Samples) : Bool :=
  match line.frame with
  | some f =>
    f.code == 4 &&
    (match f.payload with
     | [] => true
     | k :: _ => k.toNat == 0 || decide (13 < k.toNat))
  | none => false

/-- The event ends the assembly of a frame at a station it is not for, or at every station (R22 to R25). -/
def Machine.RxEvent.discards : RxEvent → Bool
  | .accepted f _ => f.dest != 63
  | .syncMismatch => false
  | _ => true

/-- The samples bring some station to discard a frame. -/
def Samples.discards (line : Samples) : Bool :=
  (line.heard Receiver.armed).any RxEvent.discards || (line.heard Receiver.inSync).any RxEvent.discards

/-- The samples bring a receiver to a sync octet that does not agree (R21). -/
def Samples.mismatches (line : Samples) : Bool :=
  (line.heard Receiver.armed).contains .syncMismatch || (line.heard Receiver.inSync).contains .syncMismatch

/-- The longest frame in bit times (R17). -/
def longestFrame : Nat := 557

/-- The well-formed commands. -/
def Instr.wf : Instr → Bool
  | .reset => true
  | .resetRelease _ => true
  | .configLoadComplete _ _ => true
  | .listenPeriodExpiry => true
  | .tick _ => true
  | .second => true
  | .peerSilence address => isPeerAddress address
  | .duplicateAgeLimit => true
  | .lineWindowEnd => true
  | .frameDiscard line => line.discards
  | .statusFloor line => line.carries 1
  | .statusLift line => line.carries 2
  | .statusConsole line => line.carries 3
  | .general line => line.carriesCommand 1
  | .hold line => line.carriesCommand 2
  | .resume line => line.carriesCommand 3
  | .silence line => line.carriesCommand 4
  | .resound line => line.carriesCommand 5
  | .allClear line => line.carriesCommand 6
  | .zoneDisable line => line.carriesCommand 7
  | .zoneEnable line => line.carriesCommand 8
  | .take line => line.carriesCommand 9
  | .keep line => line.carriesCommand 10
  | .give line => line.carriesCommand 11
  | .testAnnounce line => line.carriesCommand 12
  | .liftRestore line => line.carriesCommand 13
  | .mark line => line.carries 5
  | .frameStart _ _ => true
  | .defer _ => true
  | .collision bit => decide (2 ≤ bit) && decide (bit < longestFrame)
  | .jamEnd => true
  | .frameComplete => true
  | .heartbeatTimerExpiry => true
  | .spacingTimerOpen => true
  | .loopClassAccepted _ => true
  | .stageTimerExpiry _ => true
  | .confirmWindowExpiry _ => true
  | .stairInputChange _ _ => true
  | .mismatchTimerExpiry _ => true
  | .heldOpenTimerExpiry _ => true
  | .carInputChange _ _ => true
  | .recallTimerExpiry _ => true
  | .busyLevel => true
  | .messageTimerExpiry => true
  | .messageStrobeEnd => true
  | .pauseExpiry => true
  | .keepTimerExpiry => true
  | .cadenceCycleStart => true
  | .cadencePulseBoundary _ => true
  | .strobePulseEnd => true
  | .standingLapse _ => true
  | .indicatorFlash _ => true
  | .lineLitExpiry => true
  | .readEntry _ => true
  | .readBank _ => true
  | .readRegime => true
  | .readFaults => true
  | .readCounters => true
  | .readResult => true
  | .readConsole _ => true
  | .linkKeep => true
  | .unknownRequest code => isUnknownRequest code
  | .linkSelectInactive => true
  | .issueGeneral => true
  | .issueHold => true
  | .issueResume => true
  | .issueSilence => true
  | .issueResound => true
  | .issueAllClear => true
  | .issueZoneDisable _ _ => true
  | .issueZoneEnable _ _ => true
  | .issueTake _ => true
  | .issueGive _ => true
  | .issueTestAnnounce _ _ => true
  | .issueLiftRestore _ => true
  | .issueBadKind kind => isBadKind kind
  | .keepPeriodExpiry => true
  | .linkKeepExpiry => true
  | .syncMismatch line => line.mismatches
  | .unknownCommandKind line => line.carriesNoCommand
  | .linkSelectActive clocked => partialRequest clocked

end Sys2Proof
end

