-- ==== Sys2Proof/Machine/Dispatch.lean ====
section
/-! DEFINITION. The meaning of each command, one arm for each row of spec/opcode_table.json. -/

namespace Sys2Proof.Machine

def exec (i : Instr) (s : State) : Host.Outcome State Fault Refusal :=
  match i with
  | .reset => Sys2Proof.Machine.execReset s
  | .resetRelease straps => Sys2Proof.Machine.execResetRelease straps s
  | .configLoadComplete record pins => Sys2Proof.Machine.execConfigLoadComplete record pins s
  | .listenPeriodExpiry => Sys2Proof.Machine.execListenPeriodExpiry s
  | .tick pins => Sys2Proof.Machine.execTick pins s
  | .second => Sys2Proof.Machine.execSecond s
  | .peerSilence address => Sys2Proof.Machine.execPeerSilence address s
  | .duplicateAgeLimit => Sys2Proof.Machine.execDuplicateAgeLimit s
  | .lineWindowEnd => Sys2Proof.Machine.execLineWindowEnd s
  | .frameDiscard line => Sys2Proof.Machine.execFrameDiscard line s
  | .statusFloor line => Sys2Proof.Machine.execStatusFloor line s
  | .statusLift line => Sys2Proof.Machine.execStatusLift line s
  | .statusConsole line => Sys2Proof.Machine.execStatusConsole line s
  | .general line => Sys2Proof.Machine.execGeneral line s
  | .hold line => Sys2Proof.Machine.execHold line s
  | .resume line => Sys2Proof.Machine.execResume line s
  | .silence line => Sys2Proof.Machine.execSilence line s
  | .resound line => Sys2Proof.Machine.execResound line s
  | .allClear line => Sys2Proof.Machine.execAllClear line s
  | .zoneDisable line => Sys2Proof.Machine.execZoneDisable line s
  | .zoneEnable line => Sys2Proof.Machine.execZoneEnable line s
  | .take line => Sys2Proof.Machine.execTake line s
  | .keep line => Sys2Proof.Machine.execKeep line s
  | .give line => Sys2Proof.Machine.execGive line s
  | .testAnnounce line => Sys2Proof.Machine.execTestAnnounce line s
  | .liftRestore line => Sys2Proof.Machine.execLiftRestore line s
  | .mark line => Sys2Proof.Machine.execMark line s
  | .frameStart quiet bitClock => Sys2Proof.Machine.execFrameStart quiet bitClock s
  | .defer bit => Sys2Proof.Machine.execDefer bit s
  | .collision bit => Sys2Proof.Machine.execCollision bit s
  | .jamEnd => Sys2Proof.Machine.execJamEnd s
  | .frameComplete => Sys2Proof.Machine.execFrameComplete s
  | .heartbeatTimerExpiry => Sys2Proof.Machine.execHeartbeatTimerExpiry s
  | .spacingTimerOpen => Sys2Proof.Machine.execSpacingTimerOpen s
  | .loopClassAccepted zone => Sys2Proof.Machine.execLoopClassAccepted zone s
  | .stageTimerExpiry zone => Sys2Proof.Machine.execStageTimerExpiry zone s
  | .confirmWindowExpiry zone => Sys2Proof.Machine.execConfirmWindowExpiry zone s
  | .stairInputChange stair input => Sys2Proof.Machine.execStairInputChange stair input s
  | .mismatchTimerExpiry stair => Sys2Proof.Machine.execMismatchTimerExpiry stair s
  | .heldOpenTimerExpiry stair => Sys2Proof.Machine.execHeldOpenTimerExpiry stair s
  | .carInputChange car input => Sys2Proof.Machine.execCarInputChange car input s
  | .recallTimerExpiry car => Sys2Proof.Machine.execRecallTimerExpiry car s
  | .busyLevel => Sys2Proof.Machine.execBusyLevel s
  | .messageTimerExpiry => Sys2Proof.Machine.execMessageTimerExpiry s
  | .messageStrobeEnd => Sys2Proof.Machine.execMessageStrobeEnd s
  | .pauseExpiry => Sys2Proof.Machine.execPauseExpiry s
  | .keepTimerExpiry => Sys2Proof.Machine.execKeepTimerExpiry s
  | .cadenceCycleStart => Sys2Proof.Machine.execCadenceCycleStart s
  | .cadencePulseBoundary kind => Sys2Proof.Machine.execCadencePulseBoundary kind s
  | .strobePulseEnd => Sys2Proof.Machine.execStrobePulseEnd s
  | .standingLapse kind => Sys2Proof.Machine.execStandingLapse kind s
  | .indicatorFlash lamp => Sys2Proof.Machine.execIndicatorFlash lamp s
  | .lineLitExpiry => Sys2Proof.Machine.execLineLitExpiry s
  | .readEntry floor => Sys2Proof.Machine.execReadEntry floor s
  | .readBank bank => Sys2Proof.Machine.execReadBank bank s
  | .readRegime => Sys2Proof.Machine.execReadRegime s
  | .readFaults => Sys2Proof.Machine.execReadFaults s
  | .readCounters => Sys2Proof.Machine.execReadCounters s
  | .readResult => Sys2Proof.Machine.execReadResult s
  | .readConsole console => Sys2Proof.Machine.execReadConsole console s
  | .linkKeep => Sys2Proof.Machine.execLinkKeep s
  | .unknownRequest code => Sys2Proof.Machine.execUnknownRequest code s
  | .linkSelectInactive => Sys2Proof.Machine.execLinkSelectInactive s
  | .issueGeneral => Sys2Proof.Machine.execIssueGeneral s
  | .issueHold => Sys2Proof.Machine.execIssueHold s
  | .issueResume => Sys2Proof.Machine.execIssueResume s
  | .issueSilence => Sys2Proof.Machine.execIssueSilence s
  | .issueResound => Sys2Proof.Machine.execIssueResound s
  | .issueAllClear => Sys2Proof.Machine.execIssueAllClear s
  | .issueZoneDisable floor zone => Sys2Proof.Machine.execIssueZoneDisable floor zone s
  | .issueZoneEnable floor zone => Sys2Proof.Machine.execIssueZoneEnable floor zone s
  | .issueTake mask => Sys2Proof.Machine.execIssueTake mask s
  | .issueGive mask => Sys2Proof.Machine.execIssueGive mask s
  | .issueTestAnnounce mask message => Sys2Proof.Machine.execIssueTestAnnounce mask message s
  | .issueLiftRestore bank => Sys2Proof.Machine.execIssueLiftRestore bank s
  | .issueBadKind kind => Sys2Proof.Machine.execIssueBadKind kind s
  | .keepPeriodExpiry => Sys2Proof.Machine.execKeepPeriodExpiry s
  | .linkKeepExpiry => Sys2Proof.Machine.execLinkKeepExpiry s
  | .syncMismatch line => Sys2Proof.Machine.execSyncMismatch line s
  | .unknownCommandKind line => Sys2Proof.Machine.execUnknownCommandKind line s
  | .linkSelectActive clocked => Sys2Proof.Machine.execLinkSelectActive s clocked

end Sys2Proof.Machine
end

