-- ==== Sys2Proof/Safety.lean ====
section
/-! DEFINITION. What counts as a safe run: the laws that the manual states of a station's state, the parts of the state
that each command may change, and the conditions under which a station takes a record. -/

namespace Sys2Proof.Machine

/-- A step is safe when it answers a next state: the station neither faults nor refuses. -/
def Safe (o : Host.Outcome State Fault Refusal) : Prop := ∃ t, o = .next t

/-! ## Parts of the state, and the parts a command may change -/

/-- The parts of the state that the frames speak of. -/
inductive Part where
  | pins | time | identity | lifecycle | listen | holdOff | image
  | rx | tx | statusSlot | fifo | markSlots | line
  | heartbeat | changeDue | spacing | reported | snapshot
  | zones | peers | duplicateAge
  | generation | general | holdEpoch | silenceEpoch | origins | phases
  | stairs | cars | restoreRefused | speaker | authority | cadence | link | faults
  | runLamp | alarmLamp | haltLamp | lineLamp
  deriving DecidableEq, Repr

/-- The part is the same in two states. -/
def Part.same (p : Part) (s t : State) : Prop :=
  match p with
  | .pins => t.pins = s.pins
  | .time => t.time = s.time
  | .identity => t.station.address = s.station.address ∧ t.station.role = s.station.role
      ∧ t.station.loadStatus = s.station.loadStatus ∧ t.station.digest = s.station.digest
  | .lifecycle => t.station.lifecycle = s.station.lifecycle
  | .listen => t.station.listenTimer = s.station.listenTimer ∧ t.station.listenComplete = s.station.listenComplete
  | .holdOff => t.station.takeHoldOff = s.station.takeHoldOff
  | .image => t.image = s.image
  | .rx => t.rx = s.rx
  | .tx => t.tx = s.tx
  | .statusSlot => t.slots.status = s.slots.status
  | .fifo => t.slots.fifo = s.slots.fifo
  | .markSlots => t.slots.mark = s.slots.mark ∧ t.slots.successor = s.slots.successor
  | .line => t.line = s.line
  | .heartbeat => t.builder.heartbeat = s.builder.heartbeat ∧ t.builder.heartbeatOwed = s.builder.heartbeatOwed
  | .changeDue => t.builder.changeDue = s.builder.changeDue
  | .spacing => t.builder.spacing = s.builder.spacing
  | .reported => t.builder.reported = s.builder.reported
  | .snapshot => t.builder.snapshot = s.builder.snapshot
  | .zones => t.zones = s.zones
  | .peers => t.peers.floors = s.peers.floors ∧ t.peers.banks = s.peers.banks ∧ t.peers.consoles = s.peers.consoles
  | .duplicateAge => t.peers.duplicateAge = s.peers.duplicateAge
  | .generation => t.regime.generation = s.regime.generation
  | .general => t.regime.general = s.regime.general
  | .holdEpoch => t.regime.hold = s.regime.hold
  | .silenceEpoch => t.regime.silence = s.regime.silence
  | .origins => t.regime.origins = s.regime.origins ∧ t.regime.overflow = s.regime.overflow
  | .phases => t.regime.phases = s.regime.phases
  | .stairs => t.stairs = s.stairs
  | .cars => t.cars = s.cars
  | .restoreRefused => t.restoreRefused = s.restoreRefused
  | .speaker => t.speaker = s.speaker
  | .authority => t.authority = s.authority
  | .cadence => t.cadence = s.cadence
  | .link => t.link = s.link
  | .faults => t.faults = s.faults
  | .runLamp => t.lamps.runLit = s.lamps.runLit ∧ t.lamps.runFlash = s.lamps.runFlash
  | .alarmLamp => t.lamps.alarmLit = s.lamps.alarmLit ∧ t.lamps.alarmFlash = s.lamps.alarmFlash
  | .haltLamp => t.lamps.haltLit = s.lamps.haltLit ∧ t.lamps.haltFlash = s.lamps.haltFlash
  | .lineLamp => t.lamps.line = s.lamps.line

/-- Between two states nothing has changed but the listed parts. -/
def Touches (ps : List Part) (s t : State) : Prop := t.pending = s.pending ∧ ∀ p, p ∉ ps → p.same s t

/-- What the other blocks may change in their reaction to an event that leaves the regime's activity and generation as
they were. -/
def Part.reactions : List Part :=
  [.statusSlot, .changeDue, .peers, .stairs, .cars, .speaker, .cadence, .faults, .alarmLamp]

/-- What they may change besides in an event that makes the regime active, the own zones' alarms included (R65). -/
def Part.activation : List Part :=
  [.zones, .origins, .general, .silenceEpoch, .phases, .lifecycle, .heartbeat, .runLamp] ++ Part.reactions

/-- What the receiver may bring a station to change. -/
def Part.reception : List Part :=
  [.rx, .line, .lineLamp, .duplicateAge, .generation, .holdEpoch, .reported, .restoreRefused, .authority, .markSlots]
    ++ Part.activation

/-- What a console's own command may change when it completes, and the end of any flight. -/
def Part.completion : List Part :=
  [.rx, .tx, .line, .statusSlot, .fifo, .markSlots, .spacing, .reported, .snapshot, .generation, .holdEpoch, .link]
    ++ Part.activation

/-- What a tick event may change: everything but the image, the address, the receiver, the transmitter, the view's
generation and hold epoch, the restores refused and the flight's bookkeeping. -/
def Part.ticking : List Part :=
  [.pins, .time, .listen, .holdOff, .fifo, .markSlots, .line, .spacing, .duplicateAge, .authority, .link, .haltLamp,
    .lineLamp] ++ Part.activation

/-- Every part. -/
def Part.all : List Part :=
  [.pins, .time, .identity, .lifecycle, .listen, .holdOff, .image, .rx, .tx, .statusSlot, .fifo, .markSlots, .line,
    .heartbeat, .changeDue, .spacing, .reported, .snapshot, .zones, .peers, .duplicateAge, .generation, .general,
    .holdEpoch, .silenceEpoch, .origins, .phases, .stairs, .cars, .restoreRefused, .speaker, .authority, .cadence,
    .link, .faults, .runLamp, .alarmLamp, .haltLamp, .lineLamp]

end Sys2Proof.Machine

namespace Sys2Proof

open Sys2Proof.Machine

/-- The lamp's own part. -/
def Lamp.part : Lamp → Part
  | .run => .runLamp
  | .alarm => .alarmLamp
  | .haltedFault => .haltLamp

/-- The samples that a command of the line brings; `none` for the others. -/
def Instr.samples : Instr → Option Samples
  | .frameDiscard line => some line
  | .syncMismatch line => some line
  | .statusFloor line => some line
  | .statusLift line => some line
  | .statusConsole line => some line
  | .general line => some line
  | .hold line => some line
  | .resume line => some line
  | .silence line => some line
  | .resound line => some line
  | .allClear line => some line
  | .zoneDisable line => some line
  | .zoneEnable line => some line
  | .take line => some line
  | .keep line => some line
  | .give line => some line
  | .testAnnounce line => some line
  | .liftRestore line => some line
  | .mark line => some line
  | .unknownCommandKind line => some line
  | _ => none

/-- The samples that a command lets the receiver take: those of a line command, the quiet before a frame starts, and the
sync bits with which a station defers (R22, R31). -/
def Instr.hears : Instr → Option Samples
  | .frameStart quiet _ => some { quiet := quiet, bits := [], sinceSync := 0 }
  | .defer bit => some { quiet := bit.val, bits := [false], sinceSync := 0 }
  | c => c.samples

/-- The command is one event of the station at most, where it is no line command: all are but TICK, which takes what is
left due, and FRAME_START and DEFER, which hear the line besides (log 3). -/
abbrev Instr.oneEvent (c : Instr) : Prop := (∀ pins, c ≠ .tick pins) ∧ (∀ n b, c ≠ .frameStart n b) ∧ ∀ b, c ≠ .defer b

/-- The ISSUE that a command of the link asks for. -/
def Instr.asks : Instr → Option Issue
  | .issueGeneral => some .general
  | .issueHold => some .hold
  | .issueResume => some .resume
  | .issueSilence => some .silence
  | .issueResound => some .resound
  | .issueAllClear => some .allClear
  | .issueZoneDisable floor zone => some (.zoneDisable floor.toNat zone.toNat)
  | .issueZoneEnable floor zone => some (.zoneEnable floor.toNat zone.toNat)
  | .issueTake mask => some (.take mask)
  | .issueGive mask => some (.give mask)
  | .issueTestAnnounce mask message => some (.testAnnounce mask message.toNat)
  | .issueLiftRestore bank => some (.liftRestore bank.toNat)
  | .issueBadKind kind => if isBadKind kind then some (.badKind kind.toNat) else none
  | _ => none

/-- The parts that each command may change; every other part it leaves as it was. -/
def Instr.touches : Instr → List Part
  | .reset => Part.all
  | .resetRelease _ => [.identity, .lifecycle, .haltLamp, .peers]
  | .configLoadComplete _ _ =>
    [.identity, .lifecycle, .listen, .holdOff, .image, .pins, .zones, .runLamp] ++ Part.reactions
  | .listenPeriodExpiry => [.lifecycle, .listen, .heartbeat, .runLamp] ++ Part.reactions
  | .tick _ => Part.ticking
  | .second => [.time, .line, .duplicateAge, .origins, .phases] ++ Part.reactions
  | .peerSilence _ => Part.reactions
  | .duplicateAgeLimit => .duplicateAge :: Part.reactions
  | .lineWindowEnd => .line :: Part.reactions
  | .frameDiscard _ => Part.reception
  | .statusFloor _ => Part.reception
  | .statusLift _ => Part.reception
  | .statusConsole _ => Part.reception
  | .general _ => Part.reception
  | .hold _ => Part.reception
  | .resume _ => Part.reception
  | .silence _ => Part.reception
  | .resound _ => Part.reception
  | .allClear _ => Part.reception
  | .zoneDisable _ => Part.reception
  | .zoneEnable _ => Part.reception
  | .take _ => Part.reception
  | .keep _ => Part.reception
  | .give _ => Part.reception
  | .testAnnounce _ => Part.reception
  | .liftRestore _ => Part.reception
  | .mark _ => Part.reception
  | .frameStart _ _ => [.time, .tx, .fifo, .markSlots, .snapshot] ++ Part.reception
  | .defer _ => [.tx, .fifo, .markSlots, .snapshot] ++ Part.reception
  | .collision _ => [.tx, .line, .fifo, .markSlots, .snapshot, .spacing, .link] ++ Part.reactions
  | .jamEnd => [.tx, .rx] ++ Part.reactions
  | .frameComplete => Part.completion
  | .heartbeatTimerExpiry => .heartbeat :: Part.reactions
  | .spacingTimerOpen => .spacing :: Part.reactions
  | .loopClassAccepted _ => Part.activation
  | .stageTimerExpiry _ => .zones :: Part.reactions
  | .confirmWindowExpiry _ => .zones :: Part.reactions
  | .stairInputChange _ _ => Part.reactions
  | .mismatchTimerExpiry _ => Part.reactions
  | .heldOpenTimerExpiry _ => Part.reactions
  | .carInputChange _ _ => Part.reactions
  | .recallTimerExpiry _ => Part.reactions
  | .busyLevel => Part.reactions
  | .messageTimerExpiry => Part.reactions
  | .messageStrobeEnd => Part.reactions
  | .pauseExpiry => Part.reactions
  | .keepTimerExpiry => .authority :: Part.reactions
  | .cadenceCycleStart => .markSlots :: Part.reactions
  | .cadencePulseBoundary _ => Part.reactions
  | .strobePulseEnd => Part.reactions
  | .standingLapse _ => Part.reactions
  | .indicatorFlash lamp => [lamp.part]
  | .lineLitExpiry => [.lineLamp]
  | .readEntry _ => [.link]
  | .readBank _ => [.link]
  | .readRegime => [.link]
  | .readFaults => [.link]
  | .readCounters => [.link]
  | .readResult => [.link]
  | .readConsole _ => [.link]
  | .linkKeep => .link :: Part.reactions
  | .unknownRequest _ => [.link]
  | .linkSelectInactive => [.link]
  | .issueGeneral => [.link, .fifo] ++ Part.reactions
  | .issueHold => [.link, .fifo] ++ Part.reactions
  | .issueResume => [.link, .fifo] ++ Part.reactions
  | .issueSilence => [.link, .fifo] ++ Part.reactions
  | .issueResound => [.link, .fifo] ++ Part.reactions
  | .issueAllClear => [.link, .fifo] ++ Part.reactions
  | .issueZoneDisable _ _ => [.link, .fifo] ++ Part.reactions
  | .issueZoneEnable _ _ => [.link, .fifo] ++ Part.reactions
  | .issueTake _ => [.link, .fifo] ++ Part.reactions
  | .issueGive _ => [.link, .fifo] ++ Part.reactions
  | .issueTestAnnounce _ _ => [.link, .fifo] ++ Part.reactions
  | .issueLiftRestore _ => [.link, .fifo] ++ Part.reactions
  | .issueBadKind _ => [.link, .fifo] ++ Part.reactions
  | .keepPeriodExpiry => [.link, .fifo] ++ Part.reactions
  | .linkKeepExpiry => .link :: Part.reactions
  | .syncMismatch _ => Part.reception
  | .unknownCommandKind _ => Part.reception
  | .linkSelectActive _ => [.link]

end Sys2Proof

namespace Sys2Proof.Machine

/-! ## The conditions under which a station takes a record -/

/-- The station listens, and the samples bring its receiver to accept exactly the frame `f`, whose sync octet completed
at `at_`. -/
abbrev State.receives (s : State) (line : Samples) (f : Frame) (at_ : Word16) : Prop :=
  s.acts = true ∧ s.tx = .idle ∧ (s.fed line).2 = [.accepted f at_]

/-- The frame passes the receipt checks (R76, R78). -/
abbrev State.admits (s : State) (f : Frame) : Prop := f.source ≠ s.station.address ∧ f.foreign = false

/-- The station takes the whole COMMAND `c` from the samples. -/
abbrev State.takes (s : State) (line : Samples) (f : Frame) (c : Command) : Prop :=
  (∃ at_, s.receives line f at_) ∧ s.admits f ∧ f.command = some c

/-- The header generation `g` is newer than the station's own (R80, R108). -/
def State.meetsNewer (g : Byte) (s : State) : Bool :=
  match s.regime.generation with
  | none => false
  | some own => decide (1 ≤ delta g own) && decide (delta g own ≤ 127)

/-- The header generation `g` is older than the station's own (R80, R108). -/
def State.meetsOlder (g : Byte) (s : State) : Bool :=
  match s.regime.generation with
  | none => false
  | some own => decide (127 < delta g own)

/-- The regime view once a record of header generation `g` has passed the generation window: the first adoption (R111),
the all-clear (R112), or the view as it was. -/
def Regime.met (g : Byte) (r : Regime) : Regime :=
  match r.generation with
  | none => { r with generation := some g }
  | some own => if 1 ≤ delta g own ∧ delta g own ≤ 127 then Regime.allClear g else r

/-- The command is a line command that brings the receiver at most one thing. -/
abbrev State.hearsOne (c : Instr) (s : State) : Prop := ∀ line, c.samples = some line → (s.fed line).2.length ≤ 1

/-! ## Whole records (R43, R44), read from the bytes of the frame -/

/-- The payload byte at an offset of 3-2. -/
def Frame.byteAt (f : Frame) (offset : Nat) : Nat := (f.payload.getD offset 0).toNat

/-- A STATUS that R43 does not set aside: source, length, origin count, origin floors, and the codes of the tables of
3-2. -/
abbrev Frame.wholeStatus (f : Frame) : Prop :=
  let n := f.byteAt 6
  let body (i : Nat) : Nat := f.byteAt (7 + 3 * n + i)
  7 ≤ f.payload.length ∧ n ≤ 8 ∧ (∀ i < n, f.byteAt (7 + 3 * i) ≤ 47)
  ∧ (f.code = 1 → f.source ≤ 47 ∧ f.payload.length = 7 + 3 * n + 8 ∧ body 0 / 8 % 8 ≤ 5 ∧ body 0 % 8 ≤ 4)
  ∧ (f.code = 2 → (f.source = 48 ∨ f.source = 49) ∧ f.payload.length = 7 + 3 * n + 5
      ∧ ∀ c < 4, body c / 32 ≤ 4 ∧ body c / 8 % 4 ≤ 2)
  ∧ (f.code = 3 → (56 ≤ f.source ∧ f.source ≤ 59) ∧ f.payload.length = 7 + 3 * n + 1)

/-- A COMMAND that R44 does not set aside: kind, length, destination, zone, message and bank number. -/
abbrev Frame.wholeCommand (f : Frame) : Prop :=
  let kind := f.byteAt 0
  1 ≤ kind ∧ kind ≤ 13 ∧ f.payload.length = [0, 1, 2, 2, 2, 2, 1, 2, 2, 9, 3, 7, 8, 2].getD kind 0
  ∧ (kind ≤ 6 ∨ (9 ≤ kind ∧ kind ≤ 12) → f.dest = 63)
  ∧ (kind = 7 ∨ kind = 8 → f.dest ≤ 47 ∧ 1 ≤ f.byteAt 1 ∧ f.byteAt 1 ≤ 8)
  ∧ (kind = 12 → 1 ≤ f.byteAt 7 ∧ f.byteAt 7 ≤ 15)
  ∧ (kind = 13 → (f.byteAt 1 = 48 ∨ f.byteAt 1 = 49) ∧ f.dest = f.byteAt 1)

/-- A MARK that R44 does not set aside: source, length, cadence kind, cycle length and offset. -/
abbrev Frame.wholeMark (f : Frame) : Prop :=
  let cycle := 256 * f.byteAt 2 + f.byteAt 3
  f.source ≤ 47 ∧ f.payload.length = 4 ∧ (f.byteAt 0 = 1 ∨ f.byteAt 0 = 2) ∧ 2 ≤ cycle ∧ 2 * f.byteAt 1 ≤ cycle

/-- No whole peer entry changes but that of the address `own` (R75). -/
abbrev State.othersKept (own : Nat) (s t : State) : Prop :=
  (∀ f < 48, f ≠ own → t.floorEntry f = s.floorEntry f)
  ∧ (∀ b < 2, 48 + b ≠ own → t.bankEntry b = s.bankEntry b)
  ∧ (∀ c < 4, 56 + c ≠ own → t.consoleEntry c = s.consoleEntry c)

/-! ## Commands in turn -/

/-- The state that a command leaves. -/
def State.after (s : State) (c : Instr) : State :=
  match exec c s with
  | .next t => t
  | _ => s

/-- The commands that take what tick events make due, in the order in which TICK takes what is left of them (log 3). -/
def timedCommands : List Instr :=
  .second :: peerAddresses.map .peerSilence ++ [.duplicateAgeLimit, .lineWindowEnd, .listenPeriodExpiry]
  ++ (List.finRange 8).flatMap (fun z => [.loopClassAccepted z, .stageTimerExpiry z, .confirmWindowExpiry z])
  ++ (List.finRange 4).flatMap (fun i => [.stairInputChange i .door, .stairInputChange i .feedback,
      .stairInputChange i .key, .mismatchTimerExpiry i, .heldOpenTimerExpiry i])
  ++ (List.finRange 4).flatMap (fun c => [.carInputChange c .atPrimary, .carInputChange c .atAlternate,
      .carInputChange c .doorsOpen, .carInputChange c .ffKey, .carInputChange c .autoService, .recallTimerExpiry c])
  ++ [.busyLevel, .messageTimerExpiry, .messageStrobeEnd, .pauseExpiry, .keepTimerExpiry, .cadenceCycleStart,
      .cadencePulseBoundary .alert, .cadencePulseBoundary .evacuate, .strobePulseEnd, .standingLapse .alert,
      .standingLapse .evacuate, .indicatorFlash .run, .indicatorFlash .alarm, .indicatorFlash .haltedFault,
      .lineLitExpiry, .heartbeatTimerExpiry, .spacingTimerOpen, .keepPeriodExpiry, .linkKeepExpiry]

/-- The state in which nothing is left due: every timed command has been taken in turn. -/
def State.caughtUp (s : State) : State := timedCommands.foldl State.after s

/-- The fault list holds an active record of this kind and subject. -/
def FaultList.holds (kind : FaultKind) (subject : Nat) (l : FaultList) : Bool :=
  l.records.any (fun r => r.is kind subject && r.active)

/-- A raise of this kind and subject finds a record of its own, or a place (R171). -/
def FaultList.finds (kind : FaultKind) (subject : Nat) (l : FaultList) : Bool :=
  l.records.any (FaultRecord.is kind subject) || decide (l.records.length < 16) || l.records.any (fun r => !r.active)

/-- The floor is one of the building's: within L..H and among the 48 positions. -/
abbrev Image.holds (i : Image) (f : Nat) : Prop := i.low ≤ f ∧ f ≤ i.high ∧ f < 48

/-! ## The laws of the state -/

/-- Every image field lies in its range (1-6). -/
abbrev Image.lawful (i : Image) : Prop :=
  i.low ≤ i.high ∧ i.high ≤ 47 ∧ i.low ≤ i.primary ∧ i.primary ≤ i.high ∧ i.low ≤ i.alternate ∧ i.alternate ≤ i.high
  ∧ 2 ≤ i.heartbeat ∧ i.heartbeat ≤ 10 ∧ 10 ≤ i.period ∧ i.period ≤ 600 ∧ i.bandUp ≤ 3 ∧ i.bandDown ≤ 3
  ∧ i.margin ≤ 7 ∧ i.up.w ≤ 3 ∧ i.up.n < i.up.d ∧ i.up.d ≤ 16 ∧ i.down.w ≤ 3 ∧ i.down.n < i.down.d ∧ i.down.d ≤ 16
  ∧ i.patternBase ≤ 47 ∧ i.patternStep ≤ 8 ∧ 30 ≤ i.heldOpenLimit ∧ i.heldOpenLimit ≤ 600 ∧ 60 ≤ i.recallTimeout
  ∧ i.recallTimeout ≤ 600 ∧ 1 ≤ i.alertCadence.k ∧ i.alertCadence.k ≤ 7 ∧ 1 ≤ i.evacCadence.k
  ∧ i.evacCadence.k ≤ 7 ∧ 1 ≤ i.strobeWidth ∧ i.strobeWidth ≤ 8 ∧ 5 ≤ i.keepLimit ∧ i.keepLimit ≤ 30

/-- In RESET, LOAD and HALTED every block stands as after pin reset, but for the timebase, the pins, what the loader
has fixed, and the flashing FAULT lamp; the own entry, once there is a role, shows those records (R3, R5, R10, R90). -/
abbrev State.dormantLaw (s : State) : Prop :=
  s.acts = false →
    s = State.loopback { State.reset with
      pending := s.pending, pins := s.pins, time := s.time, station := s.station,
      lamps := { Lamps.off with haltLit := s.lamps.haltLit, haltFlash := s.lamps.haltFlash } }

/-- The address and the role belong together, the image of an acting station is in its ranges, and the digest is a byte
(R4, R8, R9). -/
abbrev State.stationLaw (s : State) : Prop :=
  (s.acts = true → s.station.role = roleOf s.station.address ∧ s.station.role.isSome = true ∧ s.image.lawful)
  ∧ (s.station.lifecycle = .load → s.station.role = roleOf s.station.address)
  ∧ s.station.digest ≤ 255

/-- The receiver's counts and the line counters stay within their widths (R16, R21, R22, R26, R27). -/
abbrev State.lineLaw (s : State) : Prop :=
  s.rx.recessiveRun ≤ 255 ∧ s.rx.checked ≤ 4 ∧ s.rx.equal ≤ 6 ∧ s.rx.bits.length ≤ 7
  ∧ s.line.accepted ≤ 65535 ∧ s.line.crcError ≤ 65535 ∧ s.line.stuffError ≤ 65535 ∧ s.line.jamSeen ≤ 65535
  ∧ s.line.badLength ≤ 65535 ∧ s.line.unknownKind ≤ 65535 ∧ s.line.sent ≤ 65535 ∧ s.line.collisions ≤ 65535
  ∧ s.line.dropped ≤ 65535 ∧ s.line.windowCount ≤ 255

/-- The slot of the frame being sent. -/
def Transmitter.slot : Transmitter → Option SlotId
  | .sending k _ => some k
  | _ => none

/-- The STATUS entry, the head of the COMMAND FIFO, the MARK is in flight. -/
def Slots.statusFlies (q : Slots) : Bool := q.status.any (fun e => e.standing == .inFlight)
def Slots.commandFlies (q : Slots) : Bool := q.fifo.head?.any (fun e => e.standing == .inFlight)
def Slots.markFlies (q : Slots) : Bool := q.mark.any (fun e => e.standing == .inFlight)

/-- An epoch that a queued command carries fits a byte (R104). -/
def Command.epochFits : Command → Bool
  | .hold e => decide (e ≤ 255)
  | .resume e => decide (e ≤ 255)
  | .silence e => decide (e ≤ 255)
  | .resound e => decide (e ≤ 255)
  | _ => true

/-- The entry in flight is the one whose frame is being sent, no other is; a collision count stays below 16; the
snapshot stands for the flight of the STATUS; a successor waits only behind a MARK in flight; a MARK of a FOLLOWER record
is one to be abandoned; and the transmitter stays empty outside RUN (R10, R28, R31, R34, R51, R158). -/
abbrev State.slotsLaw (s : State) : Prop :=
  s.slots.statusFlies = (s.tx.slot == some .status)
  ∧ s.slots.commandFlies = (s.tx.slot == some .command)
  ∧ s.slots.markFlies = (s.tx.slot == some .mark)
  ∧ (∀ e ∈ s.slots.fifo.drop 1, e.standing = .pending)
  ∧ (s.slots.successor.isSome = true → s.slots.markFlies = true)
  ∧ (∀ e ∈ s.slots.successor, e.standing = .pending)
  ∧ (∀ e ∈ s.slots.mark, (s.cadence.record e.kind).follower = true → e.overtaken = true)
  ∧ (∀ e ∈ s.slots.successor, (s.cadence.record e.kind).follower = true → e.overtaken = true)
  ∧ s.builder.snapshot.isSome = (s.tx.slot == some .status)
  ∧ (∀ e ∈ s.slots.status, e.collisions ≤ 15) ∧ (∀ e ∈ s.slots.fifo, e.collisions ≤ 15)
  ∧ (∀ e ∈ s.slots.mark, e.collisions ≤ 15) ∧ (∀ e ∈ s.slots.successor, e.collisions ≤ 15)
  ∧ (s.station.lifecycle ≠ .run → s.slots = Slots.empty ∧ s.tx = .idle ∧ s.link.keeping = false)

/-- The COMMAND FIFO holds one ISSUE entry exactly while the result reads QUEUED, and at most one KEEP; the KEEP period
runs exactly while the console keeps; it keeps only while its link is alive; and a transaction whose request is not
taken holds the start of one and no response, and outside a transaction the link holds neither (R28, R160, R163, R167,
R168). -/
abbrev State.linkLaw (s : State) : Prop :=
  (s.slots.fifo.filter (fun e => e.issued)).length = (if s.link.result.outcome = .queued then 1 else 0)
  ∧ (s.slots.fifo.filter (fun e => !e.issued)).length ≤ 1
  ∧ (∀ e ∈ s.slots.fifo, e.command.epochFits = true)
  ∧ (s.link.taken = false → partialRequest s.link.buffer = true ∧ s.link.response = [])
  ∧ (s.link.selected = false → s.link.taken = false ∧ s.link.buffer = [])
  ∧ s.link.period.isSome = s.link.keeping
  ∧ (s.link.keeping = true → s.link.alive = true)
  ∧ (s.station.role ≠ some .console → s.link = Link.atReset ∧ s.slots.fifo = [])

/-- At most 16 records, no kind and subject twice, counts within 1..255, and the two kinds that clear at once never
active (R171, R173). -/
abbrev FaultList.lawful (l : FaultList) : Prop :=
  l.records.length ≤ 16 ∧ (l.records.map (fun r => (r.kind, r.subject))).Nodup
  ∧ (∀ r ∈ l.records, 1 ≤ r.count ∧ r.count ≤ 255)
  ∧ (∀ r ∈ l.records, r.kind = .foreignCommand ∨ r.kind = .originOverflow → r.active = false)
  ∧ l.overflow ≤ 255

/-- The extra steps that `k` spread ticks of a rate bring, from the onset value ⌊D/2⌋ of its accumulator (R99, R100). -/
def Rate.extra (r : Rate) (k : Nat) : Nat := (k * r.n + (r.d - 1 - r.d / 2)) / r.d

/-- The up edge that `k` spread ticks after its onset an origin's band has reached (R94, R99). -/
def Image.upAt (i : Image) (origin k : Nat) : Nat := min i.high (origin + i.bandUp + k * i.up.w + i.up.extra k)

/-- The down edge that `k` spread ticks after its onset an origin's band has reached (R94, R99). -/
def Image.downAt (i : Image) (origin k : Nat) : Nat :=
  max i.low (origin - i.bandDown - (k * i.down.w + i.down.extra k))

/-- The law of the spread record: L ≤ d ≤ o ≤ u ≤ H; the edges and the accumulators stand where k spread ticks from the
onset bring them; every tick owed by the elapsed seconds is applied, k = ⌊e / T⌋, but that none is applied to a record
which is complete, both edges at the limits (R94, R98, R99, R100). -/
abbrev Spread.lawful (i : Image) (r : Spread) : Prop :=
  i.low ≤ r.downEdge ∧ r.downEdge ≤ r.origin ∧ r.origin ≤ r.upEdge ∧ r.upEdge ≤ i.high
  ∧ r.upEdge = i.upAt r.origin r.applied ∧ r.downEdge = i.downAt r.origin r.applied
  ∧ r.accUp < i.up.d ∧ r.accUp + r.applied * i.up.n = i.up.d / 2 + i.up.d * i.up.extra r.applied
  ∧ r.accDown < i.down.d ∧ r.accDown + r.applied * i.down.n = i.down.d / 2 + i.down.d * i.down.extra r.applied
  ∧ r.complete = r.atLimits i ∧ r.elapsed ≤ 65535
  ∧ r.applied ≤ r.elapsed / i.period ∧ (r.complete = false → r.applied = r.elapsed / i.period)
  ∧ (∀ k < r.applied, i.upAt r.origin k ≠ i.high ∨ i.downAt r.origin k ≠ i.low)

/-- The laws of the origin list and the phase vector, and the epochs' range (R93, R96, R101, R102, R104): at most eight
floors, no floor twice, each within L..H and EVACUATE; every floor of the building is STANDBY or higher while the regime
is active, EVACUATE under GENERAL, QUIET while it is inactive; without GENERAL exactly the floors d..u of some band are
EVACUATE, and exactly those that no band with its margin takes in are STANDBY; a floor outside the building is QUIET; no
refused floor is in the list, and a floor is refused only by a full list, under GENERAL. -/
abbrev State.regimeLaw (s : State) : Prop :=
  s.regime.origins.length ≤ 8 ∧ s.regime.originFloors.Nodup
  ∧ (∀ r ∈ s.regime.origins, r.lawful s.image ∧ s.phaseOf r.origin = .evacuate
      ∧ s.regime.overflow.getLsbD r.origin = false)
  ∧ (∀ f < 48, s.image.inUse f = true → s.regime.active = true → s.phaseOf f ≠ .quiet)
  ∧ (∀ f < 48, s.image.inUse f = true → s.regime.general = true → s.phaseOf f = .evacuate)
  ∧ (∀ f < 48, s.image.inUse f = true → s.regime.active = true → s.regime.general = false →
      (s.phaseOf f = .evacuate ↔ ∃ r ∈ s.regime.origins, r.downEdge ≤ f ∧ f ≤ r.upEdge)
      ∧ (s.phaseOf f = .standby ↔
          ∀ r ∈ s.regime.origins, ¬ (r.downEdge ≤ f + s.image.margin ∧ f ≤ r.upEdge + s.image.margin)))
  ∧ (∀ f < 48, (s.image.inUse f = false ∨ s.regime.active = false) → s.phaseOf f = .quiet)
  ∧ (s.regime.overflow ≠ 0 → s.regime.origins.length = 8 ∧ s.regime.general = true)
  ∧ s.regime.hold ≤ 255 ∧ s.regime.silence ≤ 255

/-- A zone record of the floor's supervisor: its kind is the image's, an unsupervised zone stays as after pin reset, the
stage timer runs through the two stages and stands in NORMAL, ALARM, FAULT and DISABLED (R56, R58, R63). -/
abbrev Zone.lawful (kind : ZoneKind) (z : Zone) : Prop :=
  z.kind = kind ∧ z.run ≤ 4 ∧ z.count ≤ 255 ∧ (kind = .unused → z = Zone.atReset .unused)
  ∧ (z.inStage = true → z.stage.isSome = true)
  ∧ (z.inStage = false → z.state ≠ .verifyConfirm → z.stage = none)

/-- A stair record: presence and mask are the image's, an absent stair stays as after pin reset, the state is the one
that the record gives, and a set release latch unlocks (R114, R119, R121). -/
abbrev Stair.lawful (present : Bool) (minterm : Nat) (x : Stair) : Prop :=
  x.present = present ∧ x.minterm = minterm ∧ x.count ≤ 255
  ∧ (present = false → x = Stair.atReset false minterm)
  ∧ (present = true → x.state = x.derived ∧ (x.release = true → x.unlock = true))

/-- A car record: presence is the image's, an absent car stays as after pin reset; a car has no target exactly in
NORMAL, its recall timer runs exactly in RECALLING, and the input-fault flag follows the two floor inputs (R126 to
R128, R132, R133). -/
abbrev Car.lawful (present : Bool) (c : Car) : Prop :=
  c.present = present ∧ c.count ≤ 255 ∧ (present = false → c = Car.atReset false)
  ∧ (c.target = .none ↔ c.state = .normal) ∧ (c.recallTimer.isSome = true ↔ c.state = .recalling)
  ∧ (c.state = .normal → c.late = false) ∧ c.inputFault = (c.atPrimary.accepted && c.atAlternate.accepted)

/-- The records of the field blocks, each kept by its role alone; a restore is pending only on a car in FIREFIGHTER while
the regime is inactive; the restore-refused count is a byte (R72, R114, R126, R132, R138, R139, R142, R155). -/
abbrev State.fieldLaw (s : State) : Prop :=
  s.restoreRefused ≤ 255 ∧ (s.acts = true →
    (∀ z < 8, (s.zone z).lawful (s.image.zoneKinds.at z .unused)
      ∧ (s.station.role ≠ some .floor → s.zone z = Zone.atReset (s.image.zoneKinds.at z .unused)))
    ∧ (∀ i < 4, (s.stair i).lawful (s.image.stairsPresent.at i false) (s.image.minterms.at i 0)
      ∧ (s.station.role ≠ some .floor →
        s.stair i = Stair.atReset (s.image.stairsPresent.at i false) (s.image.minterms.at i 0)))
    ∧ (∀ c < 4, (s.car c).lawful (s.image.carsPresent.at c false)
      ∧ ((s.car c).restorePending = true → (s.car c).state = .firefighter ∧ s.regime.active = false)
      ∧ (s.station.role ≠ some .lift → s.car c = Car.atReset (s.image.carsPresent.at c false))))

/-- The speaker is never TENANT while the regime is active, one console at most holds authority and only while its keep
timer runs, and stations of other roles keep these blocks as after pin reset (R142, R144, R154, R155). -/
abbrev State.soundLaw (s : State) : Prop :=
  (s.acts = true → s.regime.active = true → s.speaker.source ≠ .tenant)
  ∧ (s.authority.console.isSome = s.authority.keep.isSome)
  ∧ (∀ c ∈ s.authority.console, 56 ≤ c ∧ c ≤ 59)
  ∧ (s.station.role ≠ some .floor → s.authority = Authority.none ∧ s.cadence = CadenceUnit.atReset
      ∧ s.speaker = { Speaker.atReset with source := s.speaker.source })

/-- The own entry is LIVE with age 0 and CURRENT from the release of reset on (R75, R90); an alarm in a lobby is an alarm
(R82); the disagreement count and DISAGREE go together (R88). -/
abbrev State.peersLaw (s : State) : Prop :=
  (s.acts = true ∨ s.station.lifecycle = .load →
    (s.peers.base s.station.address).presence = .live ∧ (s.peers.base s.station.address).age = 0
    ∧ (s.peers.base s.station.address).standing = .current)
  ∧ (∀ f < 48, ((s.floorEntry f).lobbyLatch = true → (s.floorEntry f).alarmLatch = true)
    ∧ (s.floorEntry f).disagreements ≤ 3
    ∧ (s.floorEntry f).disagree = ((s.floorEntry f).disagreements == 3))
  ∧ (∀ a ∈ peerAddresses, (s.peers.base a).age ≤ 255)

/-- All the laws together: what holds of every state that a run reaches. -/
abbrev State.lawful (s : State) : Prop :=
  s.dormantLaw ∧ s.stationLaw ∧ s.lineLaw ∧ s.slotsLaw ∧ s.linkLaw ∧ s.faults.lawful ∧ s.regimeLaw ∧ s.fieldLaw
  ∧ s.soundLaw ∧ s.peersLaw

/-- What every event leaves settled at an acting station (R15, R68, R75, R116, R119 to R122, R144, R155, R157, R175): each
stair's latch, unlock, state and feedback comparison, the speaker's source, the run of the cadence records, the own
entry, and the ALARM and RUN lamps. -/
abbrev State.settled (s : State) : Prop :=
  s.acts = true →
    (s.station.role = some .floor →
      (∀ i < 4, (s.stair i).present = true →
        (s.demand = true → (s.stair i).release = true)
        ∧ (s.stair i).unlock = ((s.stair i).release
            || ((s.stair i).minterm % 4 + 12).testBit (2 * s.demand.toNat + (s.stair i).key.accepted.toNat))
        ∧ (s.stair i).state = (if (s.stair i).release then .released else if (s.stair i).feedbackFault then .fault
            else if (s.stair i).unlock then .unlocked else .locked)
        ∧ ((s.stair i).feedbackFault = true ∨ (s.stair i).mismatch ≠ none ↔
            (s.stair i).feedback.accepted = (s.stair i).unlock))
      ∧ s.speaker.source = (match s.speaker.level, s.speaker.stepKind s.speakerView with
          | .idle, _ => if s.regime.active then .mute else .tenant
          | .manual, _ => .live
          | _, some .tone => .tone
          | _, some .message => .message
          | _, _ => .mute)
      ∧ (s.cadence.alert.run = .running ↔ s.ownPhase = .alert ∨ s.ownPhase = .evacuate)
      ∧ (s.cadence.evac.run = .running ↔ s.ownPhase = .evacuate)
      ∧ (let own := s.floorEntry s.station.address
         (∀ z < 8, own.zones.at z ZoneReport.quiet = ⟨(s.zone z).state, (s.zone z).condition⟩)
         ∧ (∀ i < 4, own.stairs.at i .locked = (s.stair i).state)
         ∧ own.phase = s.ownPhase ∧ own.level = s.speaker.level ∧ own.source = s.speaker.source
         ∧ own.authority = s.authority.console.getD 63))
    ∧ (s.station.role = some .lift →
        let own := s.bankEntry (s.station.address - 48)
        (∀ c < 4, own.cars.at c CarReport.rest = (s.car c).report) ∧ own.restoreRefused = s.restoreRefused)
    ∧ (s.station.role = some .console →
        (s.consoleEntry (s.station.address - 56)).linkAlive = s.link.keep.isSome)
    ∧ (s.station.role ≠ some .floor → s.speaker.source = if s.regime.active then .mute else .tenant)
    ∧ (s.lamps.alarmFlash ≠ none ↔ s.station.role = some .floor ∧ s.regime.active = false
        ∧ ∃ z < 8, (s.zone z).state = .alarm)
    ∧ (s.lamps.alarmFlash = none → s.lamps.alarmLit = false)
    ∧ (s.station.lifecycle = .listen → s.lamps.runFlash ≠ none)
    ∧ (s.station.lifecycle = .run → s.lamps.runFlash = none ∧ s.lamps.runLit = true)
    ∧ (s.peers.base s.station.address).listenComplete = s.station.listenComplete
    ∧ (s.peers.base s.station.address).digest = s.station.digest
    ∧ (s.peers.base s.station.address).faultCount = s.faults.activeCount
    ∧ (s.peers.base s.station.address).worstFault = s.faults.worst

/-- While the regime is active no present car of an acting LIFT station is NORMAL, and no target is a compromised
primary (R92, R131, R132, R136, R138, R139); a station that does not act has no regime. -/
abbrev State.recalled (s : State) : Prop :=
  (s.acts = false → s.regime.active = false)
  ∧ (s.actsAs .lift = true → s.regime.active = true → ∀ c < 4, (s.car c).present = true →
      (s.car c).state ≠ .normal
      ∧ (s.image.primary ∈ s.regime.originFloors ∨ (s.floorEntry s.image.primary).lobbyLatch = true →
          (s.car c).target ≠ .primary))

/-! ## The fault list between two states (R171, R172) -/

/-- What every record of the list of `t` owes to that of `s`: it was there with the same first-seen second and no larger
a count, and has become active again only with a count more, or at 255; or it is new, first seen in the second of the
one state or the other. The list-overflow count does not fall, and the list does not get shorter. -/
abbrev State.faultsKept (s t : State) : Prop :=
  s.faults.overflow ≤ t.faults.overflow ∧ s.faults.records.length ≤ t.faults.records.length
  ∧ ∀ r ∈ t.faults.records,
      (∃ was ∈ s.faults.records, was.kind = r.kind ∧ was.subject = r.subject ∧ was.firstSeen = r.firstSeen
        ∧ was.count ≤ r.count ∧ (r.active = true → was.active = false → was.count < r.count ∨ r.count = 255))
      ∨ r.firstSeen = s.time.second ∨ r.firstSeen = t.time.second

/-! ## What the field makes of an event (R65, R121 to R123, R131 to R136) -/

/-- The station took its all-clear between two states of one event (R112). -/
abbrev State.clearsTo (s t : State) : Prop :=
  s.regime.generation ≠ none ∧ t.regime.generation ≠ none ∧ t.regime.generation ≠ s.regime.generation

/-- The regime has become active between two states of one event, after the all-clear of the event if it had one
(R92). -/
abbrev State.opensTo (s t : State) : Prop := t.regime.active = true ∧ (s.regime.active = false ∨ s.clearsTo t)

/-- A zone as a received record makes the regime active (R65): in VERIFY-CONFIRM the window stops, and an ALARM run in
hand, of any length (log 14), takes it into ALARM; another zone is as it was. -/
abbrev Zone.opens (was now : Zone) : Prop :=
  (was.state = .verifyConfirm → was.candidate = some .alarm → 1 ≤ was.run →
    now.state = .alarm ∧ now.stage = none ∧ now.accepted = some .alarm ∧ now.mark = true ∧ now.latch = true)
  ∧ (was.state = .verifyConfirm → was.candidate ≠ some .alarm ∨ was.run = 0 → now = { was with stage := none })
  ∧ (was.state ≠ .verifyConfirm → now = was)

/-- The lock feedback agrees with the lock output, which is high while the unlock command is 0 (7-6). -/
abbrev Stair.inStep (x : Stair) : Prop := x.feedback.accepted = !x.unlock

/-- What one event makes of stair `i`. The mismatch timer starts at 200 as feedback and output come apart, and agreement
stops it and ends the fault and DOOR-LOCK (R122; compared at the end of every event, log 16). Each change of state sets
the latch and counts one (R121). The held-open timer starts as the regime becomes active with the door OPEN, and stops at
the all-clear (R123). -/
abbrev State.stairFollows (i : Nat) (s t : State) : Prop :=
  let was := s.stair i
  let now := t.stair i
  (now.inStep → now.mismatch = none ∧ now.feedbackFault = false
    ∧ (was.feedbackFault = true → t.faults.holds .doorLock (i + 1) = false))
  ∧ (¬ now.inStep → now.feedbackFault = false →
      now.mismatch = if was.mismatch.isSome then was.mismatch else some 200)
  ∧ (now.feedbackFault = true → was.feedbackFault = false → was.mismatch = some 0)
  ∧ (now.state = was.state → now.count = was.count ∧ (now.latch = true → was.latch = true))
  ∧ (now.state ≠ was.state → now.latch = true ∧ now.count = (was.count + 1) % 256)
  ∧ (s.opensTo t → now.door.accepted = false → now.heldOpen = some (100 * s.image.heldOpenLimit))
  ∧ (s.clearsTo t → ¬ s.opensTo t ∨ now.door.accepted = true → now.heldOpen = none)
  ∧ (¬ s.clearsTo t → ¬ s.opensTo t → now.door.accepted = was.door.accepted →
      now.heldOpen = was.heldOpen ∨ (was.heldOpen = some 0 ∧ now.heldOpen = none))

/-- A car stands at its recall floor `target` by its inputs, which tell nothing while they contradict (R128). -/
abbrev Car.standsAt (c : Car) (target : Target) : Prop :=
  c.inputFault = false ∧ ((target = .primary ∧ c.atPrimary.accepted = true)
    ∨ (target = .alternate ∧ c.atAlternate.accepted = true))

/-- The primary recall floor is compromised: an origin, or with its lobby latch set (R131). -/
abbrev State.primaryLost (s : State) : Prop :=
  s.image.primary ∈ s.regime.originFloors ∨ (s.floorEntry s.image.primary).lobbyLatch = true

/-- What an event that leaves the regime active makes of car `n`, where the event is none of its own inputs or its timer
(R131 to R136). As the regime becomes active a car in NORMAL is recalled, to the alternate if the primary is compromised,
and parks, or is UNAVAILABLE, at once; a FIREFIGHTER's restore no longer waits. A car bound for a compromised primary is
sent to the alternate by its state. Every other car keeps state, target, timer and flags. -/
abbrev State.carRecalled (n : Nat) (s t : State) : Prop :=
  let was := s.car n
  let now := t.car n
  let keyed := was.ffKey.accepted && was.doorsOpen.accepted
  let sent : Option Nat := some (100 * s.image.recallTimeout)
  let diverted := was.target = .primary ∧ t.primaryLost
  let kept := now.state = was.state ∧ now.target = was.target ∧ now.recallTimer = was.recallTimer ∧ now.late = was.late
  (∀ k, now.input k = was.input k)
  ∧ (was.state = .normal → s.opensTo t →
      now.target = (if t.primaryLost then .alternate else .primary) ∧ now.late = was.late
      ∧ now.state = (if was.standsAt now.target then (if keyed then .firefighter else .parked)
          else if was.autoService.accepted then .recalling else .unavailable)
      ∧ now.recallTimer = (if now.state = .recalling then sent else none)
      ∧ (now.state = .unavailable → s.faults.records.length < 8 → t.faults.holds .liftUnavailable (n + 1) = true))
  ∧ (was.state ≠ .normal → diverted → now.target = .alternate
      ∧ (was.state = .recalling ∨ was.state = .parked → now.late = was.late
          ∧ now.state = (if was.standsAt .alternate then (if keyed then .firefighter else .parked) else .recalling)
          ∧ now.recallTimer = (if now.state = .recalling then sent else none))
      ∧ (was.state = .unavailable → was.standsAt .alternate → now.late = true
          ∧ now.state = (if keyed then .firefighter else .parked)
          ∧ t.faults.holds .liftUnavailable (n + 1) = false)
      ∧ (was.state = .unavailable → ¬ was.standsAt .alternate → now.late = was.late ∧ now.state = .unavailable
          ∧ now.recallTimer = was.recallTimer)
      ∧ (was.state = .firefighter → now.late = was.late ∧ now.state = .firefighter
          ∧ now.recallTimer = was.recallTimer))
  ∧ (was.state ≠ .normal ∨ ¬ s.opensTo t → was.state = .normal ∨ ¬ diverted → kept)
  ∧ (now.restorePending = (was.restorePending && !(was.state == .firefighter && decide (s.opensTo t))))

/-! ## The status builder's slot (R48 to R50) -/

/-- What the next STATUS carries is of class ALARM: a zone in ALARM whose entry no completed STATUS has reported, or an
origin that none has (R50). -/
abbrev State.alarmNews (s : State) : Prop :=
  (∃ z < 8, (s.zone z).state = .alarm ∧ (s.zone z).mark = true)
  ∨ ∃ f ∈ s.regime.originFloors, f ∉ s.builder.reported

/-- A report is owed: the heartbeat, a change cause, or a change latch (R49). -/
abbrev State.owes (s : State) : Prop :=
  s.builder.heartbeatOwed = true ∨ s.builder.changeDue = true ∨ (∃ z < 8, (s.zone z).latch = true)
  ∨ (∃ i < 4, (s.stair i).latch = true) ∨ ∃ c < 4, (s.car c).latch = true

/-- What every event leaves in the STATUS slot of a station in RUN: no owed report waits outside it but one of class
STATUS under a running spacing timer, and a PENDING entry with ALARM news is of class ALARM (R49, R50). -/
abbrev State.placed (s : State) : Prop :=
  s.station.lifecycle = .run →
    (s.slots.status = none → s.owes → ¬ s.alarmNews ∧ s.builder.spacing ≠ none)
    ∧ ∀ e, s.slots.status = some e → (e.cls = .alarm ∨ e.cls = .status)
      ∧ (e.standing = .pending → s.alarmNews → e.cls = .alarm)

/-- A change cause lies between two states (R48): the count of a latched record, a field of the regime prefix, at a FLOOR
station the speaker's level or source, the authority console or the own phase, at a CONSOLE station link-alive. -/
abbrev State.causes (s t : State) : Prop :=
  (∃ z < 8, (t.zone z).count ≠ (s.zone z).count) ∨ (∃ i < 4, (t.stair i).count ≠ (s.stair i).count)
  ∨ (∃ c < 4, (t.car c).count ≠ (s.car c).count)
  ∨ t.regime.generation ≠ s.regime.generation ∨ t.regime.general ≠ s.regime.general ∨ t.regime.hold ≠ s.regime.hold
  ∨ t.regime.silence ≠ s.regime.silence ∨ t.regime.originFloors ≠ s.regime.originFloors
  ∨ (s.station.role = some .floor ∧ (t.speaker.level ≠ s.speaker.level ∨ t.speaker.source ≠ s.speaker.source
      ∨ t.authority.console ≠ s.authority.console ∨ t.ownPhase ≠ s.ownPhase))
  ∨ (s.station.role = some .console ∧ t.link.keep.isSome ≠ s.link.keep.isSome)

/-! ## Steps of a sequence (R145 to R149) -/

/-- The values with which the step in hand has just been entered (R144, R146, R147). `stopped` when the event has raised
the stop strobe before; `cycle` the cadence of which it has just started a cycle. -/
abbrev Speaker.entered (view : SpeakerView) (stopped : Bool) (cycle : Option CadenceKind) (p : Speaker) : Prop :=
  ∀ i, p.step = some i →
    let step := (p.steps view p.level).getD (i - 1) ⟨.stop, 0⟩
    (step.kind = .tone → p.source = .tone ∧ p.cycles = max 1 step.arg
      ∧ (p.waiting = false ↔ cycle ≠ none ∧ p.level.cadence = cycle))
    ∧ (step.kind = .pause → p.source = .mute ∧ p.pause = some (100 * max 1 step.arg))
    ∧ (step.kind = .message → p.source = .message ∧ p.message = step.arg ∧ p.exchangeTimer = some 50
      ∧ (stopped = true ∨ view.busy = true → p.exchange = .clearing ∧ p.stop = some 1)
      ∧ (stopped = false → view.busy = false → p.exchange = .starting ∧ p.lines = step.arg ∧ p.play = some 1))
    ∧ (step.kind = .tone ∨ step.kind = .message ∨ step.kind = .pause)

/-- What the end of step `i` of the sequence in service leads to (R145, R148, R149, R152). While its level is still the
highest requested: the step the walk comes to, or the sequence's finish. With another level the highest: its resume
point at the walk's next step, or at step 1 in RESTART, and the other level served, IDLE and MANUAL with no step in hand,
a sequence at the step that the walk from its own resume point comes to, or finished at once. The end of a TEST step
finishes TEST. Whatever step is then in hand was entered in this event. -/
abbrev State.movesOn (s : State) (i : Nat) (stopped : Bool) (cycle : Option CadenceKind) (t : State) : Prop :=
  let view := s.speakerView
  let level := s.speaker.level
  let top := s.speaker.highest view
  let next := walkAfter (level == .notice) (s.speaker.steps view level) i
  let start := (s.speaker.seq top).resume.getD 1
  let entry := walkFrom (top == .notice) (s.speaker.steps view top) 14 start
    (if start = 1 then false else (s.speaker.seq top).took)
  let resumes := (t.speaker.seq level).resume = some (if view.resumeStep then next.pos else 1)
  (level ≠ .test → top = level → next.hand = true → t.speaker.step = some next.pos ∧ t.speaker.level = level)
  ∧ (level ∈ [Level.notice, .alert, .evacuate] → top = level → next.hand = false → t.speaker.level ≠ level
      ∧ (t.speaker.seq level).finished = true ∧ (t.speaker.seq level).resume = none)
  ∧ (level ∈ [Level.notice, .alert, .evacuate] → top ≠ level →
      (top = .idle ∨ top = .manual → t.speaker.level = top ∧ t.speaker.step = none ∧ resumes)
      ∧ (top ≠ .idle → top ≠ .manual → entry.hand = true →
          t.speaker.level = top ∧ t.speaker.step = some entry.pos ∧ (t.speaker.seq top).resume = none ∧ resumes)
      ∧ (top ≠ .idle → top ≠ .manual → entry.hand = false →
          t.speaker.level ≠ top ∧ (t.speaker.seq top).finished = true))
  ∧ (level = .test → t.speaker.testRequest = false ∧ t.speaker.testSeq.finished = true ∧ t.speaker.level ≠ .test)
  ∧ t.speaker.entered view stopped cycle

/-! ## What a step may not do while the generation stands -/

/-- No phase falls, no origin goes, no epoch, elapsed count or band shrinks, and no refused floor is forgotten (R93, R102
to R104). -/
abbrev State.notShrunk (s t : State) : Prop :=
  (∀ f < 48, (s.phaseOf f).code ≤ (t.phaseOf f).code)
  ∧ (s.regime.general = true → t.regime.general = true)
  ∧ s.regime.hold ≤ t.regime.hold ∧ s.regime.silence ≤ t.regime.silence
  ∧ (∃ more, t.regime.originFloors = s.regime.originFloors ++ more)
  ∧ (∀ r ∈ s.regime.origins, ∃ r' ∈ t.regime.origins, r'.origin = r.origin ∧ r.elapsed ≤ r'.elapsed
      ∧ r.applied ≤ r'.applied ∧ r.upEdge ≤ r'.upEdge ∧ r'.downEdge ≤ r.downEdge)
  ∧ (∀ f < 48, s.regime.overflow.getLsbD f = true → t.regime.overflow.getLsbD f = true)

/-- An own zone in ALARM leaves it for DISABLED alone, and so does a stored zone of another floor; alarm latches, lobby
latches and stair releases stay set (R66, R81, R82, R120). -/
abbrev State.latchesHeld (s t : State) : Prop :=
  (∀ z < 8, (s.zone z).state = .alarm → (t.zone z).state = .alarm ∨ (t.zone z).state = .disabled)
  ∧ (∀ f < 48, f ≠ s.station.address → ∀ z < 8, ((s.floorEntry f).zones.at z ZoneReport.quiet).state = .alarm →
      ((t.floorEntry f).zones.at z ZoneReport.quiet).state = .alarm
      ∨ ((t.floorEntry f).zones.at z ZoneReport.quiet).state = .disabled)
  ∧ (∀ f < 48, ((s.floorEntry f).alarmLatch = true → (t.floorEntry f).alarmLatch = true)
      ∧ ((s.floorEntry f).lobbyLatch = true → (t.floorEntry f).lobbyLatch = true))
  ∧ (∀ i < 4, (s.stair i).release = true → (t.stair i).release = true)

/-- The law of the car (R139) between two states: a target ALTERNATE stays until the car is NORMAL; a car leaves
FIREFIGHTER for NORMAL only with its restore pending and the regime inactive; and one in RECALLING, PARKED or UNAVAILABLE
enters NORMAL only by `restored`, with the regime inactive. -/
abbrev State.carsHeld (restored : Prop) (s t : State) : Prop :=
  ∀ n < 4, (s.car n).present = true →
    ((s.car n).target = .alternate → (t.car n).target = .alternate ∨ (t.car n).state = .normal)
    ∧ ((s.car n).state = .firefighter → (t.car n).state = .normal →
        (s.car n).restorePending = true ∧ s.regime.active = false)
    ∧ ((s.car n).state ∈ [CarState.recalling, .parked, .unavailable] → (t.car n).state = .normal →
        restored ∧ t.regime.active = false)

/-- The thing that the receiver came to is an accepted LIFT RESTORE. -/
abbrev RxEvent.restores (e : RxEvent) : Prop :=
  ∃ f at_ bank, e = .accepted f at_ ∧ f.command = some (.liftRestore bank)

/-- A FLOOR station's level in service is the highest whose request is present, but while the step in hand is at no
preemption point: a MESSAGE that MANUAL does not cut, or a TONE in an on-pulse of its cadence. A pulse that a tick event
has ended and a cycle that it has started are still to be taken (R148, log 3). -/
abbrev State.decided (s : State) : Prop :=
  s.actsAs .floor = true →
    let view := s.speakerView
    let p := s.speaker
    p.highest view = p.level
    ∨ (p.stepKind view = some .message ∧ p.highest view ≠ .manual)
    ∨ (p.stepKind view = some .tone ∧ p.waiting = false
        ∧ ((p.level = .alert ∧ view.alertPulse = true) ∨ (p.level = .evacuate ∧ view.evacPulse = true)))
    ∨ s.cadence.alert.cycleDue = true ∨ s.cadence.evac.cycleDue = true
    ∨ s.cadence.alert.boundaryDue = true ∨ s.cadence.evac.boundaryDue = true

end Sys2Proof.Machine
end

