-- ==== Sys2Proof/Certificates/Slice0/Obligations.lean ====
section
/-! DEFINITION. The statements for the provers: what the commands and the station do, from the manual's numbered
rules. -/

open Sys2Proof Sys2Proof.Machine

/-- For every command c and state s, the step of s with c at the front of its queue is exec of c on s with the rest of
the queue; on an empty queue the station idles and the step answers the same state. The queue is the model's own (log
1). (1-2, 0-8). -/
def Obligations.StepTakesTheFrontCommand : Prop :=
  (∀ (c : Instr) (rest : List Instr) (s : State),
    step { s with pending := c :: rest } = exec c { s with pending := rest })
  ∧ ∀ s : State, s.pending = [] → step s = .next s

/-- exec of every command on every state answers a next state, never a fault or a refusal: the manual's faults are
records of the fault list, and the model's type of faults has no constructor (log 30). It leaves the queue of waiting
commands to the step; that RESET keeps the queue too is the model's choice (log 31). The frame of every command: a
part of the state that the command's list (Instr.touches) does not name is unchanged in that next state. The lists
follow the rules: the parts the command itself writes, and those that the other blocks write in the same event. (R5,
R10, R11, R28, R75, R92, R113, R160, R161, R171). -/
def Obligations.EveryCommandCompletesWithinItsParts : Prop :=
  ∀ (c : Instr) (s : State), ∃ t, exec c s = .next t ∧ t.pending = s.pending ∧ ∀ p : Part, p ∉ c.touches → p.same s t

/-- RESET answers, from any state, the machine right after reset with the same commands waiting (the queue is the
model's own and RESET keeps it, log 31). There the counts of time are 0 (R1) and the load status is NOT-LOADED (1-2);
the receiver hunts with run 0, slots and counters are empty, the builder is stopped with the spacing timer open, zones
are NORMAL, peers UNKNOWN and AWAITING, the view unset and quiet, stairs LOCKED, cars NORMAL, the speaker IDLE on
TENANT, the cadences STOPPED, the link with result EMPTY, no fault is recorded, and every output pin stands at the
level of R3, the memory port's three lines among them. The values of fields these rules do not name are the model's
(log 6). That state meets every law of the model: dormant blocks, station, line, slots, link, fault list, regime,
field, sound and peer table. (R3, R36, R46, R73, R90, R91, R125, R141, R142, R155, R170, R176). -/
def Obligations.ResetReturnsEveryBlock : Prop :=
  ∀ s : State, ∃ t, exec .reset s = .next t ∧ t = { State.reset with pending := s.pending }
    ∧ t.station.lifecycle = .reset ∧ t.station.loadStatus = .notLoaded
    ∧ t.time.tick = 0 ∧ t.time.second = 0 ∧ t.time.prescaler = 0
    ∧ t.rx.phase = .hunting ∧ t.rx.recessiveRun = 0 ∧ t.rx.bytes = [] ∧ t.tx = .idle
    ∧ t.slots.status = none ∧ t.slots.fifo = [] ∧ t.slots.mark = none ∧ t.slots.successor = none
    ∧ t.line = ⟨0, 0, 0, 0, 0, 0, 0, 0, 0, 0, 0, false⟩
    ∧ t.builder = ⟨none, false, false, none, [], none⟩
    ∧ (∀ z < 8, (t.zone z).state = .normal ∧ (t.zone z).candidate = none ∧ (t.zone z).run = 0
        ∧ (t.zone z).accepted = none ∧ (t.zone z).stage = none ∧ (t.zone z).latch = false ∧ (t.zone z).count = 0
        ∧ (t.zone z).mark = false)
    ∧ (∀ a ∈ peerAddresses, t.peers.base a = ⟨.unknown, 0, .awaiting, false, 0, false, 0, 0⟩)
    ∧ (∀ f < 48, (t.floorEntry f).alarmLatch = false ∧ (t.floorEntry f).lobbyLatch = false
        ∧ (t.floorEntry f).phase = .quiet ∧ (t.floorEntry f).disagreements = 0 ∧ (t.floorEntry f).disagree = false
        ∧ (t.floorEntry f).level = .idle ∧ (t.floorEntry f).source = .tenant ∧ (t.floorEntry f).authority = 63)
    ∧ t.peers.duplicateAge = none
    ∧ t.regime.generation = none ∧ t.regime.general = false ∧ t.regime.hold = 0 ∧ t.regime.silence = 0
    ∧ t.regime.origins = [] ∧ t.regime.overflow = 0 ∧ (∀ f < 48, t.phaseOf f = .quiet)
    ∧ (∀ i < 4, (t.stair i).state = .locked ∧ (t.stair i).release = false ∧ (t.stair i).unlock = false
        ∧ (t.stair i).feedbackFault = false ∧ (t.stair i).door = ⟨true, none, 0⟩
        ∧ (t.stair i).feedback = ⟨true, none, 0⟩ ∧ (t.stair i).key = ⟨false, none, 0⟩)
    ∧ (∀ c < 4, (t.car c).state = .normal ∧ (t.car c).target = .none ∧ (t.car c).recallTimer = none
        ∧ (t.car c).late = false ∧ (t.car c).restorePending = false ∧ (t.car c).inputFault = false)
    ∧ t.restoreRefused = 0
    ∧ t.speaker.level = .idle ∧ t.speaker.source = .tenant ∧ t.speaker.step = none ∧ t.speaker.exchange = .idle
    ∧ t.authority.console = none
    ∧ t.cadence.alert.run = .stopped ∧ t.cadence.evac.run = .stopped ∧ t.cadence.alert.follower = false
    ∧ t.cadence.evac.follower = false
    ∧ t.link.result = ⟨0, 0, .empty, .none⟩ ∧ t.link.issueCounter = 0 ∧ t.link.alive = false
    ∧ t.link.keeping = false ∧ t.link.keepMask = 0 ∧ t.link.period = none ∧ t.link.authorityNumber = 0
    ∧ t.faults = ⟨[], 0⟩ ∧ t.outputs = Outputs.atReset ∧ State.reset.lawful ∧ t.lawful

/-- RESET_RELEASE in RESET: the address is the straps' value. 0 to 47 gives the FLOOR role and LOAD, 48 and 49 the
LIFT role and LOAD, 56 to 59 the CONSOLE role and LOAD; every other address halts the station without a role, the
FAULT lamp dark until the next tick event lights it, and every other output at its reset value. In LOAD the own entry
is LIVE, age 0 and CURRENT with the own summary, no field of any other floor, bank or console entry changes, and the
memory port shows the read: select active, 536 clock cycles from low, and the instruction 0x03 and two address bytes
0x00 first on data out (their bit order, and that what follows them is free, is log 28), every other output standing
at its reset value. Nothing else changes. Out of RESET the command changes nothing (log 2). (R3, R4, R5, R6, R75,
R90). -/
def Obligations.ReleaseFixesAddressAndRole : Prop :=
  ∀ (straps : BitVec 6) (s : State),
    (s.station.lifecycle = .reset →
      ∃ t, exec (.resetRelease straps) s = .next t ∧ t.station.address = straps.toNat
        ∧ (straps.toNat < 48 → t.station.lifecycle = .load ∧ t.station.role = some .floor)
        ∧ (straps.toNat = 48 ∨ straps.toNat = 49 → t.station.lifecycle = .load ∧ t.station.role = some .lift)
        ∧ (56 ≤ straps.toNat ∧ straps.toNat ≤ 59 → t.station.lifecycle = .load ∧ t.station.role = some .console)
        ∧ ((50 ≤ straps.toNat ∧ straps.toNat ≤ 55) ∨ 60 ≤ straps.toNat →
            t.station.lifecycle = .halted ∧ t.station.role = none ∧ t.lamps.haltFlash = some 1
              ∧ t.outputs = Outputs.atReset ∧ Part.peers.same s t)
        ∧ (t.station.lifecycle = .load →
            t.peers.base straps.toNat = { s.peers.base straps.toNat with
                presence := .live, age := 0, standing := .current, listenComplete := s.station.listenComplete,
                digest := s.station.digest, faultCount := s.faults.activeCount, worstFault := s.faults.worst }
            ∧ s.othersKept straps.toNat t
            ∧ t.outputs = { Outputs.atReset with
                memorySelect := true, memoryClock := t.outputs.memoryClock, memoryData := t.outputs.memoryData }
            ∧ t.outputs.memoryClock.length = 2 * 536
            ∧ (∀ i < 2 * 536, t.outputs.memoryClock.getD i false = (i % 2 == 1))
            ∧ t.outputs.memoryData.length = 536
            ∧ t.outputs.memoryData.take 24 = [false, false, false, false, false, false, true, true]
                ++ List.replicate 16 false)
        ∧ ∀ p : Part, p ∉ [.identity, .lifecycle, .haltLamp, .peers] → p.same s t)
    ∧ (s.station.lifecycle ≠ .reset → exec (.resetRelease straps) s = .next s)

/-- CONFIG_LOAD_COMPLETE in LOAD with a record that fails FORMAT, ROLE or CHECKSUM: the image is the built-in
defaults, the load status DEFAULTED, the digest 131, the station enters LISTEN, and a list with no record before it
then holds CONFIG-DEFAULTED, active, with the number of the first failed check as subject. A record that passes all
three goes on to clamping and the load status is LOADED. (R7). -/
def Obligations.RejectedRecordGivesDefaults : Prop :=
  ∀ (record : Tab Byte 64) (pins : Inputs) (s : State) (r : Role),
    s.station.lifecycle = .load → s.station.role = some r → s.faults.records = [] →
    ∃ t, exec (.configLoadComplete record pins) s = .next t ∧ t.station.lifecycle = .listen
      ∧ (recByte record 0 = 0x3C → recByte record 1 = r.code →
          ((record.list.take 62).map BitVec.toNat).sum % 65536 = recByte record 62 * 256 + recByte record 63 →
          t.image = (clampRecord record).value ∧ t.station.loadStatus = .loaded)
      ∧ (recByte record 0 ≠ 0x3C ∨ recByte record 1 ≠ r.code
          ∨ ((record.list.take 62).map BitVec.toNat).sum % 65536 ≠ recByte record 62 * 256 + recByte record 63 →
        t.image = Image.defaults ∧ t.station.loadStatus = .defaulted ∧ t.station.digest = 131
        ∧ t.faults.holds .configDefaulted
            (if recByte record 0 ≠ 0x3C then 1 else if recByte record 1 ≠ r.code then 2 else 3) = true)

/-- CONFIG_LOAD_COMPLETE in LOAD with a record that passes the three checks: the load status is LOADED, the image is
lawful (every field within its range of 1-6), and the digest is the sum modulo 256 of the image bytes at offsets 2, 3
and 7 to 16. Every field is the record's byte, word or nibble, clamped by the table of 1-6: the bound on the side
where it lies outside; H against L and each N against its D as clamped before; a recall floor outside L..H is L; a
zone kind above 5 is DETECTOR; a K of 0 is 1; a step kind above 4 is STOP. Fields that no rule clamps (options, lobby
floors and zones, presence, minterm masks, P, D and G of the cadences, arguments of the steps) are as read. From an
empty fault list, CONFIG-CLAMPED stands active for exactly the offsets whose field lay outside its range, with count 2
where both nibbles of a byte did, but for those that a full list refuses. (R7, R8, R9, 1-5, 1-6). -/
def Obligations.AcceptedRecordGivesLawfulImage : Prop :=
  ∀ (record : Tab Byte 64) (pins : Inputs) (s : State) (r : Role),
    s.station.lifecycle = .load → s.station.role = some r → failedCheck r record = none →
    let b (n : Nat) : Nat := recByte record n
    let within (low high n : Nat) : Nat := max low (min high n)
    let nibble (n z : Nat) : Nat := if z % 2 = 0 then b (n + z / 2) / 16 else b (n + z / 2) % 16
    let kind (k : StepKind) : Nat := match k with
      | .stop => 0 | .tone => 1 | .message => 2 | .pause => 3 | .loop => 4
    let known (high other n : Nat) : Nat := if n ≤ high then n else other
    ∃ t, exec (.configLoadComplete record pins) s = .next t
      ∧ t.station.loadStatus = .loaded ∧ t.image.lawful
      ∧ t.station.digest = (t.image.low + t.image.high + t.image.period / 256 + t.image.period % 256
          + (16 * t.image.bandUp + t.image.bandDown) + t.image.margin + t.image.up.w + t.image.up.n + t.image.up.d
          + t.image.down.w + t.image.down.n + t.image.down.d) % 256
      ∧ (let i := t.image
         let outside (f : Nat) : Prop := f < i.low ∨ i.high < f
         let bad (n : Nat) : Prop :=
           (n = 2 ∧ 47 < b 2) ∨ (n = 3 ∧ (47 < b 3 ∨ b 3 < i.low)) ∨ (n = 4 ∧ outside (b 4)) ∨ (n = 5 ∧ outside (b 5))
           ∨ (n = 6 ∧ (b 6 < 2 ∨ 10 < b 6)) ∨ (n = 7 ∧ (256 * b 7 + b 8 < 10 ∨ 600 < 256 * b 7 + b 8))
           ∨ (n = 9 ∧ (3 < b 9 / 16 ∨ 3 < b 9 % 16)) ∨ (n = 10 ∧ 7 < b 10) ∨ ((n = 11 ∨ n = 14) ∧ 3 < b n)
           ∨ ((n = 13 ∨ n = 16) ∧ (b n = 0 ∨ 16 < b n)) ∨ (n = 12 ∧ i.up.d ≤ b 12) ∨ (n = 15 ∧ i.down.d ≤ b 15)
           ∨ (n = 17 ∧ 47 < b 17) ∨ (n = 18 ∧ 8 < b 18) ∨ (20 ≤ n ∧ n ≤ 23 ∧ (5 < b n / 16 ∨ 5 < b n % 16))
           ∨ (n = 34 ∧ (256 * b 34 + b 35 < 30 ∨ 600 < 256 * b 34 + b 35))
           ∨ (n = 36 ∧ (256 * b 36 + b 37 < 60 ∨ 600 < 256 * b 36 + b 37))
           ∨ ((n = 39 ∨ n = 41) ∧ b n / 16 % 8 = 0) ∨ (n = 42 ∧ (b 42 = 0 ∨ 8 < b 42))
           ∨ (n = 43 ∧ (b 43 < 5 ∨ 30 < b 43)) ∨ (44 ≤ n ∧ n ≤ 61 ∧ 4 < b n / 16)
         let twice (n : Nat) : Prop := (n = 9 ∧ 3 < b 9 / 16 ∧ 3 < b 9 % 16)
           ∨ (20 ≤ n ∧ n ≤ 23 ∧ 5 < b n / 16 ∧ 5 < b n % 16)
         i.low = min 47 (b 2) ∧ i.high = max i.low (min 47 (b 3))
         ∧ i.primary = (if i.low ≤ b 4 ∧ b 4 ≤ i.high then b 4 else i.low)
         ∧ i.alternate = (if i.low ≤ b 5 ∧ b 5 ≤ i.high then b 5 else i.low)
         ∧ i.heartbeat = within 2 10 (b 6) ∧ i.period = within 10 600 (256 * b 7 + b 8)
         ∧ i.bandUp = min 3 (b 9 / 16) ∧ i.bandDown = min 3 (b 9 % 16) ∧ i.margin = min 7 (b 10)
         ∧ i.up.w = min 3 (b 11) ∧ i.up.d = within 1 16 (b 13) ∧ i.up.n = min (i.up.d - 1) (b 12)
         ∧ i.down.w = min 3 (b 14) ∧ i.down.d = within 1 16 (b 16) ∧ i.down.n = min (i.down.d - 1) (b 15)
         ∧ i.patternBase = min 47 (b 17) ∧ i.patternStep = min 8 (b 18)
         ∧ i.barOrigin = (record.at 19 0).getLsbD 0 ∧ i.resumeStep = (record.at 19 0).getLsbD 1
         ∧ (∀ z < 8, (match i.zoneKinds.at z .unused with
             | .unused => 0 | .detector => 1 | .callpoint => 2 | .flow => 3 | .lobby => 4 | .panel => 5)
             = known 5 1 (nibble 20 z))
         ∧ (∀ f < 48, i.lobbyFloors.getLsbD f = (record.at (29 - f / 8) 0).getLsbD (f % 8))
         ∧ i.lobbyZones = record.at 30 0
         ∧ (∀ x < 4, i.stairsPresent.at x false = (record.at 31 0).getLsbD (4 + x)
             ∧ i.carsPresent.at x false = (record.at 31 0).getLsbD x ∧ i.minterms.at x 0 = nibble 32 x)
         ∧ i.heldOpenLimit = within 30 600 (256 * b 34 + b 35) ∧ i.recallTimeout = within 60 600 (256 * b 36 + b 37)
         ∧ i.alertCadence = ⟨b 38 / 16, b 38 % 16, max 1 (b 39 / 16 % 8), b 39 % 16⟩
         ∧ i.evacCadence = ⟨b 40 / 16, b 40 % 16, max 1 (b 41 / 16 % 8), b 41 % 16⟩
         ∧ i.strobeWidth = within 1 8 (b 42) ∧ i.keepLimit = within 5 30 (b 43)
         ∧ (∀ x < 6,
             (let a := i.alertSteps.at x ⟨.stop, 0⟩; kind a.kind = known 4 0 (b (44 + x) / 16) ∧ a.arg = b (44 + x) % 16)
             ∧ (let a := i.evacSteps.at x ⟨.stop, 0⟩; kind a.kind = known 4 0 (b (50 + x) / 16) ∧ a.arg = b (50 + x) % 16)
             ∧ (let a := i.noticeSteps.at x ⟨.stop, 0⟩; kind a.kind = known 4 0 (b (56 + x) / 16) ∧ a.arg = b (56 + x) % 16))
         ∧ (s.faults = ⟨[], 0⟩ → ∀ n,
             (t.faults.holds .configClamped n = true → bad n)
             ∧ (bad n → t.faults.holds .configClamped n = true ∨ 0 < t.faults.overflow)
             ∧ ∀ x ∈ t.faults.records, x.kind = .configClamped → x.subject = n →
                 (twice n → x.count = 2) ∧ (¬ twice n → x.count = 1)))

/-- CONFIG_LOAD_COMPLETE in LOAD: LISTEN begins, its period is 100 x (2B + 1) tick events of the new image, the TAKE
hold-off 3,000, RUN blinks from lit, each zone takes its kind from the image and stands as after pin reset, each
present stair of a FLOOR station and each present car of a LIFT station takes its inputs from one sample, and the
view, the receiver, the slots, the link and the time are as before. Out of LOAD the command changes nothing (log 2).
That one command carries the record (log 28) and the pins (log 5) is the model's choice. (R10, R12, R15, R56, R114,
R115, R126, R127, R164). -/
def Obligations.LoadEndEntersListen : Prop :=
  ∀ (record : Tab Byte 64) (pins : Inputs) (s : State),
    (∀ r : Role, s.station.lifecycle = .load → s.station.role = some r →
      ∃ t, exec (.configLoadComplete record pins) s = .next t
        ∧ t.station.lifecycle = .listen ∧ t.station.listenTimer = some (100 * (2 * t.image.heartbeat + 1))
        ∧ t.station.listenComplete = false ∧ t.station.takeHoldOff = 3000
        ∧ t.lamps.runLit = true ∧ t.lamps.runFlash = some 50 ∧ t.pins = pins
        ∧ t.station.address = s.station.address ∧ t.station.role = s.station.role
        ∧ (∀ z < 8, t.zone z = Zone.atReset (t.image.zoneKinds.at z .unused))
        ∧ (∀ i < 4, (t.stair i).present = t.image.stairsPresent.at i false
            ∧ (t.stair i).minterm = t.image.minterms.at i 0
            ∧ (r = .floor → (t.stair i).present = true →
                ∀ k : StairInput, (t.stair i).input k = ⟨pins.stairLine i k, some (pins.stairLine i k), 4⟩))
        ∧ (∀ c < 4, (t.car c).present = t.image.carsPresent.at c false
            ∧ (r = .lift → (t.car c).present = true →
                ∀ k : CarInput, (t.car c).input k = ⟨pins.carLine c k, some (pins.carLine c k), 4⟩))
        ∧ ∀ p : Part, p ∉ (.configLoadComplete record pins : Instr).touches → p.same s t)
    ∧ (s.station.lifecycle ≠ .load → exec (.configLoadComplete record pins) s = .next s)

/-- LISTEN_PERIOD_EXPIRY with the period run out: listen-complete is set and the timer stops. From LISTEN the station
enters RUN, the RUN lamp is lit without blinking, the heartbeat timer starts at the offset (address x B x 100 / 64)
tick events (at offset 0 a heartbeat is owed and the timer starts at 100 x B), and an entry is placed at once when a
report is owed. From RUN the lifecycle stays (R38). With the period still running nothing changes (log 2). (R12, R13,
R14, R15, R38, R46, R49). -/
def Obligations.ListenExpiryEntersRun : Prop :=
  ∀ s : State,
    (s.station.lifecycle = .listen → s.station.listenTimer = some 0 →
      ∃ t, exec .listenPeriodExpiry s = .next t
        ∧ t.station.lifecycle = .run ∧ t.station.listenComplete = true ∧ t.station.listenTimer = none
        ∧ t.lamps.runLit = true ∧ t.lamps.runFlash = none
        ∧ (let offset := s.station.address * s.image.heartbeat * 100 / 64
           t.builder.heartbeat = some (if offset = 0 then s.image.heartbeat * 100 else offset)
            ∧ t.builder.heartbeatOwed = (s.builder.heartbeatOwed || offset == 0))
        ∧ (s.slots.status = none → s.builder.spacing = none → t.reportOwed = true → t.slots.status.isSome = true)
        ∧ ∀ p : Part, p ∉ Instr.listenPeriodExpiry.touches → p.same s t)
    ∧ (s.station.lifecycle = .run → s.station.listenTimer = some 0 →
      ∃ t, exec .listenPeriodExpiry s = .next t ∧ t.station.lifecycle = .run ∧ t.station.listenComplete = true
        ∧ t.builder.heartbeat = s.builder.heartbeat)
    ∧ (s.station.listenTimer ≠ some 0 → exec .listenPeriodExpiry s = .next s)

/-- TICK out of RESET: the tick counter rises by one modulo 65,536, the prescaler and the bit clock count return to 0,
every 100th tick event makes a second event due, the pins are sampled, a second left due is counted, and in LISTEN and
RUN the TAKE hold-off runs down. In RESET the timebase is held and TICK changes nothing (R1, log 31). The flag of a
second due and its taking by the next TICK are the model's (log 3). The other timers are in TickRunsTimersAndSamples.
(R1, R2). -/
def Obligations.TickAdvancesTheTimebase : Prop :=
  ∀ (pins : Inputs) (s : State),
    (s.station.lifecycle ≠ .reset →
      ∃ t, exec (.tick pins) s = .next t
        ∧ t.time.tick = s.time.tick + 1 ∧ t.time.prescaler = 0 ∧ t.time.bitClocks = 0
        ∧ t.time.toSecond = (if 99 ≤ s.time.toSecond then 0 else s.time.toSecond + 1)
        ∧ t.time.secondDue = decide (99 ≤ s.time.toSecond)
        ∧ t.time.second = s.time.second + (if s.time.secondDue then 1 else 0)
        ∧ t.pins = pins
        ∧ t.station.takeHoldOff = (if s.acts then s.station.takeHoldOff - 1 else s.station.takeHoldOff)
        ∧ ∀ p : Part, p ∉ Part.ticking → p.same s t)
    ∧ (s.station.lifecycle = .reset → exec (.tick pins) s = .next s)

/-- SECOND when due: the seconds counter rises by one modulo 65,536. In LISTEN and RUN every origin's elapsed count
rises by one, saturating at 65,535, while the hold epoch is even and stays while it is odd; every LIVE and SILENT
entry but the own one ages by one, saturating at 255; the duplicate age rises while it runs; the bad-frame window
counts a second; no origin is added, removed or reordered; and from a lawful view every spread tick owed is applied:
an incomplete origin has applied as many as its elapsed seconds make up whole periods. When no second is due, as the
model's flag says (log 3), nothing changes (log 2). (R1, R27, R77, R86, R97, R98). -/
def Obligations.SecondAdvancesTheCounts : Prop :=
  ∀ s : State, s.stationLaw →
    (s.time.secondDue = true → s.acts = true →
      ∃ t, exec .second s = .next t
        ∧ t.time = { s.time with second := s.time.second + 1, secondDue := false }
        ∧ t.regime.originFloors = s.regime.originFloors
        ∧ t.regime.origins.map (fun r => r.elapsed) = s.regime.origins.map (fun r =>
            if s.regime.hold % 2 = 0 then min 65535 (r.elapsed + 1) else r.elapsed)
        ∧ (∀ a ∈ peerAddresses, a ≠ s.station.address → (t.peers.base a).age =
            if (s.peers.base a).presence = .unknown then (s.peers.base a).age else min 255 ((s.peers.base a).age + 1))
        ∧ (s.regimeLaw → t.regimeLaw ∧ ∀ r ∈ t.regime.origins, r.complete = false →
            r.applied = r.elapsed / s.image.period)
        ∧ t.peers.duplicateAge = s.peers.duplicateAge.map (fun n => min 255 (n + 1))
        ∧ t.line = { s.line with windowSeconds := s.line.windowSeconds + 1 }
        ∧ ∀ p : Part, p ∉ Instr.second.touches → p.same s t)
    ∧ (s.time.secondDue = true → s.acts = false →
        exec .second s = .next { s with time := { s.time with second := s.time.second + 1, secondDue := false } })
    ∧ (s.time.secondDue = false → exec .second s = .next s)

/-- PEER_SILENCE for a LIVE entry of another station whose age has reached 3B + 1: the entry becomes SILENT with
everything else kept, and PEER-SILENT is raised for its address. DUPLICATE_AGE_LIMIT with the duplicate age at 3B + 1:
the age stops and DUPLICATE-ADDRESS is inactive. LINE_WINDOW_END at the 60th second: the window count returns to 0,
and LINE-DEGRADED ends when the count was 16 or less and stays when it was above. Before each of the three limits
nothing changes (log 2). (R27, R77, R86). -/
def Obligations.SecondExpiriesAct : Prop :=
  (∀ (a : Nat) (s : State), s.stationLaw → s.acts = true → isPeerAddress a = true → a ≠ s.station.address →
    (s.peers.base a).presence = .live → 3 * s.image.heartbeat + 1 ≤ (s.peers.base a).age →
    ∃ t, exec (.peerSilence a) s = .next t ∧ t.peers.base a = { s.peers.base a with presence := .silent }
      ∧ (s.faults.finds .peerSilent a = true → t.faults.holds .peerSilent a = true)
      ∧ ∀ p : Part, p ∉ Part.reactions → p.same s t)
  ∧ (∀ (s : State) (n : Nat), s.acts = true → s.peers.duplicateAge = some n → 3 * s.image.heartbeat + 1 ≤ n →
    ∃ t, exec .duplicateAgeLimit s = .next t ∧ t.peers.duplicateAge = none
      ∧ t.faults.holds .duplicateAddress s.station.address = false
      ∧ ∀ p : Part, p ∉ Instr.duplicateAgeLimit.touches → p.same s t)
  ∧ (∀ s : State, s.acts = true → 60 ≤ s.line.windowSeconds →
    ∃ t, exec .lineWindowEnd s = .next t
      ∧ t.line = { s.line with windowCount := 0, windowSeconds := 0,
                               degraded := s.line.degraded && decide (16 < s.line.windowCount) }
      ∧ (s.line.windowCount ≤ 16 → s.line.degraded = true → t.faults.holds .lineDegraded 0 = false)
      ∧ ∀ p : Part, p ∉ Instr.lineWindowEnd.touches → p.same s t)
  ∧ (∀ (a : Nat) (s : State), (s.peers.base a).age < 3 * s.image.heartbeat + 1 → exec (.peerSilence a) s = .next s)
  ∧ (∀ s : State, (∀ n, s.peers.duplicateAge = some n → n < 3 * s.image.heartbeat + 1) →
      exec .duplicateAgeLimit s = .next s)
  ∧ (∀ s : State, s.line.windowSeconds < 60 → exec .lineWindowEnd s = .next s)

/-- A receiver in HUNTING after at least 16 bit times of quiet that samples the line bits of a frame (sync octet,
stuffed header, payload, CRC and trailing stuff bit) accepts exactly that frame, with its source, class, destination,
kind, generation and payload, noted at the tick count of the sync octet, and is back in HUNTING with the assembly
empty; a receiver whose destination filter turns the frame away abandons it and comes to nothing else. The frame is
any whose fields fit the header, with a payload of at most 48 bytes and a class that its kind may travel in. (R17,
R18, R19, R20, R21, R22, R23, R25). -/
def Obligations.ReceiverAcceptsEveryFrame : Prop :=
  ∀ (f : Frame) (r : Receiver) (mine : Nat → Bool) (now : Word16),
    f.fits = true → r.phase = .hunting → 16 ≤ r.recessiveRun →
    ∃ r', r.feed mine now f.lineBits = (r', [if mine f.dest then .accepted f now else .abandoned])
      ∧ r'.phase = .hunting ∧ r'.bytes = [] ∧ r'.bits = []

/-- In HUNTING a dominant sample with the recessive run at 16 or more enters SYNC; with the run below 16, and for
every recessive sample, the receiver stays in HUNTING. In SYNC five samples 0, 0, 1, 0, 1 enter ASSEMBLING, with the
tick count noted, the run count and the CRC register cleared, and no bit or byte taken in; at the first sample that
does not agree the receiver returns to HUNTING, and the event it gives is one that no counter takes: the command
SYNC_MISMATCH that brings a station to it leaves every line counter and the window as they were. (R21). -/
def Obligations.SyncIsCheckedBitByBit : Prop :=
  (∀ (r : Receiver) (mine : Nat → Bool) (now : Word16) (b : Bool), r.phase = .hunting →
    (r.sample mine now b).2 = none
      ∧ (r.sample mine now b).1.phase = (if b = false ∧ 16 ≤ r.recessiveRun then .sync else .hunting)
      ∧ ((r.sample mine now b).1.phase = .sync → (r.sample mine now b).1.checked = 0))
  ∧ (∀ (r : Receiver) (mine : Nat → Bool) (now : Word16), r.phase = .sync → r.checked = 0 →
      (r.feed mine now [false, false, true, false, true]).2 = []
        ∧ (r.feed mine now [false, false, true, false, true]).1.phase = .assembling
        ∧ (r.feed mine now [false, false, true, false, true]).1.syncTick = now
        ∧ (r.feed mine now [false, false, true, false, true]).1.equal = 0
        ∧ (r.feed mine now [false, false, true, false, true]).1.crc = 0xFFFF
        ∧ (r.feed mine now [false, false, true, false, true]).1.bits = []
        ∧ (r.feed mine now [false, false, true, false, true]).1.bytes = [])
  ∧ (∀ (r : Receiver) (mine : Nat → Bool) (now : Word16) (b : Bool), r.phase = .sync →
      b ≠ [false, false, true, false, true].getD r.checked true →
      (r.sample mine now b).2 = some .syncMismatch ∧ (r.sample mine now b).1.phase = .hunting
        ∧ (r.sample mine now b).1.bytes = [])
  ∧ (∀ (line : Samples) (s : State), s.acts = true → s.tx = .idle → (s.fed line).2 = [.syncMismatch] →
      ∃ t, exec (.syncMismatch line) s = .next t ∧ t.rx = (s.fed line).1 ∧ t.line = s.line
        ∧ ∀ p : Part, p ∉ .rx :: Part.reactions → p.same s t)

/-- FRAME_DISCARD whose samples bring the receiver to one discard: stuff error, bad length, CRC error and unknown kind
each increment their own counter, saturating at 65,535, and add a bad frame to the window, saturating at 255; a jam
seen increments its counter alone; a frame abandoned by the destination filter increments none. As the window count
rises from 16 to 17 with LINE-DEGRADED not active, LINE-DEGRADED becomes active with subject 0; that it then counts as
active though the fault list had no place for its record is the model's choice (log 24). A station that drives the
line (R31), or does not act (R10), hears nothing: the command then changes nothing (logs 2, 32). (R10, R22, R23, R24,
R25, R26, R27, R31). -/
def Obligations.DiscardsAreCounted : Prop :=
  (∀ (line : Samples) (s : State) (e : RxEvent), s.acts = true → s.tx = .idle → (s.fed line).2 = [e] →
    (∀ f a, e ≠ .accepted f a) →
    ∃ t, exec (.frameDiscard line) s = .next t ∧ t.rx = (s.fed line).1
      ∧ (let bad : LineCounters := { s.line with
           windowCount := min 255 (s.line.windowCount + 1),
           degraded := s.line.degraded || s.line.windowCount == 16 }
         t.line = (match e with
           | .stuffError => { bad with stuffError := min 65535 (s.line.stuffError + 1) }
           | .badLength => { bad with badLength := min 65535 (s.line.badLength + 1) }
           | .crcError => { bad with crcError := min 65535 (s.line.crcError + 1) }
           | .unknownKind => { bad with unknownKind := min 65535 (s.line.unknownKind + 1) }
           | .jamSeen => { s.line with jamSeen := min 65535 (s.line.jamSeen + 1) }
           | _ => s.line))
      ∧ (e = .stuffError ∨ e = .badLength ∨ e = .crcError ∨ e = .unknownKind → s.line.windowCount = 16 →
          s.line.degraded = false → s.faults.finds .lineDegraded 0 = true → t.faults.holds .lineDegraded 0 = true)
      ∧ ∀ p : Part, p ∉ [.rx, .line] ++ Part.reactions → p.same s t)
  ∧ (∀ (line : Samples) (s : State), s.acts = false ∨ s.tx ≠ .idle → exec (.frameDiscard line) s = .next s)

/-- For every line command: an accepted record whose source is the station's own address sets the duplicate age to 0,
and raises DUPLICATE-ADDRESS when no episode runs; a COMMAND from another source outside 56 to 59 leaves an inactive
FOREIGN-COMMAND record for its source where the fault list has one or a place for one. That DUPLICATE-ADDRESS counts
as active by its age alone is log 24. In both cases the frame counts as accepted, LINE is lit, no other line counter
changes, no field of any other station's entry changes, and nothing changes but what the blocks do at the end of any
event. (R76, R77, R78, R25, R175). -/
def Obligations.ReceiptChecksStopARecord : Prop :=
  ∀ (c : Instr) (line : Samples) (f : Frame) (at_ : Word16) (s : State), c.samples = some line →
    s.receives line f at_ → s.stationLaw →
    (f.source = s.station.address →
      ∃ t, exec c s = .next t ∧ t.rx = (s.fed line).1 ∧ t.peers.duplicateAge = some 0
        ∧ t.line = { s.line with accepted := min 65535 (s.line.accepted + 1) } ∧ t.lamps.line = some 5
        ∧ (s.peers.duplicateAge = none → s.faults.finds .duplicateAddress f.source = true →
            t.faults.holds .duplicateAddress f.source = true)
        ∧ s.othersKept s.station.address t
        ∧ ∀ p : Part, p ∉ [.rx, .line, .lineLamp, .duplicateAge] ++ Part.reactions → p.same s t)
    ∧ (f.source ≠ s.station.address → f.code = 4 → (f.source < 56 ∨ 59 < f.source) →
      ∃ t, exec c s = .next t ∧ t.rx = (s.fed line).1
        ∧ t.line = { s.line with accepted := min 65535 (s.line.accepted + 1) } ∧ t.lamps.line = some 5
        ∧ t.faults.holds .foreignCommand f.source = false
        ∧ (s.faults.finds .foreignCommand f.source = true →
            t.faults.records.any (fun r => r.kind == .foreignCommand && r.subject == f.source && !r.active) = true)
        ∧ s.othersKept s.station.address t
        ∧ ∀ p : Part, p ∉ [.rx, .line, .lineLamp] ++ Part.reactions → p.same s t)

/-- Whole, by the bytes: a STATUS from an address of its kind's role, of 7 + 3n bytes and the body's 8, 5 or 1, n at
most 8, every origin at most 47, a level up to 5 and a source up to 4, car states up to 4 and targets up to 2 (R43); a
COMMAND of kind 1 to 13 with the length and the destination that the layout gives the kind, a zone 1 to 8, a message 1
to 15, a bank 48 or 49 that is the destination (R44); a MARK of 4 bytes from 0 to 47, kind 1 or 2, cycle 2 or more and
offset at most half of it (R44). Exactly those are taken apart. A record that passes the receipt checks and is not
whole (UNKNOWN_COMMAND_KIND, unknownCommandKind, brings one) keeps its count as accepted, increments unknown kind and
the window count, and refreshes and merges nothing: no field of any other station's entry changes. A whole one counts
as accepted alone. LINE is lit for both. (Logs 24 and 32 say what the model adds: the flag of LINE-DEGRADED, and that
a station hears only while its line is idle.) (R25, R26, R27, R43, R44, 3-2). -/
def Obligations.RecordsThatAreNotWholeAreSetAside : Prop :=
  (∀ (c : Instr) (line : Samples) (f : Frame) (at_ : Word16) (s : State), c.samples = some line →
    s.receives line f at_ → s.admits f → s.stationLaw →
    let whole := (f.code = 4 ∧ f.wholeCommand) ∨ (f.code = 5 ∧ f.wholeMark) ∨ (1 ≤ f.code ∧ f.code ≤ 3 ∧ f.wholeStatus)
    (whole → ∃ t, exec c s = .next t ∧ t.lamps.line = some 5
      ∧ t.line = { s.line with accepted := min 65535 (s.line.accepted + 1) })
    ∧ (1 ≤ f.code → f.code ≤ 5 → ¬ whole → ∃ t, exec c s = .next t ∧ t.lamps.line = some 5
      ∧ t.line = { s.line with accepted := min 65535 (s.line.accepted + 1),
                               unknownKind := min 65535 (s.line.unknownKind + 1),
                               windowCount := min 255 (s.line.windowCount + 1),
                               degraded := s.line.degraded || s.line.windowCount == 16 }
      ∧ s.othersKept s.station.address t
      ∧ ∀ p : Part, p ∉ [.rx, .line, .lineLamp] ++ Part.reactions → p.same s t))
  ∧ (∀ f : Frame,
    (f.code = 4 → (f.wholeCommand ↔ (takeCommand f.dest f.payload).isSome = true))
    ∧ (f.code = 5 → (f.wholeMark ↔ (takeMark f.source f.payload).isSome = true))
    ∧ (1 ≤ f.code → f.code ≤ 3 → (f.wholeStatus ↔ (takeStatus f.code f.source f.payload).isSome = true)))

/-- STATUS_FLOOR, STATUS_LIFT and STATUS_CONSOLE with a whole STATUS from another station: its entry is LIVE with age
0; listen-complete, digest, fault count, worst fault, and the role's own fields (stairs, level, source, authority;
cars and restores refused; link-alive) are as received whatever the generation; parameter disagree stands exactly
while the digests differ, and as it starts and ends PARAM-DISAGREE for the sender is raised (where the fault list has
its record or a place) and made inactive; PEER-SILENT ends for an entry that was SILENT; and the standing is STALE
after a record of an older generation, CURRENT after every other. (R79, R80, R84, R89). -/
def Obligations.StatusRefreshesItsEntry : Prop :=
  ∀ (c : Instr) (line : Samples) (f : Frame) (at_ : Word16) (r : StatusRecord) (s : State),
    c = .statusFloor line ∨ c = .statusLift line ∨ c = .statusConsole line →
    s.receives line f at_ → s.admits f → s.stationLaw → 1 ≤ f.code → f.code ≤ 3 →
    takeStatus f.code f.source f.payload = some r →
    ∃ t, exec c s = .next t
      ∧ t.peers.base f.source =
          { presence := .live, age := 0,
            standing := if r.unset = false ∧ s.meetsOlder f.generation = true then .stale else .current,
            listenComplete := r.listenComplete, digest := r.digest,
            paramDisagree := r.digest != s.station.digest, faultCount := r.faultCount, worstFault := r.worstFault }
      ∧ ((s.peers.base f.source).presence = .silent → t.faults.holds .peerSilent f.source = false)
      ∧ (r.digest ≠ s.station.digest → (s.peers.base f.source).paramDisagree = false →
          s.faults.finds .paramDisagree f.source = true → t.faults.holds .paramDisagree f.source = true)
      ∧ (r.digest = s.station.digest → (s.peers.base f.source).paramDisagree = true →
          t.faults.holds .paramDisagree f.source = false)
      ∧ (match r.body with
         | .floor _ level source authority _ _ stairs =>
           (t.floorEntry f.source).stairs = stairs ∧ (t.floorEntry f.source).level = level
             ∧ (t.floorEntry f.source).source = source ∧ (t.floorEntry f.source).authority = authority
         | .lift cars refused =>
           (t.bankEntry (f.source - 48)).cars = cars ∧ (t.bankEntry (f.source - 48)).restoreRefused = refused
         | .console alive => (t.consoleEntry (f.source - 56)).linkAlive = alive)

/-- STATUS_FLOOR from another station, of no older generation. The entry starts from what it held, or, for a newer
generation, from quiet zones, clear latches and a count of 0, as the all-clear leaves it. A stored zone in ALARM stays
so unless DISABLED is received, and every other zone takes the received state; condition-present is as received; the
alarm latch rises with any received ALARM, the lobby latch with one in a lobby zone of a lobby floor, and neither
falls. As the alarm latch first rises, a floor within L..H is EVACUATE; not in the list of the view, it is the next
origin, ahead of the summary's, or, with eight there, is refused and GENERAL is set; one in the list is not listed
again, and one outside L..H not at all. The reported phase is the received one. For a record with its generation set,
a match with the phase as it stands after the event (own alarms that the event lets in included, log 14) clears the
count and DISAGREE and makes PHASE-DISAGREE inactive; a mismatch counts up to 3, which sets DISAGREE and raises PHASE-
DISAGREE (where the fault list has its record or a place, and one more if the event raises PARAM-DISAGREE too). An
unset record leaves count and flag. (R80, R81, R82, R83, R85, R88, R94, R96, R102, R112). -/
def Obligations.StatusMergesZones : Prop :=
  ∀ (line : Samples) (f : Frame) (at_ : Word16) (r : StatusRecord) (phase : Phase) (level : Level) (source : Source)
      (authority changed : Nat) (zones : Tab ZoneReport 8) (stairs : Tab StairState 4) (s : State),
    s.receives line f at_ → s.admits f → s.stationLaw → f.code = 1 →
    takeStatus 1 f.source f.payload = some r → r.body = .floor phase level source authority zones changed stairs →
    ¬ (r.unset = false ∧ s.meetsOlder f.generation = true) →
    let was := if r.unset = false ∧ s.meetsNewer f.generation = true then
        { s.floorEntry f.source with zones := Tab.fill 8 ZoneReport.quiet, alarmLatch := false, lobbyLatch := false,
                                     disagreements := 0, disagree := false }
      else s.floorEntry f.source
    let view := if r.unset then s.regime else s.regime.met f.generation
    let alarmed := ∃ z < 8, (zones.at z ZoneReport.quiet).state = .alarm
    ∃ t, exec (.statusFloor line) s = .next t
      ∧ (let now := t.floorEntry f.source
         let held := t.phaseOf f.source
         (∀ z < 8, (now.zones.at z ZoneReport.quiet).state =
              (if (was.zones.at z ZoneReport.quiet).state = .alarm ∧ (zones.at z ZoneReport.quiet).state ≠ .disabled
               then .alarm else (zones.at z ZoneReport.quiet).state)
            ∧ (now.zones.at z ZoneReport.quiet).condition = (zones.at z ZoneReport.quiet).condition)
         ∧ (now.alarmLatch = true ↔ was.alarmLatch = true ∨ alarmed)
         ∧ (now.lobbyLatch = true ↔ was.lobbyLatch = true
            ∨ (s.image.lobbyFloors.getLsbD f.source = true
                ∧ ∃ z < 8, s.image.lobbyZones.getLsbD z = true ∧ (zones.at z ZoneReport.quiet).state = .alarm))
         ∧ (alarmed → was.alarmLatch = false → s.image.inUse f.source = true → f.source ∉ view.originFloors →
            t.phaseOf f.source = .evacuate
            ∧ (view.origins.length < 8 → ∃ more, t.regime.originFloors = view.originFloors ++ f.source :: more)
            ∧ (8 ≤ view.origins.length → t.regime.overflow.getLsbD f.source = true ∧ t.regime.general = true))
         ∧ (f.source ∈ view.originFloors →
            (t.regime.originFloors.filter (fun x => x = f.source)).length
              = (view.originFloors.filter (fun x => x = f.source)).length)
         ∧ (s.image.inUse f.source = false → f.source ∈ t.regime.originFloors → f.source ∈ view.originFloors)
         ∧ now.phase = phase
         ∧ (r.unset = false → now.disagreements = (if phase = held then 0 else min 3 (was.disagreements + 1))
            ∧ now.disagree = (decide (phase ≠ held) && (was.disagree || decide (2 ≤ was.disagreements)))
            ∧ (phase = held → t.faults.holds .phaseDisagree f.source = false)
            ∧ (now.disagree = true → was.disagree = false →
                (s.faults.finds .phaseDisagree f.source = true
                    ∧ (r.digest = s.station.digest ∨ (s.peers.base f.source).paramDisagree = true))
                  ∨ s.faults.records.length < 15 →
                t.faults.holds .phaseDisagree f.source = true))
         ∧ (r.unset = true → now.disagreements = was.disagreements ∧ now.disagree = was.disagree))

/-- A whole STATUS from another station that is not of an older generation: the view is the one the generation window
leaves (R80); GENERAL is set exactly if it was set there, is received, or a floor is refused; the hold epoch is the
larger of the two. The silence epoch: the view's own, raised from odd to even below 255 if the sender's first alarm
adds its floor (R95); then the larger of that and the received one; then so raised again if the summary, or an own
zone let into ALARM, adds an origin. The origins of the view keep their order at the head of the list; added are the
sender's floor on its first alarm, floors of the summary, and the own floor as the regime becomes active with an own
zone in ALARM (log 14), all within L..H. From a lawful view each origin's elapsed count is the largest of the one held
(0 for an added one) and those received for it, and every spread tick owed is applied. A received origin within L..H
not then in the list was refused by a full list under GENERAL. A STATUS of an older generation leaves the view as it
was. (R80, R82, R83, R94, R95, R98, R104, R105, R106, R111, R112). -/
def Obligations.StatusPrefixIsTakenIn : Prop :=
  ∀ (c : Instr) (line : Samples) (f : Frame) (at_ : Word16) (r : StatusRecord) (s : State),
    c = .statusFloor line ∨ c = .statusLift line ∨ c = .statusConsole line →
    s.receives line f at_ → s.admits f → s.stationLaw → 1 ≤ f.code → f.code ≤ 3 →
    takeStatus f.code f.source f.payload = some r →
    (¬ (r.unset = false ∧ s.meetsOlder f.generation = true) →
      ∃ t, exec c s = .next t
        ∧ (let view := if r.unset then s.regime else s.regime.met f.generation
           let alarmed : Bool := match r.body with
             | .floor _ _ _ _ zones _ _ => zones.list.any (fun z => z.state == .alarm)
             | _ => false
           let newly : Bool := alarmed && (!(s.floorEntry f.source).alarmLatch || (!r.unset && s.meetsNewer f.generation))
           let added : Bool := newly && s.image.inUse f.source && !view.originFloors.contains f.source
             && decide (view.origins.length < 8)
           let more := t.regime.originFloors.drop view.originFloors.length
           let resound (n : Nat) : Nat := if n % 2 = 1 ∧ n < 255 then n + 1 else n
           let silence := max (if added then resound view.silence else view.silence) r.silence
           t.regime.generation = view.generation
            ∧ (view.general = true ∨ r.general = true → t.regime.general = true)
            ∧ (s.regimeLaw → t.regime.general = true → view.general = true ∨ r.general = true
                ∨ t.regime.overflow ≠ view.overflow)
            ∧ t.regime.hold = max view.hold r.hold
            ∧ t.regime.silence = (if (if added then 1 else 0) < more.length then resound silence else silence)
            ∧ t.regime.originFloors = view.originFloors ++ more
            ∧ (∀ x ∈ more, s.image.inUse x = true
                ∧ ((x = f.source ∧ newly = true) ∨ x ∈ r.origins.map Prod.fst
                  ∨ (x = s.station.address ∧ view.active = false ∧ ∃ z < 8, (t.zone z).state = .alarm)))
            ∧ (s.regimeLaw → ∀ x ∈ t.regime.origins,
                x.elapsed = (r.origins.filter (fun o => o.1 = x.origin)).foldl (fun n o => max n o.2)
                  (((view.origins.find? (fun v => v.origin = x.origin)).map (fun v => v.elapsed)).getD 0)
                ∧ (x.complete = false → x.applied = x.elapsed / s.image.period))
            ∧ ∀ o ∈ r.origins, s.image.inUse o.1 = true → o.1 ∈ t.regime.originFloors
                ∨ (t.regime.overflow.getLsbD o.1 = true ∧ t.regime.general = true)))
    ∧ (r.unset = false → s.meetsOlder f.generation = true →
      ∃ t, exec c s = .next t ∧ t.regime = s.regime)

/-- A regime command from a console, not of an older generation, acts on the view that the generation window leaves.
GENERAL: GENERAL is set, and every floor of the building is EVACUATE. HOLD and RESUME: the hold epoch becomes the
larger of its own value and the argument, and nothing else of the view changes. SILENCE and RESOUND: the same for the
silence epoch. A regime command (GENERAL, HOLD, RESUME, SILENCE, RESOUND, ALL-CLEAR) of an older generation leaves the
regime view as it was and changes nothing but what the blocks do at the end of any event. ALL-CLEAR at a station whose
generation is unset sets the generation alone. (R93, R103, R104, R108, R109, R110, R111). -/
def Obligations.RegimeCommandsAct : Prop :=
  (∀ (line : Samples) (f : Frame) (s : State), s.meetsOlder f.generation = false → s.regimeLaw →
    (s.takes line f .general →
      ∃ t, exec (.general line) s = .next t ∧ t.regime.general = true
        ∧ t.regime.generation = (s.regime.met f.generation).generation
        ∧ (∀ x < 48, s.image.inUse x = true → t.phaseOf x = .evacuate)
        ∧ (∀ x < 48, s.image.inUse x = false → t.phaseOf x = .quiet)
        ∧ t.regime.hold = (s.regime.met f.generation).hold)
    ∧ (∀ e, s.takes line f (.hold e) →
      ∃ t, exec (.hold line) s = .next t
        ∧ t.regime = { s.regime.met f.generation with hold := max (s.regime.met f.generation).hold e })
    ∧ (∀ e, s.takes line f (.resume e) →
      ∃ t, exec (.resume line) s = .next t
        ∧ t.regime = { s.regime.met f.generation with hold := max (s.regime.met f.generation).hold e })
    ∧ (∀ e, s.takes line f (.silence e) →
      ∃ t, exec (.silence line) s = .next t
        ∧ t.regime = { s.regime.met f.generation with silence := max (s.regime.met f.generation).silence e })
    ∧ (∀ e, s.takes line f (.resound e) →
      ∃ t, exec (.resound line) s = .next t
        ∧ t.regime = { s.regime.met f.generation with silence := max (s.regime.met f.generation).silence e }))
  ∧ ((∀ (c : Instr) (line : Samples) (f : Frame) (k : Command) (s : State), c.samples = some line →
        s.takes line f k → s.meetsOlder f.generation = true →
        (k = .general ∨ (∃ e, k = .hold e) ∨ (∃ e, k = .resume e) ∨ (∃ e, k = .silence e) ∨ (∃ e, k = .resound e)
          ∨ k = .allClear) →
        ∃ t, exec c s = .next t ∧ t.regime = s.regime
          ∧ ∀ p : Part, p ∉ [.rx, .line, .lineLamp] ++ Part.reactions → p.same s t)
    ∧ (∀ (line : Samples) (f : Frame) (s : State), s.takes line f .allClear → s.regime.generation = none →
        ∃ t, exec (.allClear line) s = .next t ∧ t.regime = { s.regime with generation := some f.generation }
          ∧ ∀ p : Part, p ∉ [.rx, .line, .lineLamp, .generation] ++ Part.reactions → p.same s t))

/-- ALL_CLEAR whose generation is newer: the view is unset of origins, epochs and GENERAL, every phase is QUIET, and
the generation is the command's. Every entry of another station is AWAITING, and every floor entry's latches are
clear; PHASE-DISAGREE is inactive for every floor. At a FLOOR station each supervised zone in ALARM or under
verification is NORMAL with classification restarted and its faults inactive (no candidate, run 0; a fourth sample not
yet acted on is the first of a new run, log 15), every other zone keeps its state, no alarm-entry mark is left, and no
present stair keeps its release latch. The NOTICE request is present, and a speaker that is at IDLE with no authority
held is at NOTICE, at the step the walk from step 1 comes to. The reported origins are empty. The lift unit changes
nothing. (R71, R85, R110, R112, R124, R140, R55, R151). -/
def Obligations.AllClearEndsTheRegime : Prop :=
  ∀ (line : Samples) (f : Frame) (s : State), s.takes line f .allClear → s.meetsNewer f.generation = true →
    s.stationLaw → s.fieldLaw →
    ∃ t, exec (.allClear line) s = .next t
      ∧ t.regime.generation = some f.generation ∧ t.regime.general = false ∧ t.regime.hold = 0
      ∧ t.regime.silence = 0 ∧ t.regime.origins = [] ∧ t.regime.overflow = 0
      ∧ (∀ x < 48, t.phaseOf x = .quiet)
      ∧ (∀ a ∈ peerAddresses, a ≠ s.station.address →
          t.peers.base a = { s.peers.base a with standing := .awaiting })
      ∧ (∀ x < 48, (t.floorEntry x).alarmLatch = false ∧ (t.floorEntry x).lobbyLatch = false)
      ∧ (∀ x < 48, x ≠ s.station.address → (t.floorEntry x).phase = .quiet ∧ (t.floorEntry x).disagreements = 0
          ∧ (t.floorEntry x).disagree = false
          ∧ ∀ z < 8, (t.floorEntry x).zones.at z ZoneReport.quiet = ZoneReport.quiet)
      ∧ (∀ x, t.faults.holds .phaseDisagree x = false)
      ∧ (s.station.role = some .floor →
          (∀ z < 8, (t.zone z).mark = false
            ∧ ((s.zone z).supervised = true → (s.zone z).state ∈ [ZoneState.alarm, .verifyReset, .verifySettle,
                  .verifyConfirm] →
                (t.zone z).state = .normal ∧ (t.zone z).stage = none ∧ (t.zone z).accepted = none
                  ∧ (t.zone z).candidate = (if (s.zone z).acceptDue then (s.zone z).candidate else none)
                  ∧ (t.zone z).run = (if (s.zone z).acceptDue then 1 else 0)
                  ∧ t.faults.holds .zoneOpen (z + 1) = false ∧ t.faults.holds .zoneShort (z + 1) = false)
            ∧ ((s.zone z).state ∉ [ZoneState.alarm, .verifyReset, .verifySettle, .verifyConfirm] →
                (t.zone z).state = (s.zone z).state))
          ∧ (∀ i < 4, (s.stair i).present = true → (t.stair i).release = false)
          ∧ t.speaker.noticeRequest = true
          ∧ (s.speaker.level = .idle → s.authority.console = none →
              let walk := walkFrom true s.image.noticeSteps.list 14 1 false
              walk.hand = true → t.speaker.level = .notice ∧ t.speaker.step = some walk.pos))
      ∧ t.builder.reported = [] ∧ t.cars = s.cars

/-- ZONE_DISABLE and ZONE_ENABLE taken at a FLOOR station for a supervised zone. Disable: the zone is DISABLED; one
that was not has no stage timer left, its change latch set and its faults inactive. Enable: a DISABLED zone is NORMAL
with classification restarted and its change latch set. A zone already DISABLED is left by a disable, and a zone in
any other state by an enable; an unsupervised zone is left by both. No other zone changes. (The other clauses hold
where the command does not bring a newer generation, whose all-clear acts first.) A zone that neither command acts on
is left as it stands (R69, R70). (R69, R70, R61). -/
def Obligations.ZoneCommandsAct : Prop :=
  ∀ (line : Samples) (f : Frame) (z : Nat) (s : State), s.station.role = some .floor →
    (s.takes line f (.zoneDisable z) →
      ∃ t, exec (.zoneDisable line) s = .next t
        ∧ ((s.zone (z - 1)).supervised = true → (t.zone (z - 1)).state = .disabled)
        ∧ ((s.zone (z - 1)).supervised = true → (s.zone (z - 1)).state ≠ .disabled →
            (t.zone (z - 1)).stage = none ∧ (t.zone (z - 1)).latch = true
            ∧ t.faults.holds .zoneOpen z = false ∧ t.faults.holds .zoneShort z = false)
        ∧ (s.meetsNewer f.generation = false →
            (((s.zone (z - 1)).supervised = false ∨ (s.zone (z - 1)).state = .disabled) →
              t.zone (z - 1) = s.zone (z - 1))
            ∧ ∀ i, i ≠ z - 1 → t.zone i = s.zone i))
    ∧ (s.takes line f (.zoneEnable z) →
      ∃ t, exec (.zoneEnable line) s = .next t
        ∧ ((s.zone (z - 1)).supervised = true → (s.zone (z - 1)).state = .disabled →
            (t.zone (z - 1)).state = .normal ∧ (t.zone (z - 1)).candidate = none ∧ (t.zone (z - 1)).run = 0
            ∧ (t.zone (z - 1)).accepted = none ∧ (t.zone (z - 1)).latch = true)
        ∧ (s.meetsNewer f.generation = false →
            ((s.zone (z - 1)).state ≠ .disabled → t.zone (z - 1) = s.zone (z - 1))
            ∧ ∀ i, i ≠ z - 1 → t.zone i = s.zone i))

/-- At a FLOOR station. TAKE with the floor in its mask: with no authority or the sender's own, the sender holds it
under the number received, the keep timer starts at the keep limit, and no AUTHORITY-LAPSED stays active; another
console's authority stands. KEEP from the holder: the right number restarts the timer, a wrong one ends the authority
with AUTHORITY-LAPSED; from any other console nothing. GIVE from the holder with the floor in its mask ends it;
otherwise nothing. KEEP_TIMER_EXPIRY with the timer run out ends it with AUTHORITY-LAPSED for that console, and
changes nothing before (log 2). (R153, R154). -/
def Obligations.AuthorityCommandsAct : Prop :=
  ∀ (line : Samples) (f : Frame) (s : State), s.station.role = some .floor →
    (∀ mask n, s.takes line f (.take mask n) →
      ∃ t, exec (.take line) s = .next t
        ∧ (mask.getLsbD s.station.address = true →
            s.authority.console = none ∨ s.authority.console = some f.source →
            t.authority = ⟨some f.source, n, some (100 * s.image.keepLimit)⟩
            ∧ ∀ c, t.faults.holds .authorityLapsed c = false)
        ∧ (mask.getLsbD s.station.address = false
            ∨ (s.authority.console ≠ none ∧ s.authority.console ≠ some f.source) → t.authority = s.authority))
    ∧ (∀ n, s.takes line f (.keep n) →
      ∃ t, exec (.keep line) s = .next t
        ∧ (s.authority.console = some f.source → n = s.authority.number →
            t.authority = { s.authority with keep := some (100 * s.image.keepLimit) })
        ∧ (s.authority.console = some f.source → n ≠ s.authority.number →
            t.authority = { s.authority with console := none, keep := none }
            ∧ (s.faults.finds .authorityLapsed f.source = true → t.faults.holds .authorityLapsed f.source = true))
        ∧ (s.authority.console ≠ some f.source → t.authority = s.authority))
    ∧ (∀ mask, s.takes line f (.give mask) →
      ∃ t, exec (.give line) s = .next t
        ∧ t.authority = (if mask.getLsbD s.station.address = true ∧ s.authority.console = some f.source then
            { s.authority with console := none, keep := none } else s.authority))
    ∧ (∀ c, s.acts = true → s.authority.keep = some 0 → s.authority.console = some c →
      ∃ t, exec .keepTimerExpiry s = .next t ∧ t.authority = { s.authority with console := none, keep := none }
        ∧ (s.faults.finds .authorityLapsed c = true → t.faults.holds .authorityLapsed c = true)
        ∧ ∀ p : Part, p ∉ .authority :: Part.reactions → p.same s t)
    ∧ (s.authority.keep ≠ some 0 → exec .keepTimerExpiry s = .next s)

/-- TEST_ANNOUNCE at a FLOOR station in its mask, with the regime inactive once the generation window is passed and no
TEST request in hand: the request stands with the message received; otherwise the message is left. Only a request that
stands bars another (log 25). LIFT_RESTORE at a LIFT station: under an active regime the restore-refused count rises
by one, saturating at 255, and no car changes (of a station whose last event has left no car bound for a compromised
primary); under an inactive one each present car in RECALLING, PARKED or UNAVAILABLE is NORMAL with no target, no
recall timer, late and restore-pending clear and LIFT-UNAVAILABLE inactive, a car in FIREFIGHTER has restore-pending
set, a NORMAL car stays NORMAL, and the count stays. (R139, R152). -/
def Obligations.TestAnnounceAndLiftRestoreAct : Prop :=
  (∀ (line : Samples) (f : Frame) (mask : FloorMask) (m : Nat) (s : State), s.station.role = some .floor →
    s.takes line f (.testAnnounce mask m) →
    ∃ t, exec (.testAnnounce line) s = .next t
      ∧ (mask.getLsbD s.station.address = true → (s.regime.met f.generation).active = false →
          s.speaker.testRequest = false → t.speaker.testRequest = true ∧ t.speaker.testMessage = m)
      ∧ (mask.getLsbD s.station.address = false ∨ (s.regime.met f.generation).active = true
          ∨ s.speaker.testRequest = true → t.speaker.testMessage = s.speaker.testMessage))
  ∧ (∀ (line : Samples) (f : Frame) (bank : Nat) (s : State), s.station.role = some .lift →
    s.takes line f (.liftRestore bank) →
    ∃ t, exec (.liftRestore line) s = .next t
      ∧ ((s.regime.met f.generation).active = true → t.restoreRefused = min 255 (s.restoreRefused + 1)
          ∧ (s.recalled → t.cars = s.cars))
      ∧ ((s.regime.met f.generation).active = false → t.restoreRefused = s.restoreRefused
          ∧ ∀ c < 4, (s.car c).present = true →
              ((s.car c).state ∈ [CarState.recalling, .parked, .unavailable] →
                (t.car c).state = .normal ∧ (t.car c).target = .none ∧ (t.car c).recallTimer = none
                ∧ (t.car c).late = false ∧ (t.car c).restorePending = false)
              ∧ ((s.car c).state = .unavailable → t.faults.holds .liftUnavailable (c + 1) = false)
              ∧ ((s.car c).state = .firefighter →
                (t.car c).state = .firefighter ∧ (t.car c).restorePending = true)
              ∧ ((s.car c).state = .normal → (t.car c).state = .normal)))

/-- MARK with a whole MARK of the own cycle length C at a FLOOR station. From a lower address: the record is a
follower, the MARK's sync completion tick is its last one, its standing runs C + 100 tick events from there, and a
RUNNING record takes a pending correction from its position error e, the difference of the own cycle start (with the
fixed correction) and the leader's modulo C brought to -C/2..C/2: none when e is within -2..2, else -e limited to half
a half-period each way. From a higher address follower and standing stay, and a RUNNING record takes that correction
in LISTEN alone. With another cycle length nothing of the record changes. A MARK of the record that waits or flies
then, and its successor, are ones to be abandoned at their start; otherwise the MARK slot stays. The standing is
counted from the sync completion tick (log 19). The correction of a RUNNING record whose first cycle since reset has
not started is the model's choice: R159 gives it no latest cycle start, and the error is reckoned with 0 (log 35).
(R158, R159). -/
def Obligations.MarkIsFollowed : Prop :=
  ∀ (line : Samples) (f : Frame) (at_ : Word16) (m : MarkRecord) (s : State), s.receives line f at_ → s.admits f →
    s.station.role = some .floor → f.code = 5 → takeMark f.source f.payload = some m →
    ∃ t, exec (.mark line) s = .next t
      ∧ (let was := s.cadence.record m.kind
         let now := t.cadence.record m.kind
         let length := (s.image.cadence m.kind).cycle
         let limit : Int := ((s.image.cadence m.kind).half / 2 : Nat)
         let corrected : Prop := ∃ e : Int,
           ((length : Int) ∣ e - ((was.cycleStart + BitVec.ofInt 16 (was.fixed.getD 0))
               - (at_ - BitVec.ofNat 16 m.offset)).toInt)
           ∧ -(length : Int) < 2 * e ∧ 2 * e ≤ length
           ∧ now.pending = (if -2 ≤ e ∧ e ≤ 2 then none else some (max (-limit) (min limit (-e))))
         (m.cycle = length → f.source < s.station.address →
            now.follower = true ∧ now.lastLower = some at_
            ∧ now.standing = some (length + 100 - (s.time.tick - at_).toNat))
         ∧ (m.cycle ≠ length ∨ s.station.address < f.source →
            now.follower = was.follower ∧ now.lastLower = was.lastLower ∧ now.standing = was.standing)
         ∧ (m.cycle = length → was.run = .running →
            (f.source < s.station.address ∨ s.station.lifecycle = .listen) → corrected)
         ∧ (m.cycle ≠ length ∨ was.run ≠ .running
              ∨ (s.station.address < f.source ∧ s.station.lifecycle = .run) → now.pending = was.pending)
         ∧ now.pos = was.pos ∧ now.cycleStart = was.cycleStart ∧ now.fixed = was.fixed
         ∧ (let follows := m.cycle = length ∧ f.source < s.station.address
            let marked (e : MarkEntry) : MarkEntry := if e.kind = m.kind then { e with overtaken := true } else e
            (follows → t.slots.mark = s.slots.mark.map marked ∧ t.slots.successor = s.slots.successor.map marked)
            ∧ (¬ follows → t.slots.mark = s.slots.mark ∧ t.slots.successor = s.slots.successor)))

/-- The transmitter's candidate from the slots: the STATUS entry if it is PENDING in class ALARM; else the head of the
COMMAND FIFO if it is PENDING; else the MARK if it is PENDING; else the STATUS entry if it is PENDING in class STATUS;
else none. The collision count is the entry's own and does not change the order. (R29). -/
def Obligations.CandidateOrder : Prop :=
  ∀ q : Slots,
    (∀ e, q.status = some e → e.standing = .pending → e.cls = .alarm →
      q.candidate = some ⟨.status, .alarm, e.collisions⟩)
    ∧ ((∀ e, q.status = some e → ¬ (e.standing = .pending ∧ e.cls = .alarm)) →
        (∀ e, q.fifo.head? = some e → e.standing = .pending →
          q.candidate = some ⟨.command, .command, e.collisions⟩)
        ∧ ((∀ e, q.fifo.head? = some e → e.standing ≠ .pending) →
            (∀ m, q.mark = some m → m.standing = .pending → q.candidate = some ⟨.mark, .mark, m.collisions⟩)
            ∧ ((∀ m, q.mark = some m → m.standing ≠ .pending) →
                (∀ e, q.status = some e → e.standing = .pending → e.cls = .status →
                  q.candidate = some ⟨.status, .status, e.collisions⟩)
                ∧ ((∀ e, q.status = some e → ¬ (e.standing = .pending ∧ e.cls = .status)) →
                  q.candidate = none))))

/-- FRAME_START in RUN with the line idle and the receiver in HUNTING, after n more bit times of quiet: the recessive
run is the old one plus n, saturating at 255. Below the candidate's wait (16 + class gap 0, 4, 8 or 12, and 5 x
(address + 1) after a collision) nothing starts. Else a STATUS starts, kind 1, 2 or 3 by the role, with its snapshot,
and owes no heartbeat and no change but one that this event itself causes (R51, log 11); taken apart, its payload has
unset, GENERAL, listen-complete, epochs, digest, the count and the worst of the active faults, the origins with their
elapsed seconds, and the role's body: phase, level, source, authority, zones, changed-since mask and stairs; cars and
restores refused; link-alive. A COMMAND starts as it was queued; a MARK of kind 5 starts with the generation (log 18)
and the offset of its sync completion (log 8), or is abandoned if twice its offset exceeds the cycle, the offset
exceeds 255, its record does not run, or the record has become FOLLOWER since it queued the MARK, and leaves the slot.
The bit clock of the start comes with the command (log 8). A wait above 255, which a retry of a high address has, is
never met, since the run saturates (log 7). (R16, R30, R31, R37, R38, R39, R40, R41, R42, R51). -/
def Obligations.FrameStartsWhenTheWaitIsMet : Prop :=
  ∀ (n : Nat) (bitClock : Fin 160) (k : Candidate) (s : State), s.station.lifecycle = .run → s.tx = .idle →
    s.rx.phase = .hunting → s.slots.candidate = some k →
    let run := min 255 (s.rx.recessiveRun + n)
    let wait := 16 + (match k.cls with | .alarm => 0 | .command => 4 | .mark => 8 | .status => 12)
      + (if 1 ≤ k.collisions then 5 * (s.station.address + 1) else 0)
    let active := s.faults.records.filter (fun x => x.active)
    ∃ t, exec (.frameStart n bitClock) s = .next t
      ∧ (s.rx.recessiveRun ≤ 255 → t.rx = { s.rx with recessiveRun := run })
      ∧ (s.rx.recessiveRun ≤ 255 → run < wait →
          t.tx = .idle ∧ t.slots.fifo = s.slots.fifo ∧ t.slots.mark = s.slots.mark)
      ∧ (s.rx.recessiveRun ≤ 255 → wait ≤ run →
          (k.slot = .status → ∃ e f, s.slots.status = some e ∧ t.tx = .sending .status f
              ∧ t.slots.status = some { e with standing := .inFlight } ∧ f.source = s.station.address
              ∧ f.cls = e.cls ∧ f.dest = 63 ∧ f.generation = s.regime.generation.getD 0
              ∧ f.code = (match s.station.role with | some .lift => 2 | some .console => 3 | _ => 1)
              ∧ t.builder.snapshot.isSome = true ∧ t.builder.heartbeatOwed = false
              ∧ (t.builder.changeDue = true ↔ s.causes t)
              ∧ (s.lawful → ∃ r, takeStatus f.code s.station.address f.payload = some r
                  ∧ r.unset = s.regime.generation.isNone ∧ r.general = s.regime.general
                  ∧ r.listenComplete = s.station.listenComplete ∧ r.hold = s.regime.hold
                  ∧ r.silence = s.regime.silence ∧ r.digest = s.station.digest ∧ r.faultCount = active.length
                  ∧ (active = [] → r.worstFault = 0)
                  ∧ (∀ x ∈ active, (∀ y ∈ active, y.kind.rank ≤ x.kind.rank) → r.worstFault = x.kind.code)
                  ∧ r.origins = s.regime.origins.map (fun x => (x.origin, x.elapsed))
                  ∧ (s.station.role = some .floor → ∃ zones changed stairs,
                      r.body = .floor s.ownPhase s.speaker.level s.speaker.source (s.authority.console.getD 63) zones
                        changed stairs
                      ∧ (∀ z < 8, zones.at z ZoneReport.quiet = ⟨(s.zone z).state,
                            decide ((s.zone z).state = .alarm ∧ (s.zone z).accepted = some .alarm)⟩
                          ∧ changed.testBit z = (s.zone z).latch)
                      ∧ ∀ i < 4, stairs.at i .locked = (s.stair i).state)
                  ∧ (s.station.role = some .lift → ∃ cars, r.body = .lift cars s.restoreRefused
                      ∧ ∀ c < 4, cars.at c CarReport.rest = ⟨(s.car c).state, (s.car c).target, (s.car c).late,
                          (s.car c).restorePending, (s.car c).inputFault⟩)
                  ∧ (s.station.role = some .console → r.body = .console s.link.keep.isSome)))
          ∧ (k.slot = .command → ∃ e f, s.slots.fifo.head? = some e ∧ t.tx = .sending .command f
              ∧ t.slots.fifo = { e with standing := .inFlight } :: s.slots.fifo.drop 1
              ∧ f = { source := s.station.address, cls := .command, dest := e.dest, code := 4,
                      generation := e.generation, payload := e.command.payload })
          ∧ (k.slot = .mark → ∀ m, s.slots.mark = some m →
              let rec_ := s.cadence.record m.kind
              let completion := if 160 ≤ bitClock.val + 8 then s.time.tick + 1 else s.time.tick
              let offset := (completion - rec_.cycleStart).toNat
              let abandoned := m.cycle < 2 * offset ∨ 255 < offset ∨ rec_.run ≠ .running ∨ m.overtaken = true
              (¬ abandoned → ∃ f, t.tx = .sending .mark f
                ∧ t.slots.mark = some { m with standing := .inFlight } ∧ f.source = s.station.address ∧ f.dest = 63
                ∧ f.cls = .mark ∧ f.code = 5 ∧ f.generation = s.regime.generation.getD 0
                ∧ (s.station.address < 48 → 2 ≤ m.cycle → m.cycle < 65536 →
                    takeMark s.station.address f.payload = some ⟨m.kind, offset, m.cycle⟩))
              ∧ (abandoned → s.slots.successor = none → t.slots.mark = none)))

/-- DEFER while a frame is being sent: the transmitter is idle and the entry is PENDING again with its collision count
unchanged (a MARK gives way to a successor held for it, after a deferral too, log 18), no line counter moves; of a
STATUS the snapshot is dropped, no change stays due but one that this event itself causes (R53, log 12), and the class
is raised to ALARM exactly with news of a new alarm or origin, never lowered (R50); and a receiver in HUNTING after 16
bit times of quiet has taken up the other station's frame and stands in SYNC. JAM_END while jamming: the transmitter
is idle, the recessive run 0 and the receiver in HUNTING with its assembly empty. Both do nothing otherwise (log 2).
(R28, R31, R32, R53). -/
def Obligations.FlightsThatEndUnsentReturn : Prop :=
  (∀ (bit : Fin 2) (slot : SlotId) (f : Frame) (s : State), s.acts = true → s.tx = .sending slot f →
    s.rx.phase = .hunting → 16 ≤ s.rx.recessiveRun →
    ∃ t, exec (.defer bit) s = .next t ∧ t.tx = .idle ∧ t.rx.phase = .sync ∧ t.rx.checked = 0
      ∧ t.rx.recessiveRun = 0 ∧ t.line = s.line
      ∧ (slot = .status → t.builder.snapshot = none ∧ ∀ e, s.slots.status = some e → ∃ e', t.slots.status = some e'
          ∧ e'.standing = .pending ∧ e'.collisions = e.collisions
          ∧ (s.station.role.isSome = true → (t.builder.changeDue = true ↔ s.causes t))
          ∧ (s.station.lifecycle = .run → (t.alarmNews → e'.cls = .alarm) ∧ (¬ t.alarmNews → e'.cls = e.cls)))
      ∧ (slot = .command → ∀ e rest, s.slots.fifo = e :: rest →
          t.slots.fifo = { e with standing := .pending } :: rest)
      ∧ (slot = .mark → ∀ m, s.slots.mark = some m → t.slots.successor = none
          ∧ t.slots.mark = some (match s.slots.successor with | some n => n | none => { m with standing := .pending }))
      ∧ (slot ≠ .command → t.slots.fifo = s.slots.fifo) ∧ (slot ≠ .mark → t.slots.mark = s.slots.mark))
  ∧ (∀ (bit : Fin 2) (s : State), s.tx.slot = none ∨ s.acts = false → exec (.defer bit) s = .next s)
  ∧ (∀ s : State, s.acts = true → s.tx = .jamming →
    ∃ t, exec .jamEnd s = .next t ∧ t.tx = .idle ∧ t.rx.recessiveRun = 0 ∧ t.rx.phase = .hunting ∧ t.rx.bytes = []
      ∧ t.rx.bits = [] ∧ ∀ p : Part, p ∉ [.tx, .rx] ++ Part.reactions → p.same s t)
  ∧ (∀ s : State, s.tx ≠ .jamming → exec .jamEnd s = .next s)

/-- COLLISION in a bit from the third sync bit to the last of the frame: the station jams and the collisions counter
rises. Below the 16th collision of the entry it is PENDING again with its count raised by one (a collided MARK gives
way to a successor), and of a STATUS no change stays due but one that this event itself causes (R53, log 12), while
the class is raised to ALARM exactly with news of a new alarm or origin, never lowered (R50). At the 16th the entry
leaves its slot, the dropped counter rises, FRAME-DROPPED is raised with the record kind code, a dropped ISSUE reads
DROPPED, and a dropped STATUS has change due set and the spacing timer at 20. In any other bit, and while no frame is
sent, nothing changes (log 2). (R26, R28, R32, R34, R54, R166). -/
def Obligations.CollisionReturnsOrDrops : Prop :=
  (∀ (bit : Nat) (slot : SlotId) (f : Frame) (s : State), s.acts = true → s.tx = .sending slot f → 2 ≤ bit →
    bit < f.lineBits.length →
    let count := (match slot with
      | .status => (s.slots.status.map (fun e => e.collisions)).getD 0
      | .command => (s.slots.fifo.head?.map (fun e => e.collisions)).getD 0
      | .mark => (s.slots.mark.map (fun e => e.collisions)).getD 0)
    ∃ t, exec (.collision bit) s = .next t ∧ t.tx = .jamming
      ∧ t.line.collisions = min 65535 (s.line.collisions + 1)
      ∧ (count < 15 → t.line.dropped = s.line.dropped
          ∧ (slot = .status → t.builder.snapshot = none ∧ ∀ e, s.slots.status = some e →
              ∃ e', t.slots.status = some e' ∧ e'.standing = .pending ∧ e'.collisions = e.collisions + 1
                ∧ (t.builder.changeDue = true ↔ s.causes t)
                ∧ (s.station.lifecycle = .run → (t.alarmNews → e'.cls = .alarm) ∧ (¬ t.alarmNews → e'.cls = e.cls)))
          ∧ (slot = .command → t.link = s.link ∧ ∀ e rest, s.slots.fifo = e :: rest →
              t.slots.fifo = { e with standing := .pending, collisions := e.collisions + 1 } :: rest)
          ∧ (slot = .mark → t.slots.successor = none ∧ ∀ m, s.slots.mark = some m →
              t.slots.mark = some (match s.slots.successor with
                | some n => n
                | none => { m with standing := .pending, collisions := m.collisions + 1 })))
      ∧ (15 ≤ count → t.line.dropped = min 65535 (s.line.dropped + 1)
          ∧ (s.faults.finds .frameDropped f.code = true → t.faults.holds .frameDropped f.code = true)
          ∧ (slot = .status → t.builder.snapshot = none ∧ t.builder.changeDue = true ∧ t.builder.spacing = some 20
              ∧ ∀ e, t.slots.status = some e → e.standing = .pending ∧ e.collisions = 0 ∧ e.cls = .alarm)
          ∧ (slot = .command → t.slots.fifo = s.slots.fifo.drop 1 ∧ ∀ e, s.slots.fifo.head? = some e →
              t.link = (if e.issued then
                  { s.link with result := { s.link.result with outcome := .dropped, reason := .none } } else s.link))
          ∧ (slot = .mark → t.slots.mark = s.slots.successor ∧ t.slots.successor = none)))
  ∧ (∀ (bit : Nat) (s : State), (∀ slot f, s.tx = .sending slot f → bit < 2 ∨ f.lineBits.length ≤ bit) →
      exec (.collision bit) s = .next s)

/-- FRAME_COMPLETE while a frame is being sent: the transmitter is idle, the recessive run 0, the receiver in HUNTING,
the sent counter up by one, and FRAME-DROPPED for its record kind inactive. A completed COMMAND leaves the FIFO, and
an ISSUE then reads SENT; a completed MARK leaves its slot to the successor; a completed STATUS starts the spacing at
20, reports the snapshot's origins (none, if an all-clear came between: the two generations are set and differ, log
23), and clears the change latch of each zone, stair and car, and the alarm-entry mark of each zone, where the
snapshot has them and the count has not moved; for the stairs of a station that the last event left settled, and for a
car that the end of this event does not retarget. While no frame is sent nothing changes (log 2). (R35, R52, R55,
R166, R173). -/
def Obligations.CompletionFreesTheSlot : Prop :=
  (∀ (slot : SlotId) (f : Frame) (s : State), s.acts = true → s.tx = .sending slot f →
    ∃ t, exec .frameComplete s = .next t ∧ t.tx = .idle ∧ t.rx.recessiveRun = 0 ∧ t.rx.phase = .hunting
      ∧ t.rx.bytes = [] ∧ t.line = { s.line with sent := min 65535 (s.line.sent + 1) }
      ∧ t.faults.holds .frameDropped f.code = false
      ∧ (slot = .command → t.slots.fifo = s.slots.fifo.drop 1 ∧ ∀ e, s.slots.fifo.head? = some e →
          t.link.result = (if e.issued then { s.link.result with outcome := .sent, reason := .none }
                           else s.link.result))
      ∧ (slot ≠ .command → t.slots.fifo = s.slots.fifo ∧ t.link = s.link)
      ∧ (slot = .mark → t.slots.mark = s.slots.successor ∧ t.slots.successor = none)
      ∧ (slot = .status → t.builder.spacing = some 20 ∧ (∀ e, t.slots.status = some e → e.standing = .pending)
          ∧ ∀ k, s.builder.snapshot = some k → t.builder.snapshot = none
            ∧ t.builder.reported = (if k.generation ≠ none ∧ s.regime.generation ≠ none
                  ∧ k.generation ≠ s.regime.generation then [] else k.origins)
            ∧ ∀ z < 8, (t.zone z).latch = ((s.zone z).latch
                && !((k.zones.at z Kept.none).latch && (k.zones.at z Kept.none).count == (s.zone z).count))
              ∧ (t.zone z).mark = ((s.zone z).mark
                && !((k.zones.at z Kept.none).mark && (k.zones.at z Kept.none).count == (s.zone z).count)))
      ∧ (slot = .status → ∀ k, s.builder.snapshot = some k →
          (s.settled → ∀ i < 4, (t.stair i).count = (s.stair i).count ∧ (t.stair i).latch = ((s.stair i).latch
              && !((k.stairs.at i Kept.none).latch && (k.stairs.at i Kept.none).count == (s.stair i).count)))
          ∧ ∀ c < 4, (s.compromised = false ∨ (s.car c).target ≠ .primary) →
              (t.car c).count = (s.car c).count ∧ (t.car c).latch = ((s.car c).latch
                && !((k.cars.at c Kept.none).latch && (k.cars.at c Kept.none).count == (s.car c).count))))
  ∧ (∀ s : State, s.tx.slot = none → exec .frameComplete s = .next s)

/-- FRAME_COMPLETE for an ISSUE at the head of the FIFO: the result reads SENT. GENERAL, HOLD, RESUME, SILENCE,
RESOUND and ALL-CLEAR act on the console's own view as at every other station, under the generation window of the
command's own header generation, and one of an older generation leaves the view. TAKE, whatever the generation queued,
adds the floors to the keep mask and keeps the number while the link is alive; the keep period starts unless the
console is keeping already; with the link keep expired it leaves the number too (log 20). GIVE removes the floors, and
ends the keeping when none is left. ZONE DISABLE, ZONE ENABLE, TEST ANNOUNCE and LIFT RESTORE have no effect of their
own. (R103, R104, R108, R110, R166, R167). -/
def Obligations.OwnCommandsAct : Prop :=
  ∀ (e : CommandEntry) (rest : List CommandEntry) (f : Frame) (s : State), s.acts = true →
    s.tx = .sending .command f → s.slots.fifo = e :: rest → e.issued = true → s.station.role = some .console →
    s.regimeLaw →
    let sent := { s.link with result := { s.link.result with outcome := .sent, reason := .none } }
    ∃ t, exec .frameComplete s = .next t ∧ t.link.result = sent.result
      ∧ (s.meetsOlder e.generation = false →
          (e.command = .general →
            t.regime.general = true ∧ ∀ x < 48, s.image.inUse x = true → t.phaseOf x = .evacuate)
          ∧ (∀ n, e.command = .hold n ∨ e.command = .resume n →
              t.regime = { s.regime.met e.generation with hold := max (s.regime.met e.generation).hold n })
          ∧ (∀ n, e.command = .silence n ∨ e.command = .resound n →
              t.regime = { s.regime.met e.generation with silence := max (s.regime.met e.generation).silence n })
          ∧ (e.command = .allClear → t.regime = s.regime.met e.generation))
      ∧ (s.meetsOlder e.generation = true → t.regime = s.regime)
      ∧ (∀ mask n, e.command = .take mask n → t.regime = s.regime
          ∧ t.link = (if s.link.keep.isSome then
              { sent with
                keepMask := s.link.keepMask ||| mask, authorityNumber := n, keeping := true,
                period := if s.link.keeping then s.link.period else some (max 100 (100 * (s.image.keepLimit / 3))) }
            else sent))
      ∧ (∀ mask, e.command = .give mask → t.regime = s.regime ∧ t.link.keepMask = s.link.keepMask &&& ~~~mask
          ∧ t.link.keeping = (s.link.keeping && decide (s.link.keepMask &&& ~~~mask ≠ 0))
          ∧ t.link.period = (if s.link.keepMask &&& ~~~mask = 0 then none else s.link.period))
      ∧ ((∃ z, e.command = .zoneDisable z) ∨ (∃ z, e.command = .zoneEnable z)
            ∨ (∃ mask n, e.command = .testAnnounce mask n) ∨ (∃ b, e.command = .liftRestore b) →
          t.regime = s.regime ∧ t.link = sent)

/-- HEARTBEAT_TIMER_EXPIRY in RUN with the timer run out: a heartbeat is owed, the timer restarts at 100 x B, and with
the slot empty and the spacing open an entry is placed. SPACING_TIMER_OPEN with the timer run out: the spacing is
open, and in RUN with the slot empty an owed report is placed. INDICATOR_FLASH with the lamp's time run out turns the
lamp over and starts its next half period, 50 tick events for RUN and 25 for ALARM and for the FAULT lamp of a halted
station; LINE_LIT_EXPIRY with its time run out puts LINE out; nothing else changes. Before the timers run out nothing
changes (log 2). (R5, R15, R47, R49, R175). -/
def Obligations.BuilderAndLampTimersAct : Prop :=
  (∀ s : State, s.station.lifecycle = .run → s.builder.heartbeat = some 0 →
    ∃ t, exec .heartbeatTimerExpiry s = .next t ∧ t.builder.heartbeatOwed = true
      ∧ t.builder.heartbeat = some (100 * s.image.heartbeat)
      ∧ (s.slots.status = none → s.builder.spacing = none →
          ∃ e, t.slots.status = some e ∧ e.standing = .pending ∧ e.collisions = 0)
      ∧ ∀ p : Part, p ∉ .heartbeat :: Part.reactions → p.same s t)
  ∧ (∀ s : State, s.acts = true → s.builder.spacing = some 0 →
    ∃ t, exec .spacingTimerOpen s = .next t ∧ t.builder.spacing = none
      ∧ (s.station.lifecycle = .run → s.slots.status = none → t.reportOwed = true →
          ∃ e, t.slots.status = some e ∧ e.standing = .pending ∧ e.collisions = 0)
      ∧ ∀ p : Part, p ∉ .spacing :: Part.reactions → p.same s t)
  ∧ (∀ s : State, s.builder.heartbeat ≠ some 0 → exec .heartbeatTimerExpiry s = .next s)
  ∧ (∀ s : State, s.builder.spacing ≠ some 0 → exec .spacingTimerOpen s = .next s)
  ∧ (∀ s : State,
    (s.lamps.runFlash = some 0 → exec (.indicatorFlash .run) s =
        .next { s with lamps := { s.lamps with runLit := !s.lamps.runLit, runFlash := some 50 } })
    ∧ (s.lamps.alarmFlash = some 0 → exec (.indicatorFlash .alarm) s =
        .next { s with lamps := { s.lamps with alarmLit := !s.lamps.alarmLit, alarmFlash := some 25 } })
    ∧ (s.lamps.haltFlash = some 0 → exec (.indicatorFlash .haltedFault) s =
        .next { s with lamps := { s.lamps with haltLit := !s.lamps.haltLit, haltFlash := some 25 } })
    ∧ (s.lamps.line = some 0 → exec .lineLitExpiry s = .next { s with lamps := { s.lamps with line := none } })
    ∧ (s.lamps.runFlash ≠ some 0 → exec (.indicatorFlash .run) s = .next s)
    ∧ (s.lamps.alarmFlash ≠ some 0 → exec (.indicatorFlash .alarm) s = .next s)
    ∧ (s.lamps.haltFlash ≠ some 0 → exec (.indicatorFlash .haltedFault) s = .next s)
    ∧ (s.lamps.line ≠ some 0 → exec .lineLitExpiry s = .next s))

/-- LOOP_CLASS_ACCEPTED when four samples of a class that is not the accepted one have come: the class is accepted.
NORMAL and FAULT: an alarm takes a detector or lobby zone to VERIFY-RESET with 200 tick events while the regime is
inactive, and any other to ALARM; normal to NORMAL; open and short to FAULT. VERIFY-CONFIRM: alarm to ALARM, open and
short to FAULT, normal stays while the window runs and goes to NORMAL without one. ALARM stays. Each change of state,
of condition-present and of an accepted class sets the latch and counts one; entry to ALARM sets the mark; ZONE-OPEN
and ZONE-SHORT follow the class. Before that nothing changes (log 2). (R58, R59, R60, R61, R62, R64, R65, R66). -/
def Obligations.ZoneAcceptanceActs : Prop :=
  (∀ (z : Fin 8) (c : LoopClass) (s : State), s.actsAs .floor = true → s.stationLaw → (s.zone z).acceptDue = true →
    (s.zone z).candidate = some c →
    let was := s.zone z
    ∃ t, exec (.loopClassAccepted z) s = .next t
      ∧ (let now := t.zone z
         now.accepted = some c ∧ now.candidate = some c ∧ now.run = was.run ∧ now.kind = was.kind
         ∧ now.state = (match was.state, c with
            | .alarm, _ => .alarm
            | .verifyConfirm, .alarm => .alarm
            | .verifyConfirm, .normal => if was.stage.isSome then .verifyConfirm else .normal
            | .verifyConfirm, _ => .fault
            | _, .alarm =>
              if (was.kind = .detector ∨ was.kind = .lobby) ∧ s.regime.active = false then .verifyReset else .alarm
            | _, .normal => .normal
            | _, _ => .fault)
         ∧ now.stage = (if now.state = .verifyReset then some 200
            else if now.state = .verifyConfirm then was.stage else none)
         ∧ (let changes := (if now.state = was.state then 0 else 1)
              + (if (now.state = .alarm ∧ c = .alarm ↔ was.state = .alarm ∧ was.accepted = some .alarm) then 0 else 1)
              + (if was.accepted = none then 0 else 1)
            now.latch = (was.latch || decide (0 < changes)) ∧ now.count = (was.count + changes) % 256)
         ∧ now.mark = (was.mark || decide (now.state = .alarm ∧ was.state ≠ .alarm)))
      ∧ (c ≠ .opened → t.faults.holds .zoneOpen (z + 1) = false)
      ∧ (c ≠ .short → t.faults.holds .zoneShort (z + 1) = false)
      ∧ (c = .opened → s.faults.finds .zoneOpen (z + 1) = true → t.faults.holds .zoneOpen (z + 1) = true)
      ∧ (c = .short → s.faults.finds .zoneShort (z + 1) = true → t.faults.holds .zoneShort (z + 1) = true)
      ∧ (t.regime.active = s.regime.active → ∀ i, i ≠ z.val → t.zone i = s.zone i))
  ∧ (∀ (z : Fin 8) (s : State), (s.zone z).acceptDue = false → exec (.loopClassAccepted z) s = .next s)

/-- LOOP_CLASS_ACCEPTED of the ALARM class that takes a zone into ALARM: the own floor entry's alarm latch is set, and
the lobby latch for a LOBBY zone; a station in LISTEN enters RUN; and with the alarm latch clear before and the own
floor within L..H, the regime is active, the own floor is in the origin list or was refused by a full list under
GENERAL, and its phase is EVACUATE. (R13, R67, R94, R96, R101). -/
def Obligations.ZoneAlarmStartsTheRegime : Prop :=
  ∀ (z : Fin 8) (s : State), s.actsAs .floor = true → s.stationLaw → s.regimeLaw → (s.zone z).acceptDue = true →
    (s.zone z).candidate = some .alarm →
    ((s.zone z).state = .verifyConfirm
      ∨ ((s.zone z).state = .normal ∨ (s.zone z).state = .fault)
        ∧ ((s.zone z).verified = false ∨ s.regime.active = true)) →
    ∃ t, exec (.loopClassAccepted z) s = .next t ∧ (t.zone z).state = .alarm ∧ t.station.lifecycle = .run
      ∧ (t.floorEntry s.station.address).alarmLatch = true
      ∧ ((s.zone z).kind = .lobby → (t.floorEntry s.station.address).lobbyLatch = true)
      ∧ ((s.floorEntry s.station.address).alarmLatch = false → s.image.inUse s.station.address = true →
          t.regime.active = true ∧ t.phaseOf s.station.address = .evacuate
          ∧ (s.station.address ∈ t.regime.originFloors
              ∨ (t.regime.general = true ∧ t.regime.overflow.getLsbD s.station.address = true)))

/-- STAGE_TIMER_EXPIRY with the timer run out: VERIFY-RESET goes to VERIFY-SETTLE with 300 tick events; VERIFY-SETTLE
goes to VERIFY-CONFIRM with classification restarted and a window of 6,000 tick events, or none while the regime is
active. CONFIRM_WINDOW_EXPIRY with the window run out: the zone is NORMAL with no timer, and accepted class, candidate
and run are kept. Each sets the change latch and counts one (R59); no other zone and no other part changes but by the
end of the event. Otherwise nothing changes (log 2). (R58, R59, R63, R64). -/
def Obligations.VerificationRunsItsStages : Prop :=
  (∀ (z : Fin 8) (s : State), s.actsAs .floor = true → (s.zone z).stage = some 0 →
    ((s.zone z).state = .verifyReset →
      ∃ t, exec (.stageTimerExpiry z) s = .next t
        ∧ t.zone z = { s.zone z with state := .verifySettle, stage := some 300, latch := true,
                                     count := ((s.zone z).count + 1) % 256 }
        ∧ (∀ i, i ≠ z.val → t.zone i = s.zone i) ∧ ∀ p : Part, p ∉ .zones :: Part.reactions → p.same s t)
    ∧ ((s.zone z).state = .verifySettle →
      ∃ t, exec (.stageTimerExpiry z) s = .next t
        ∧ t.zone z = { s.zone z with
            state := .verifyConfirm, stage := if s.regime.active then none else some 6000, candidate := none,
            run := 0, accepted := none, latch := true, count := ((s.zone z).count + 1) % 256 }
        ∧ (∀ i, i ≠ z.val → t.zone i = s.zone i) ∧ ∀ p : Part, p ∉ .zones :: Part.reactions → p.same s t)
    ∧ ((s.zone z).state = .verifyConfirm →
      ∃ t, exec (.confirmWindowExpiry z) s = .next t
        ∧ t.zone z = { s.zone z with state := .normal, stage := none, latch := true,
                                     count := ((s.zone z).count + 1) % 256 }
        ∧ (∀ i, i ≠ z.val → t.zone i = s.zone i) ∧ ∀ p : Part, p ∉ .zones :: Part.reactions → p.same s t))
  ∧ (∀ (z : Fin 8) (s : State), (s.zone z).stage ≠ some 0 →
      exec (.stageTimerExpiry z) s = .next s ∧ exec (.confirmWindowExpiry z) s = .next s)

/-- At a FLOOR station, for a present stair. STAIR_INPUT_CHANGE when four samples of the other level have come: the
level is accepted; a door accepted CLOSED stops the held-open timer and ends DOOR-HELD, and one accepted OPEN under an
active regime starts it at 100 x the limit. MISMATCH_TIMER_EXPIRY with the timer run out: DOOR-LOCK is raised with the
stair's number and the feedback fault stands exactly while feedback and lock output disagree, as they stand at the end
of the event (log 16). HELD_OPEN_TIMER_EXPIRY with the timer run out: the timer stops and DOOR-HELD is raised. Before
that nothing changes (log 2). Every command that is one event, at a station that the last event left settled: as it
leaves feedback and lock output apart the mismatch timer starts at 200 tick events, unless it runs or the fault
stands; agreement stops it, and ends the feedback fault and DOOR-LOCK; only the timer's end sets the fault. A change
of the stair's state sets its latch and counts one, and no other event does. As the regime becomes active with the
door OPEN the held-open timer starts, at an all-clear it stops, and any other event that is not the door's leaves it,
but for its own end. (R115, R121, R122, R123, R124). -/
def Obligations.StairEventsAct : Prop :=
  (∀ (i : Fin 4) (k : StairInput) (s : State), s.actsAs .floor = true → (s.stair i).present = true →
    ((s.stair i).input k).run = 4 → ((s.stair i).input k).candidate = some (!((s.stair i).input k).accepted) →
    ∃ t, exec (.stairInputChange i k) s = .next t
      ∧ (t.stair i).input k = { (s.stair i).input k with accepted := !((s.stair i).input k).accepted }
      ∧ (∀ k', k' ≠ k → (t.stair i).input k' = (s.stair i).input k')
      ∧ (k = .door → (t.stair i).door.accepted = true →
          (t.stair i).heldOpen = none ∧ t.faults.holds .doorHeld (i + 1) = false)
      ∧ (k = .door → (t.stair i).door.accepted = false →
          (t.stair i).heldOpen = if s.regime.active then some (100 * s.image.heldOpenLimit) else (s.stair i).heldOpen)
      ∧ ∀ p : Part, p ∉ Part.reactions → p.same s t)
  ∧ (∀ (i : Fin 4) (s : State), s.actsAs .floor = true → (s.stair i).present = true →
    ((s.stair i).mismatch = some 0 →
      ∃ t, exec (.mismatchTimerExpiry i) s = .next t ∧ (t.stair i).mismatch = none
        ∧ (t.stair i).feedbackFault = ((t.stair i).feedback.accepted == (t.stair i).unlock)
        ∧ ((t.stair i).feedbackFault = false → t.faults.holds .doorLock (i + 1) = false)
        ∧ ((t.stair i).feedbackFault = true → s.faults.finds .doorLock (i + 1) = true →
            t.faults.holds .doorLock (i + 1) = true)
        ∧ ∀ p : Part, p ∉ Part.reactions → p.same s t)
    ∧ ((s.stair i).heldOpen = some 0 →
      ∃ t, exec (.heldOpenTimerExpiry i) s = .next t ∧ (t.stair i).heldOpen = none
        ∧ (s.faults.finds .doorHeld (i + 1) = true → t.faults.holds .doorHeld (i + 1) = true)
        ∧ ∀ p : Part, p ∉ Part.reactions → p.same s t))
  ∧ (∀ (i : Fin 4) (k : StairInput) (s : State),
      (((s.stair i).input k).run ≠ 4 → exec (.stairInputChange i k) s = .next s)
      ∧ ((s.stair i).mismatch ≠ some 0 → exec (.mismatchTimerExpiry i) s = .next s)
      ∧ ((s.stair i).heldOpen ≠ some 0 → exec (.heldOpenTimerExpiry i) s = .next s))
  ∧ (∀ (c : Instr) (i : Nat) (s t : State), exec c s = .next t → c ≠ .reset → c.oneEvent → s.hearsOne c →
    s.settled → s.actsAs .floor = true → i < 4 → (s.stair i).present = true → s.stairFollows i t)

/-- At a LIFT station, for a present car whose target is not a compromised primary. CAR_INPUT_CHANGE when four samples
of the other level have come: the level is accepted, the input fault stands while both floor inputs do, and the car
acts. RECALLING parks on arrival and is UNAVAILABLE without automatic service; UNAVAILABLE parks late on arrival;
PARKED with key and doors is FIREFIGHTER; FIREFIGHTER with the key off is NORMAL when a restore is pending and the
regime inactive, and is recalled to its target otherwise. A car that becomes UNAVAILABLE raises LIFT-UNAVAILABLE, and
LIFT-INPUT is raised and made inactive as the input fault comes and goes (where the fault list has the record or a
place). RECALL_TIMER_EXPIRY in RECALLING: the car is UNAVAILABLE and LIFT-UNAVAILABLE is raised. Every state that the
car enters in the event, and every other field of its byte that changes, sets its latch and counts one (R130). Of a
car handed back at its target and out of automatic service, parking wins (log 13). Before that nothing changes (log
2). (R127, R128, R130, R134, R135, R137, R138, R139). -/
def Obligations.CarEventsAct : Prop :=
  (∀ (c : Fin 4) (i : CarInput) (s : State), s.actsAs .lift = true → (s.car c).present = true →
    (s.compromised = false ∨ (s.car c).target ≠ .primary) →
    ((s.car c).input i).run = 4 → ((s.car c).input i).candidate = some (!((s.car c).input i).accepted) →
    let was := s.car c
    ∃ t, exec (.carInputChange c i) s = .next t
      ∧ (let now := t.car c
         let keyed := now.ffKey.accepted && now.doorsOpen.accepted
         let arrived := !was.atTarget && now.atTarget
         now.input i = { was.input i with accepted := !(was.input i).accepted }
         ∧ (∀ j, j ≠ i → now.input j = was.input j)
         ∧ now.inputFault = (now.atPrimary.accepted && now.atAlternate.accepted)
         ∧ (now.state = .unavailable → was.state ≠ .unavailable → s.faults.finds .liftUnavailable (c + 1) = true →
             t.faults.holds .liftUnavailable (c + 1) = true)
         ∧ (now.inputFault = true → was.inputFault = false → s.faults.finds .liftInput (c + 1) = true →
             t.faults.holds .liftInput (c + 1) = true)
         ∧ (now.inputFault = false → was.inputFault = true → t.faults.holds .liftInput (c + 1) = false)
         ∧ (was.state = .normal → now.state = .normal)
         ∧ (let byte := (if now.inputFault = was.inputFault then 0 else 1)
              + (if now.target = was.target then 0 else 1) + (if now.late = was.late then 0 else 1)
              + (if now.restorePending = was.restorePending then 0 else 1)
            let entered := match was.state with
              | .normal => 0
              | .recalling => if arrived then (if keyed then 2 else 1) else if now.state = .unavailable then 1 else 0
              | .unavailable => if arrived then (if keyed then 2 else 1) else 0
              | .parked => if keyed then 1 else 0
              | .firefighter => if now.state = .firefighter then 0
                else if now.state = .normal ∨ now.state = .recalling then 1 else 2
            now.latch = (was.latch || decide (0 < byte + entered)) ∧ now.count = (was.count + byte + entered) % 256)
         ∧ (was.state = .recalling → now.target = was.target ∧ now.late = was.late
             ∧ now.state = (if arrived then (if keyed then .firefighter else .parked)
                 else if i = .autoService ∧ now.autoService.accepted = false then .unavailable else .recalling)
             ∧ now.recallTimer = (if now.state = .recalling then was.recallTimer else none))
         ∧ (was.state = .unavailable → now.target = was.target ∧ now.late = (was.late || arrived)
             ∧ now.state = (if arrived then (if keyed then .firefighter else .parked) else .unavailable)
             ∧ (arrived = true → t.faults.holds .liftUnavailable (c + 1) = false))
         ∧ (was.state = .parked → now.target = was.target
             ∧ now.state = (if keyed then .firefighter else .parked))
         ∧ (was.state = .firefighter →
             (¬ (i = .ffKey ∧ now.ffKey.accepted = false) → now.state = .firefighter ∧ now.target = was.target)
             ∧ (i = .ffKey → now.ffKey.accepted = false → s.regime.active = false → was.restorePending = true →
                 now.state = .normal ∧ now.target = .none ∧ now.late = false ∧ now.restorePending = false)
             ∧ (i = .ffKey → now.ffKey.accepted = false → (s.regime.active = true ∨ was.restorePending = false) →
                 now.target = was.target
                 ∧ now.state = (if now.atTarget then .parked
                     else if now.autoService.accepted then .recalling else .unavailable)
                 ∧ now.recallTimer = (if now.state = .recalling then some (100 * s.image.recallTimeout) else none))))
      ∧ ∀ p : Part, p ∉ Part.reactions → p.same s t)
  ∧ (∀ (c : Fin 4) (s : State), s.actsAs .lift = true → (s.car c).present = true →
    (s.compromised = false ∨ (s.car c).target ≠ .primary) → (s.car c).state = .recalling →
    (s.car c).recallTimer = some 0 →
    ∃ t, exec (.recallTimerExpiry c) s = .next t ∧ (t.car c).state = .unavailable ∧ (t.car c).recallTimer = none
      ∧ (t.car c).target = (s.car c).target ∧ (t.car c).latch = true ∧ (t.car c).count = ((s.car c).count + 1) % 256
      ∧ (s.faults.finds .liftUnavailable (c + 1) = true → t.faults.holds .liftUnavailable (c + 1) = true)
      ∧ ∀ p : Part, p ∉ Part.reactions → p.same s t)
  ∧ (∀ (c : Fin 4) (i : CarInput) (s : State),
      (((s.car c).input i).run ≠ 4 → exec (.carInputChange c i) s = .next s)
      ∧ ((s.car c).recallTimer ≠ some 0 → exec (.recallTimerExpiry c) s = .next s))

/-- At a FLOOR station. BUSY_LEVEL: low in CLEARING starts the message (number lines, play strobe, 50 tick events);
high in STARTING is PLAYING with 6,000; low in PLAYING ends the step and ends MESSAGE-TIMEOUT for the message.
MESSAGE_TIMER_EXPIRY ends the step with MESSAGE-TIMEOUT, and pulses the stop strobe but in CLEARING. PAUSE_EXPIRY ends
the step. While its level is still the highest requested, a step that ends leads to the step the walk comes to, or,
where it comes to none, finishes the sequence: no resume point, and another level. With another level the highest, the
sequence leaving has the walk's next step as its resume point, or step 1 in RESTART, and the other is served: IDLE or
MANUAL with no step, a sequence at the step that the walk from its own resume point comes to, or finished. A step
entered starts with its own values (SequencesWalkTheirSteps). The end of a TEST step withdraws TEST and finishes it.
MESSAGE_STROBE_END lowers a strobe that has stood its tick, and changes nothing else but by the end of the event. The
flag that the busy level is fresh is log 3, the resume point at the step where the walk arrives log 21, the TEST step
log 25. Otherwise nothing changes (log 2). (R145, R146, R147, R148, R149, R152). -/
def Obligations.SpeakerStepsAct : Prop :=
  (∀ s : State, s.actsAs .floor = true → s.speaker.highest s.speakerView = s.speaker.level →
    (s.speaker.exchange = .clearing → s.speaker.busyFresh = true → s.pins.busy = false →
      ∃ t, exec .busyLevel s = .next t ∧ t.speaker.exchange = .starting ∧ t.speaker.exchangeTimer = some 50
        ∧ t.speaker.lines = s.speaker.message ∧ t.speaker.play = some 1 ∧ t.speaker.step = s.speaker.step)
    ∧ (s.speaker.exchange = .starting → s.speaker.busyFresh = true → s.pins.busy = true →
      ∃ t, exec .busyLevel s = .next t ∧ t.speaker.exchange = .playing ∧ t.speaker.exchangeTimer = some 6000
        ∧ t.speaker.step = s.speaker.step)
    ∧ (s.speaker.play = some 0 ∨ s.speaker.stop = some 0 →
      ∃ t, exec .messageStrobeEnd s = .next t
        ∧ t.speaker = { s.speaker with
            play := if s.speaker.play = some 0 then none else s.speaker.play,
            stop := if s.speaker.stop = some 0 then none else s.speaker.stop, source := t.speaker.source }
        ∧ ∀ p : Part, p ∉ Part.reactions → p.same s t))
  ∧ (∀ (i : Nat) (s : State), s.actsAs .floor = true → s.speaker.step = some i →
    (s.speaker.pause = some 0 →
        ∃ t, exec .pauseExpiry s = .next t ∧ s.movesOn i false none t ∧ ∀ p : Part, p ∉ Part.reactions → p.same s t)
    ∧ (s.speaker.exchange = .playing → s.speaker.busyFresh = true → s.pins.busy = false →
        ∃ t, exec .busyLevel s = .next t ∧ s.movesOn i false none t ∧ t.faults.holds .messageTimeout s.speaker.message = false)
    ∧ (s.speaker.exchange ≠ .idle → s.speaker.exchangeTimer = some 0 →
        ∃ t, exec .messageTimerExpiry s = .next t
          ∧ s.movesOn i (decide (s.speaker.exchange ≠ .clearing)) none t
          ∧ (s.speaker.exchange ≠ .clearing → t.speaker.stop = some 1)
          ∧ (s.faults.finds .messageTimeout s.speaker.message = true →
              t.faults.holds .messageTimeout s.speaker.message = true)))
  ∧ (∀ s : State,
      (s.speaker.pause ≠ some 0 → exec .pauseExpiry s = .next s)
      ∧ (s.speaker.busyFresh = false → exec .busyLevel s = .next s)
      ∧ (s.speaker.exchangeTimer ≠ some 0 → exec .messageTimerExpiry s = .next s)
      ∧ (s.speaker.play ≠ some 0 → s.speaker.stop ≠ some 0 → exec .messageStrobeEnd s = .next s))

/-- The walk over six steps from step i, with the note that a step has taken time: TONE (but in NOTICE), PAUSE and
MESSAGE m above 0 come in hand and set the note; TONE in NOTICE and MESSAGE 0 pass to the next step; after step 6 and
at LOOP it goes on at step 1 with the note cleared, or, with the note clear, finishes; LOOP in NOTICE and STOP finish.
It goes on from a step that has ended at the next one, noted. A step is entered with the source of its kind and a
count of at least 1: TONE n waits for a cycle start and counts n ends, PAUSE n runs 100 x n tick events, MESSAGE m is
in CLEARING with 50 and the stop strobe where busy is high or the event has raised that strobe, else in STARTING with
50, lines m and the play strobe. CADENCE_CYCLE_START, the other record not due: a TONE step of that cadence that waits
takes the cycle as its first; with cycle ends left it counts one; at the n-th it ends, and a TONE of that cadence
entered then takes this cycle as its first. A step of another kind or cadence goes on. (Logs 3, 21, 25 and 26 stand
behind this.) (R144, R145, R146, R147, R148, R149, R152). -/
def Obligations.SequencesWalkTheirSteps : Prop :=
  (∀ (notice : Bool) (steps : List SeqStep) (i : Nat) (took : Bool), steps.length = 6 → 1 ≤ i → i ≤ 6 →
    let walk (j : Nat) (noted : Bool) : Walk := walkFrom notice steps 14 j noted
    let step := steps.getD (i - 1) ⟨.stop, 0⟩
    let stops : Walk → Prop := fun w => w.hand = false
    let again : Prop := (took = true → walk i took = walk 1 false) ∧ (took = false → stops (walk i took))
    let passes : Prop := (i < 6 → walk i took = walk (i + 1) took) ∧ (i = 6 → again)
    let inHand : Prop := walk i took = ⟨i, true, true⟩
    (step.kind = .tone → if notice then passes else inHand)
    ∧ (step.kind = .message → if step.arg = 0 then passes else inHand)
    ∧ (step.kind = .pause → inHand)
    ∧ (step.kind = .loop → if notice then stops (walk i took) else again)
    ∧ (step.kind = .stop → stops (walk i took))
    ∧ (i < 6 → walkAfter notice steps i = walk (i + 1) true) ∧ (i = 6 → walkAfter notice steps i = walk 1 false))
  ∧ (∀ (k : CadenceKind) (i : Nat) (s : State), s.actsAs .floor = true → (s.cadence.record k).cycleDue = true →
    (s.cadence.record k).run = .running →
    (s.cadence.record (match k with | .alert => .evacuate | .evacuate => .alert)).cycleDue = false →
    s.speaker.step = some i →
    let p := s.speaker
    let mine := p.stepKind s.speakerView = some .tone ∧ p.level.cadence = some k
    let highest := p.highest s.speakerView = p.level
    (mine → highest → p.waiting = true →
      ∃ t, exec .cadenceCycleStart s = .next t
        ∧ t.speaker = { p with waiting := false, source := .tone })
    ∧ (mine → highest → p.waiting = false → 2 ≤ p.cycles →
      ∃ t, exec .cadenceCycleStart s = .next t
        ∧ t.speaker = { p with cycles := p.cycles - 1, source := .tone })
    ∧ (mine → p.waiting = false → p.cycles ≤ 1 →
      ∃ t, exec .cadenceCycleStart s = .next t ∧ s.movesOn i false (some k) t)
    ∧ (¬ mine → highest →
      ∃ t, exec .cadenceCycleStart s = .next t ∧ t.speaker = { p with source := t.speaker.source }))

/-- At a FLOOR station. CADENCE_CYCLE_START for a due record: a RUNNING one starts at position 0 with the tick count
as its cycle start and no fixed correction, and a leader in RUN queues a MARK with its cycle length (the EVACUATE
MARK, when both do, R158); a STOPPING one discards its position and corrections, also one that had begun no cycle (log
22). An on-pulse that begins, with the cycle or at a CADENCE_PULSE_BOUNDARY, rings the bell exactly when its record is
the bell cadence (EVACUATE on an EVACUATE floor, ALERT on an ALERT floor with s_e even) and the bell is low and has
been for half a half-period or since LISTEN; on an EVACUATE floor one of the EVACUATE record starts the strobe. At the
end of an on-pulse a bell that shows it falls; at the last, the pending correction is fixed. STROBE_PULSE_END and
STANDING_LAPSE end the strobe and the standing. Both records taken in one event is log 26; the flags of what is due
are log 3. Otherwise nothing changes (log 2). (R28, R155, R156, R157, R158). -/
def Obligations.CadenceEventsAct : Prop :=
  let rings (k : CadenceKind) (s : State) : Prop :=
    (match k with | .alert => s.ownPhase = .alert ∧ s.regime.silence % 2 = 0 | .evacuate => s.ownPhase = .evacuate)
    ∧ s.cadence.bell = none ∧ ∀ n, s.cadence.bellLow = some n → ((s.image.cadence k).half + 1) / 2 ≤ n
  let flashes (k : CadenceKind) (s : State) : Prop := k = .evacuate ∧ s.ownPhase = .evacuate
  let begins (k : CadenceKind) (s t : State) : Prop :=
    (rings k s → t.cadence.bell = some k) ∧ (¬ rings k s → t.cadence.bell = s.cadence.bell)
    ∧ (flashes k s → t.cadence.strobe = some (min s.image.strobeWidth (s.image.cadence k).half))
    ∧ (¬ flashes k s → t.cadence.strobe = s.cadence.strobe)
  (∀ (k : CadenceKind) (s : State), s.actsAs .floor = true → (s.cadence.record k).cycleDue = true →
    let other := s.cadence.record (match k with | .alert => .evacuate | .evacuate => .alert)
    let queues (c : Cadence) : Bool :=
      c.cycleDue && c.run == .running && !c.follower && s.station.lifecycle == .run
    ((s.cadence.record k).run = .running →
      ∃ t, exec .cadenceCycleStart s = .next t
        ∧ (t.cadence.record k).pos = some 0 ∧ (t.cadence.record k).cycleStart = s.time.tick
        ∧ (t.cadence.record k).fixed = none ∧ (t.cadence.record k).pending = (s.cadence.record k).pending
        ∧ (queues (s.cadence.record k) = true → (k = .alert → queues other = false) →
            let m : MarkEntry := { kind := k, cycle := (s.image.cadence k).cycle, collisions := 0, standing := .pending,
                                   overtaken := false }
            (s.slots.markFlies = false → t.slots.mark = some m)
            ∧ (s.slots.markFlies = true → t.slots.mark = s.slots.mark ∧ t.slots.successor = some m))
        ∧ (queues (s.cadence.record k) = false → queues other = false →
            t.slots.mark = s.slots.mark ∧ t.slots.successor = s.slots.successor)
        ∧ (other.cycleDue = false ∨ other.run ≠ .running → begins k s t)
        ∧ (rings k s → t.cadence.bell = some k)
        ∧ (flashes k s → t.cadence.strobe = some (min s.image.strobeWidth (s.image.cadence k).half)))
    ∧ ((s.cadence.record k).run = .stopping →
      ∃ t, exec .cadenceCycleStart s = .next t ∧ (t.cadence.record k).pos = none
        ∧ (t.cadence.record k).pending = none ∧ (t.cadence.record k).fixed = none
        ∧ (runCondition k s.ownPhase = false → (t.cadence.record k).run = .stopped)))
  ∧ (∀ (k : CadenceKind) (n : Nat) (s : State), s.actsAs .floor = true → (s.cadence.record k).boundaryDue = true →
    (s.cadence.record k).pos = some n →
    ∃ t, exec (.cadencePulseBoundary k) s = .next t ∧ (t.cadence.record k).boundaryDue = false
      ∧ (t.cadence.record k).pos = some n
      ∧ (n / (s.image.cadence k).half % 2 = 1 →
          t.cadence.bell = (if s.cadence.bell = some k then none else s.cadence.bell)
          ∧ (s.cadence.bell = some k → t.cadence.bellLow = some 0)
          ∧ (n = (s.image.cadence k).half * (2 * (s.image.cadence k).k - 1) → ∀ e,
              (s.cadence.record k).pending = some e →
              (t.cadence.record k).fixed = some e ∧ (t.cadence.record k).pending = none))
      ∧ (n / (s.image.cadence k).half % 2 = 0 → begins k s t)
      ∧ ∀ p : Part, p ∉ Part.reactions → p.same s t)
  ∧ (∀ s : State, s.actsAs .floor = true → s.cadence.strobe = some 0 →
    ∃ t, exec .strobePulseEnd s = .next t ∧ t.cadence.strobe = none ∧ t.cadence.bell = s.cadence.bell
      ∧ ∀ p : Part, p ∉ Part.reactions → p.same s t)
  ∧ (∀ (k : CadenceKind) (s : State), s.actsAs .floor = true → (s.cadence.record k).standing = some 0 →
    ∃ t, exec (.standingLapse k) s = .next t ∧ (t.cadence.record k).follower = false
      ∧ (t.cadence.record k).standing = none ∧ (t.cadence.record k).lastLower = (s.cadence.record k).lastLower
      ∧ ∀ p : Part, p ∉ Part.reactions → p.same s t)
  ∧ (∀ (k : CadenceKind) (s : State),
      (s.cadence.alert.cycleDue = false → s.cadence.evac.cycleDue = false → exec .cadenceCycleStart s = .next s)
      ∧ ((s.cadence.record k).boundaryDue = false → exec (.cadencePulseBoundary k) s = .next s)
      ∧ (s.cadence.strobe ≠ some 0 → exec .strobePulseEnd s = .next s)
      ∧ ((s.cadence.record k).standing ≠ some 0 → exec (.standingLapse k) s = .next s))

/-- What the engine makes of the requests at the end of an event. With the level in service the highest, nothing
changes but the source. With another the highest: a MESSAGE that MANUAL does not cut, and a TONE in an on-pulse, go
on; else the highest level is served, IDLE and MANUAL with no step in hand, a sequence at the step the walk from its
resume point (or step 1) comes to, entered with its own values, its resume point none again; the sequence that leaves
keeps the step in hand as its resume point, or step 1 in RESTART, and a message cut pulses the stop strobe. As the
regime becomes active the NOTICE and TEST requests go. A SILENCE or RESOUND of the own generation leaves speaker, bell
and cadences of an EVACUATE floor, once settled, as they were; a SILENCE that makes s_e odd takes ALERT out of the
requests and lets its sequence play again. (R143, R147, R148, R149, R150, R151). -/
def Obligations.DecisionsFollowTheRequests : Prop :=
  (∀ (view : SpeakerView) (p : Speaker) (became silenced : Bool),
    let q := p.react view became silenced
    became = true → q.testRequest = false ∧ q.noticeRequest = false)
  ∧ (∀ (view : SpeakerView) (p : Speaker),
    let top := p.highest view
    let q := p.react view false false
    let kind := p.stepKind view
    let pulse := (p.level = .alert ∧ view.alertPulse = true) ∨ (p.level = .evacuate ∧ view.evacPulse = true)
    let held := (kind = some .message ∧ top ≠ .manual) ∨ (kind = some .tone ∧ p.waiting = false ∧ pulse)
    let walk := walkFrom (top == .notice) (p.steps view top) 14 ((p.seq top).resume.getD 1)
      (if (p.seq top).resume.getD 1 = 1 then false else (p.seq top).took)
    ((top = p.level ∨ held) → q = { p with source := q.source })
    ∧ (top ≠ p.level → ¬ held →
        (top = .idle ∨ top = .manual ∨ walk.hand = true →
          q.level = top
          ∧ (top = .idle ∨ top = .manual → q.step = none ∧ q.exchange = .idle)
          ∧ (top ≠ .idle → top ≠ .manual → q.step = some walk.pos ∧ (q.seq top).resume = none
              ∧ (p.exchange = .idle → q.entered view false none))
          ∧ (∀ i, p.step = some i → p.level ∈ [Level.test, .notice, .alert, .evacuate] →
              (q.seq p.level).resume = some (if view.resumeStep then i else 1)))
        ∧ (p.exchange ≠ .idle → q.stop = some 1)))
  ∧ (∀ (line : Samples) (f : Frame) (e : Nat) (s : State), s.station.role = some .floor → s.settled → s.decided →
    s.regime.generation = some f.generation → s.ownPhase = .evacuate →
    (s.cadence.alert.cycleDue = false ∧ s.cadence.evac.cycleDue = false ∧ s.cadence.alert.boundaryDue = false
      ∧ s.cadence.evac.boundaryDue = false) →
    (s.takes line f (.silence e) → ∃ t, exec (.silence line) s = .next t ∧ t.cadence = s.cadence
        ∧ t.speaker = { s.speaker with alertSeq := t.speaker.alertSeq })
    ∧ (s.takes line f (.resound e) → ∃ t, exec (.resound line) s = .next t ∧ t.cadence = s.cadence
        ∧ t.speaker = { s.speaker with alertSeq := t.speaker.alertSeq }))
  ∧ (∀ (line : Samples) (f : Frame) (e : Nat) (s : State), s.station.role = some .floor →
    s.regime.generation = some f.generation → s.ownPhase = .alert → s.regime.silence % 2 = 0 →
    s.regime.silence < e → e % 2 = 1 → s.takes line f (.silence e) →
    ∃ t, exec (.silence line) s = .next t ∧ t.regime.silence = e ∧ t.speaker.alertSeq.finished = false
      ∧ t.speaker.highest t.speakerView ≠ .alert ∧ t.bellCadence = none)

/-- At a CONSOLE in LISTEN or RUN with select active, no request taken and at most the start of these bytes clocked
in: READ ENTRY, BANK, REGIME, FAULTS, COUNTERS, RESULT and CONSOLE keep the request, fix a response of 15, 12, 74,
100, 21, 14 and 8 bytes with every field of the layout of 10-1, and change no other state; data out holds 0x00 in the
byte slots of the request, the response in the slots after it, and 0x00 in every slot beyond. A floor above 47, bank
above 1 or console above 3 is answered 0xFF and zeros; UNKNOWN_REQUEST with the one byte 0xFF. The request taken
whole, and not taken when the bytes clocked in are not its start, is log 27; otherwise the requests change nothing
(log 2). The bits that the layout does not name are log 4. (R160, R161, 10-1, 2-5). -/
def Obligations.ReadsAnswerFromTheState : Prop :=
  let presence (p : Presence) : Nat := match p with | .unknown => 0 | .live => 1 | .silent => 2
  let standing (p : PeerStanding) : Nat := match p with | .current => 0 | .awaiting => 1 | .stale => 2
  let common (b : PeerBase) (r : List Byte) : Prop :=
    (r.getD 2 0).toNat % 4 = presence b.presence ∧ (r.getD 2 0).toNat / 4 % 4 = standing b.standing
    ∧ (r.getD 2 0).getLsbD 4 = b.listenComplete ∧ (r.getD 2 0).getLsbD 5 = b.paramDisagree
    ∧ r.getD 3 0 = BitVec.ofNat 8 b.age ∧ r.getD 4 0 = BitVec.ofNat 8 b.digest
    ∧ r.getD 5 0 = BitVec.ofNat 8 b.faultCount ∧ r.getD 6 0 = BitVec.ofNat 8 b.worstFault
  let pair (r : List Byte) (at_ value : Nat) : Prop :=
    r.getD at_ 0 = BitVec.ofNat 8 (value / 256) ∧ r.getD (at_ + 1) 0 = BitVec.ofNat 8 value
  (∀ s : State, s.actsAs .console = true → s.link.selected = true → s.link.taken = false →
    let answers (c : Instr) (bytes : List Byte) (holds : List Byte → Prop) : Prop :=
      s.link.buffer.isPrefixOf bytes = true →
      ∃ (t : State) (r : List Byte), exec c s = .next t
        ∧ t = { s with link := { s.link with taken := true, buffer := bytes, response := r } } ∧ holds r
        ∧ ∀ n, t.outputs.linkSlot n = some (if n < bytes.length then 0 else r.getD (n - bytes.length) 0)
    (∀ floor : Byte, answers (.readEntry floor) [1, floor] (fun r => r.length = 15
      ∧ (floor.toNat ≤ 47 →
          let e := s.floorEntry floor.toNat
          r.getD 0 0 = 1 ∧ r.getD 1 0 = floor ∧ common e.base r ∧ (r.getD 2 0).getLsbD 6 = e.disagree
          ∧ (∀ z < 8, (r.getD (7 + z / 2) 0).toNat / 16 ^ (1 - z % 2) % 16
              = 2 * (e.zones.at z ZoneReport.quiet).state.code + (e.zones.at z ZoneReport.quiet).condition.toNat)
          ∧ (r.getD 11 0).getLsbD 0 = e.alarmLatch ∧ (r.getD 11 0).getLsbD 1 = e.lobbyLatch
          ∧ (r.getD 11 0).toNat / 4 % 4 = e.disagreements % 4
          ∧ (r.getD 12 0).toNat = e.phase.code * 64 + e.level.code * 8 + e.source.code
          ∧ r.getD 13 0 = BitVec.ofNat 8 e.authority
          ∧ (∀ i < 4, (r.getD 14 0).toNat / 4 ^ (3 - i) % 4 = (e.stairs.at i .locked).code))
      ∧ (47 < floor.toNat → r = 0xFF :: List.replicate 14 0)))
    ∧ (∀ bank : Byte, answers (.readBank bank) [2, bank] (fun r => r.length = 12
      ∧ (bank.toNat ≤ 1 →
          let e := s.bankEntry bank.toNat
          r.getD 0 0 = 2 ∧ r.getD 1 0 = bank ∧ common e.base r
          ∧ (∀ c < 4,
              let x := e.cars.at c CarReport.rest
              (r.getD (7 + c) 0).toNat = x.state.code * 32 + x.target.code * 8 + x.late.toNat * 4
                + x.restorePending.toNat * 2 + x.inputFault.toNat)
          ∧ r.getD 11 0 = BitVec.ofNat 8 e.restoreRefused)
      ∧ (1 < bank.toNat → r = 0xFF :: List.replicate 11 0)))
    ∧ (∀ console : Byte, answers (.readConsole console) [9, console] (fun r => r.length = 8
      ∧ (console.toNat ≤ 3 → r.getD 0 0 = 9 ∧ r.getD 1 0 = console ∧ common (s.consoleEntry console.toNat).base r
          ∧ (r.getD 7 0).getLsbD 0 = (s.consoleEntry console.toNat).linkAlive)
      ∧ (3 < console.toNat → r = 0xFF :: List.replicate 7 0)))
    ∧ answers .readRegime [3] (fun r => (s.regime.origins.length ≤ 8 → r.length = 74)
      ∧ r.getD 0 0 = 3 ∧ (r.getD 1 0).getLsbD 0 = s.regime.generation.isNone
      ∧ (r.getD 1 0).getLsbD 1 = s.regime.general ∧ (r.getD 1 0).getLsbD 2 = s.regime.active
      ∧ r.getD 2 0 = s.regime.generation.getD 0 ∧ r.getD 3 0 = BitVec.ofNat 8 s.regime.hold
      ∧ r.getD 4 0 = BitVec.ofNat 8 s.regime.silence ∧ r.getD 5 0 = BitVec.ofNat 8 s.regime.origins.length
      ∧ (∀ f < 48, (r.getD (6 + f / 4) 0).toNat / 4 ^ (3 - f % 4) % 4 = (s.phaseOf f).code)
      ∧ (∀ j < 8,
          (∀ o, s.regime.origins[j]? = some o →
            r.getD (18 + 7 * j) 0 = BitVec.ofNat 8 (o.origin + if o.complete then 128 else 0)
            ∧ pair r (19 + 7 * j) o.elapsed ∧ pair r (21 + 7 * j) o.applied
            ∧ r.getD (23 + 7 * j) 0 = BitVec.ofNat 8 o.upEdge ∧ r.getD (24 + 7 * j) 0 = BitVec.ofNat 8 o.downEdge)
          ∧ (s.regime.origins[j]? = none → ∀ k < 7, r.getD (18 + 7 * j + k) 0 = 0)))
    ∧ answers .readFaults [4] (fun r => (s.faults.records.length ≤ 16 → r.length = 100) ∧ r.getD 0 0 = 4
      ∧ r.getD 1 0 = BitVec.ofNat 8 (s.faults.records.filter (fun x => x.active)).length
      ∧ r.getD 2 0 = BitVec.ofNat 8 s.faults.overflow ∧ r.getD 3 0 = BitVec.ofNat 8 s.faults.records.length
      ∧ (∀ j < 16,
          (∀ x, s.faults.records[j]? = some x →
            r.getD (4 + 6 * j) 0 = BitVec.ofNat 8 x.kind.code ∧ r.getD (5 + 6 * j) 0 = BitVec.ofNat 8 x.subject
            ∧ r.getD (6 + 6 * j) 0 = (if x.active then 1 else 0) ∧ r.getD (7 + 6 * j) 0 = BitVec.ofNat 8 x.count
            ∧ pair r (8 + 6 * j) x.firstSeen.toNat)
          ∧ (s.faults.records[j]? = none → ∀ k < 6, r.getD (4 + 6 * j + k) 0 = 0)))
    ∧ answers .readCounters [5] (fun r => r.length = 21 ∧ r.getD 0 0 = 5
      ∧ (let l := s.line
         pair r 1 l.accepted ∧ pair r 3 l.crcError ∧ pair r 5 l.stuffError ∧ pair r 7 l.jamSeen
         ∧ pair r 9 l.badLength ∧ pair r 11 l.unknownKind ∧ pair r 13 l.sent ∧ pair r 15 l.collisions
         ∧ pair r 17 l.dropped)
      ∧ r.getD 19 0 = BitVec.ofNat 8 s.line.windowCount ∧ (r.getD 20 0).getLsbD 0 = s.line.degraded)
    ∧ answers .readResult [7] (fun r => r.length = 14 ∧ r.getD 0 0 = 7
      ∧ r.getD 1 0 = BitVec.ofNat 8 s.link.result.number ∧ r.getD 2 0 = BitVec.ofNat 8 s.link.result.kind
      ∧ r.getD 3 0 = (match s.link.result.outcome with
          | .empty => 0 | .queued => 1 | .sent => 2 | .dropped => 3 | .refused => 4)
      ∧ r.getD 4 0 = (match s.link.result.reason with
          | .none => 0 | .busy => 1 | .notReady => 2 | .alarmPresent => 3 | .regimeActive => 4
          | .notApplicable => 5 | .epochLimit => 6 | .authority => 7 | .argument => 8)
      ∧ (r.getD 5 0).getLsbD 0 = s.link.keeping ∧ (r.getD 5 0).getLsbD 1 = s.link.keep.isSome
      ∧ pair r 6 s.link.authorityNumber
      ∧ (∀ f < 48, (r.getD (13 - f / 8) 0).getLsbD (f % 8) = s.link.keepMask.getLsbD f))
    ∧ (∀ code : Byte, code.toNat = 0 ∨ 9 < code.toNat → answers (.unknownRequest code) [code] (fun r => r = [0xFF])))
  ∧ (∀ (b : Byte) (s : State), ∀ q ∈ [(Instr.readEntry b, [1, b]), (.readBank b, [2, b]), (.readRegime, [3]),
        (.readFaults, [4]), (.readCounters, [5]), (.readResult, [7]), (.readConsole b, [9, b]), (.unknownRequest b, [b])],
      s.actsAs .console = false ∨ s.link.selected = false ∨ s.link.taken = true
        ∨ s.link.buffer.isPrefixOf q.2 = false → exec q.1 s = .next s)

/-- TICK in LISTEN or RUN, once everything still due has been taken in the order of log 3 (u; u is s itself where no
timed command has anything to do). Every timer that runs goes down by one: listen, TAKE hold-off, heartbeat, spacing,
zone stages, stair mismatch and held-open, car recall, pause, exchange, play and stop strobes, authority keep, link
keep, KEEP period, lamps, strobe and standings. Each classified zone compares the class of its reading with its
candidate, each present stair and car its three and five lines; runs go up by one to 4, or start at 1 with a new
candidate. A started cycle advances one position; its boundary or end is then due, and so is the first cycle of a run.
The busy level is read afresh while an exchange is on. In HALTED the half period of the FAULT lamp runs by one, a half
period run out and not yet taken turning the lamp over and starting the next of 25 first (log 3), and every other
output is at its reset value. (R2, R5, R57, R58, R115, R127, R147, R155, R158). -/
def Obligations.TickRunsTimersAndSamples : Prop :=
  let run (x : Timer) : Timer := x.map (fun n => n - 1)
  let sampled (level : Bool) (d d' : Debounced) : Prop :=
    d'.accepted = d.accepted ∧ d'.candidate = some level
    ∧ d'.run = (if d.candidate = some level then min 4 (d.run + 1) else 1)
  (∀ (pins : Inputs) (s : State), s.acts = true →
    let u := s.caughtUp
    ∃ t, exec (.tick pins) s = .next t
      ∧ t.station.listenTimer = run u.station.listenTimer ∧ t.station.takeHoldOff = u.station.takeHoldOff - 1
      ∧ t.builder.heartbeat = run u.builder.heartbeat ∧ t.builder.spacing = run u.builder.spacing
      ∧ t.speaker = { u.speaker with
          pause := run u.speaker.pause, exchangeTimer := run u.speaker.exchangeTimer,
          play := run u.speaker.play, stop := run u.speaker.stop, busyFresh := u.speaker.exchange != .idle }
      ∧ t.authority = { u.authority with keep := run u.authority.keep }
      ∧ t.link = { u.link with keep := run u.link.keep, period := run u.link.period }
      ∧ t.lamps = { u.lamps with
          runFlash := run u.lamps.runFlash, alarmFlash := run u.lamps.alarmFlash,
          haltFlash := run u.lamps.haltFlash, line := run u.lamps.line }
      ∧ (∀ z < 8,
          let was := u.zone z
          let now := t.zone z
          let class_ : LoopClass :=
            let reading := (pins.loops.at z 0).toNat
            if reading ≤ 19 then .short else if reading ≤ 89 then .alarm else if reading ≤ 169 then .normal else .opened
          now.state = was.state ∧ now.accepted = was.accepted ∧ now.stage = run was.stage
          ∧ (if u.station.role = some .floor ∧ was.kind ≠ .unused
                ∧ was.state ∈ [ZoneState.normal, .verifyConfirm, .alarm, .fault] then
              now.candidate = some class_
              ∧ now.run = (if was.candidate = some class_ then min 4 (was.run + 1) else 1)
            else now.candidate = was.candidate ∧ now.run = was.run))
      ∧ (∀ i < 4,
          let was := u.stair i
          let now := t.stair i
          now.mismatch = run was.mismatch ∧ now.heldOpen = run was.heldOpen ∧ now.state = was.state
          ∧ (if u.station.role = some .floor ∧ was.present = true then
              sampled (pins.door.at i false) was.door now.door
              ∧ sampled (pins.feedback.at i false) was.feedback now.feedback
              ∧ sampled (pins.key.at i false) was.key now.key
            else now.door = was.door ∧ now.feedback = was.feedback ∧ now.key = was.key))
      ∧ (∀ c < 4,
          let was := u.car c
          let now := t.car c
          now.recallTimer = run was.recallTimer ∧ now.state = was.state
          ∧ (if u.station.role = some .lift ∧ was.present = true then
              sampled (decide (128 ≤ (pins.loops.at (2 * c) 0).toNat)) was.autoService now.autoService
              ∧ sampled (decide (128 ≤ (pins.loops.at (2 * c + 1) 0).toNat)) was.doorsOpen now.doorsOpen
              ∧ sampled (pins.feedback.at c false) was.atPrimary now.atPrimary
              ∧ sampled (pins.door.at c false) was.atAlternate now.atAlternate
              ∧ sampled (pins.key.at c false) was.ffKey now.ffKey
            else ∀ k, now.input k = was.input k))
      ∧ (u.station.role = some .floor →
          t.cadence.bell = u.cadence.bell ∧ t.cadence.strobe = run u.cadence.strobe
          ∧ t.cadence.bellLow = (if u.cadence.bell.isSome then u.cadence.bellLow
              else u.cadence.bellLow.map (fun n => min 255 (n + 1)))
          ∧ ∀ k : CadenceKind,
              let p := u.image.cadence k
              let half := (p.p + 1) * (p.d + 1)
              let was := u.cadence.record k
              let now := t.cadence.record k
              let length := (((half * (2 * p.k + p.g) : Nat) : Int) + was.fixed.getD 0).toNat
              now.standing = run was.standing ∧ now.run = was.run
              ∧ (was.run = .stopped → now.pos = was.pos ∧ now.cycleDue = was.cycleDue
                  ∧ now.boundaryDue = was.boundaryDue)
              ∧ (was.run ≠ .stopped → was.pos = none → now.pos = none ∧ now.cycleDue = true)
              ∧ (∀ n, was.run ≠ .stopped → was.pos = some n →
                  now.pos = some (n + 1) ∧ now.cycleDue = decide (length ≤ n + 1)
                  ∧ now.boundaryDue = decide (n + 1 < length ∧ n + 1 ≤ half * (2 * p.k - 1) ∧ (n + 1) % half = 0))))
  ∧ (∀ s : State, (∀ c ∈ timedCommands, exec c s = .next s) → s.caughtUp = s)
  ∧ (∀ (pins : Inputs) (s : State), s.station.lifecycle = .halted →
    ∃ t, exec (.tick pins) s = .next t
      ∧ t.lamps.haltLit = (if s.lamps.haltFlash = some 0 then !s.lamps.haltLit else s.lamps.haltLit)
      ∧ t.lamps.haltFlash = (if s.lamps.haltFlash = some 0 then some 24 else run s.lamps.haltFlash)
      ∧ t.outputs = { Outputs.atReset with faultLamp := t.lamps.haltLit })

/-- LINK_SELECT_ACTIVE at a CONSOLE in LISTEN or RUN with select inactive: a transaction begins with no request taken
and no response, holding the bytes clocked in of a request not yet taken. LINK_SELECT_INACTIVE: select is inactive,
and the partial request and the response are lost; data out is released. LINK_KEEP taken: the link keep timer restarts
at 500 tick events, and the response is the echo 0x08. LINK_KEEP_EXPIRY with the timer run out: the timer stops,
keeping is clear, the keep mask empty, the KEEP period stopped. KEEP_PERIOD_EXPIRY while keeping with the period run
out: the period restarts at 100 x floor(keep limit / 3) tick events, at least 100, and unless a KEEP stands in the
FIFO one is appended with the authority number and the own generation, for all. Bytes clocked in given with the
selection are log 27; otherwise nothing changes (log 2). (R160, R162, R167, R168). -/
def Obligations.LinkTransactionsAndKeeping : Prop :=
  (∀ (clocked : List Byte) (s : State),
    (s.actsAs .console = true →
      (s.link.selected = false → partialRequest clocked = true →
        ∃ t, exec (.linkSelectActive clocked) s = .next t
          ∧ t = { s with link := { s.link with selected := true, taken := false, buffer := clocked, response := [] } }
          ∧ ∀ n, t.outputs.linkSlot n = some 0)
      ∧ (s.link.selected = true ∨ partialRequest clocked = false → exec (.linkSelectActive clocked) s = .next s)
      ∧ (∃ t, exec .linkSelectInactive s = .next t
          ∧ t = { s with link := { s.link with selected := false, taken := false, buffer := [], response := [] } }
          ∧ ∀ n, t.outputs.linkSlot n = none))
    ∧ (s.actsAs .console = false →
        exec (.linkSelectActive clocked) s = .next s ∧ exec .linkSelectInactive s = .next s))
  ∧ (∀ s : State, s.actsAs .console = true → s.link.selected = true → s.link.taken = false →
    s.link.buffer.isPrefixOf [8] = true →
    ∃ t, exec .linkKeep s = .next t
      ∧ t.link = { s.link with taken := true, buffer := [8], response := [8], keep := some 500 }
      ∧ ∀ p : Part, p ∉ .link :: Part.reactions → p.same s t)
  ∧ (∀ s : State, s.actsAs .console = false ∨ s.link.selected = false ∨ s.link.taken = true
      ∨ s.link.buffer.isPrefixOf [8] = false → exec .linkKeep s = .next s)
  ∧ (∀ s : State, s.actsAs .console = true → s.link.keep = some 0 →
    ∃ t, exec .linkKeepExpiry s = .next t
      ∧ t.link = { s.link with keep := none, keeping := false, keepMask := 0, period := none }
      ∧ ∀ p : Part, p ∉ .link :: Part.reactions → p.same s t)
  ∧ (∀ s : State, s.link.keep ≠ some 0 → exec .linkKeepExpiry s = .next s)
  ∧ (∀ s : State, s.actsAs .console = true → s.link.keeping = true → s.link.period = some 0 →
    ∃ t, exec .keepPeriodExpiry s = .next t
      ∧ t.link = { s.link with period := some (max 100 (100 * (s.image.keepLimit / 3))) }
      ∧ t.slots.fifo = s.slots.fifo ++ (if s.slots.fifo.any (fun e => !e.issued) then [] else
          [{ issued := false, command := .keep s.link.authorityNumber,
             generation := s.regime.generation.getD 0, dest := 63, collisions := 0, standing := .pending }])
      ∧ ∀ p : Part, p ∉ [.link, .fifo] ++ Part.reactions → p.same s t)
  ∧ (∀ s : State, s.link.keeping = false ∨ s.link.period ≠ some 0 → exec .keepPeriodExpiry s = .next s)

/-- For each ISSUE command (issueGeneral, issueHold, issueResume, issueSilence, issueResound, issueAllClear,
issueZoneDisable, issueZoneEnable, issueTake, issueGive, issueTestAnnounce, issueLiftRestore, issueBadKind) taken in a
transaction: with a command still QUEUED the record stays and the response says REFUSED, BUSY and its number. Else the
issue counter advances, and the record takes the number, the kind and either REFUSED with the first reason of NOT-
READY, ARGUMENT, REGIME-ACTIVE, NOT-APPLICABLE, EPOCH-LIMIT, ALARM-PRESENT, AUTHORITY, nothing being queued, or QUEUED
with one entry appended to the FIFO; the response gives outcome, reason and number. With no transaction open, a
request taken in it before, or other bytes clocked in, nothing changes (R160, logs 2 and 27). (R160, R163, R164,
R170). -/
def Obligations.IssueIsCheckedInOrder : Prop :=
  ∀ (c : Instr) (i : Issue) (s : State), c.asks = some i →
    (s.actsAs .console = true → s.link.selected = true → s.link.taken = false →
      s.link.buffer.isPrefixOf i.bytes = true →
      let notReady := s.station.lifecycle = .listen ∨ s.regime.generation = none
        ∨ ((∃ m, i = .take m) ∧ 0 < s.station.takeHoldOff)
      let badMask (m : FloorMask) : Prop := m = 0 ∨ ∃ f < 48, m.getLsbD f = true ∧ s.image.inUse f = false
      let argument := (match i with
        | .zoneDisable f z => s.image.inUse f = false ∨ z = 0 ∨ 8 < z
        | .zoneEnable f z => s.image.inUse f = false ∨ z = 0 ∨ 8 < z
        | .take m => badMask m
        | .give m => badMask m
        | .testAnnounce m n => badMask m ∨ n = 0 ∨ 15 < n
        | .liftRestore b => 1 < b
        | .badKind _ => True
        | _ => False)
      let regimeActive := s.regime.active = true ∧ ((∃ m n, i = .testAnnounce m n) ∨ ∃ b, i = .liftRestore b)
      let notApplicable := (i = .hold ∧ s.regime.hold % 2 = 1) ∨ (i = .resume ∧ s.regime.hold % 2 = 0)
        ∨ (i = .silence ∧ s.regime.silence % 2 = 1) ∨ (i = .resound ∧ s.regime.silence % 2 = 0)
      let epochLimit := (i = .resume ∧ s.regime.hold = 255) ∨ (i = .resound ∧ s.regime.silence = 255)
      let alarmPresent := i = .allClear ∧ ∃ f < 48, ((s.floorEntry f).base.standing = .current
          ∨ (s.floorEntry f).base.presence = .silent)
        ∧ ∃ z < 8, ((s.floorEntry f).zones.at z ZoneReport.quiet).state = .alarm
          ∧ ((s.floorEntry f).zones.at z ZoneReport.quiet).condition = true
      let authority := ∃ m, i = .take m ∧ ∃ f < 48, m.getLsbD f = true ∧ (s.floorEntry f).authority ≠ 63
        ∧ (s.floorEntry f).authority ≠ s.station.address
      let number := (s.link.issueCounter + 1) % 256
      let refused (r : Reason) (t : State) : Prop :=
        t.link.result = ⟨number, i.kind, .refused, r⟩ ∧ t.link.issueCounter = number ∧ t.slots.fifo = s.slots.fifo
          ∧ t.link.response = [6, 4, BitVec.ofNat 8 r.code, BitVec.ofNat 8 number]
      ∃ t, exec c s = .next t ∧ t.link.taken = true
        ∧ (s.link.result.outcome = .queued → t.link.result = s.link.result
            ∧ t.link.issueCounter = s.link.issueCounter ∧ t.slots.fifo = s.slots.fifo
            ∧ t.link.response = [6, 4, 1, BitVec.ofNat 8 s.link.result.number])
        ∧ (s.link.result.outcome ≠ .queued →
            (notReady → refused .notReady t)
            ∧ (¬ notReady → argument → refused .argument t)
            ∧ (¬ notReady → ¬ argument → regimeActive → refused .regimeActive t)
            ∧ (¬ notReady → ¬ argument → ¬ regimeActive → notApplicable → refused .notApplicable t)
            ∧ (¬ notReady → ¬ argument → ¬ notApplicable → epochLimit → refused .epochLimit t)
            ∧ (¬ notReady → alarmPresent → refused .alarmPresent t)
            ∧ (¬ notReady → ¬ argument → authority → refused .authority t)
            ∧ (¬ notReady → ¬ argument → ¬ regimeActive → ¬ notApplicable → ¬ epochLimit → ¬ alarmPresent →
                ¬ authority →
                t.link.result = ⟨number, i.kind, .queued, .none⟩ ∧ t.link.issueCounter = number
                ∧ (∃ e, t.slots.fifo = s.slots.fifo ++ [e] ∧ e.issued = true ∧ e.standing = .pending
                    ∧ e.collisions = 0)
                ∧ t.link.response = [6, 1, 0, BitVec.ofNat 8 number])))
    ∧ (s.actsAs .console = false ∨ s.link.selected = false ∨ s.link.taken = true
        ∨ s.link.buffer.isPrefixOf i.bytes = false → exec c s = .next s)

/-- An ISSUE that is queued appends the COMMAND of its kind: HOLD and RESUME with the hold epoch plus 1, SILENCE and
RESOUND with the silence epoch plus 1, TAKE with the authority number kept while keeping and the next one modulo
65,536 otherwise, LIFT RESTORE with the bank's address, and the others with the panel's arguments; ALL-CLEAR carries
the own generation plus 1 in its header and every other command the own generation; and the destination is the floor
for the zone commands, the bank's address for LIFT RESTORE, and 63 for the rest. (R165, R167, R41). -/
def Obligations.IssueFormsItsCommand : Prop :=
  ∀ (c : Instr) (i : Issue) (s t : State), c.asks = some i → exec c s = .next t → s.link.result.outcome ≠ .queued →
    t.link.result.outcome = .queued →
    ∃ e, t.slots.fifo = s.slots.fifo ++ [e]
      ∧ e.generation = (if i = .allClear then s.regime.generation.getD 0 + 1 else s.regime.generation.getD 0)
      ∧ (match i with
         | .general => e.command = .general ∧ e.dest = 63
         | .hold => e.command = .hold (s.regime.hold + 1) ∧ e.dest = 63
         | .resume => e.command = .resume (s.regime.hold + 1) ∧ e.dest = 63
         | .silence => e.command = .silence (s.regime.silence + 1) ∧ e.dest = 63
         | .resound => e.command = .resound (s.regime.silence + 1) ∧ e.dest = 63
         | .allClear => e.command = .allClear ∧ e.dest = 63
         | .zoneDisable f z => e.command = .zoneDisable z ∧ e.dest = f
         | .zoneEnable f z => e.command = .zoneEnable z ∧ e.dest = f
         | .take m => e.command = .take m (if s.link.keeping then s.link.authorityNumber
                                           else (s.link.authorityNumber + 1) % 65536) ∧ e.dest = 63
         | .give m => e.command = .give m ∧ e.dest = 63
         | .testAnnounce m n => e.command = .testAnnounce m n ∧ e.dest = 63
         | .liftRestore b => e.command = .liftRestore (48 + b) ∧ e.dest = 48 + b
         | .badKind _ => False)

/-- For rates with N below D and accumulators below their D. One spread tick: the up accumulator less N, plus D if
that is below 0, in which case there is one extra step; the up edge is the lower of H and u + W + extra; the same
downward with the higher of L and d - W - extra. Over any D ticks in a row an edge that stays within the limit moves
exactly W x D + N floors, and the accumulator is back where it was. (R99). -/
def Obligations.SpreadTickStepsBothEdges : Prop :=
  ∀ (i : Image) (r : Spread), i.up.n < i.up.d → i.down.n < i.down.d → r.accUp < i.up.d → r.accDown < i.down.d →
    (let up : Int := (r.accUp : Int) - i.up.n
     let down : Int := (r.accDown : Int) - i.down.n
     ((r.tick i).accUp : Int) = (if up < 0 then up + i.up.d else up)
     ∧ (r.tick i).upEdge = min i.high (r.upEdge + i.up.w + (if up < 0 then 1 else 0))
     ∧ ((r.tick i).accDown : Int) = (if down < 0 then down + i.down.d else down)
     ∧ ((r.tick i).downEdge : Int) = max (i.low : Int)
         ((r.downEdge : Int) - i.down.w - (if down < 0 then 1 else 0)))
    ∧ (let after := (List.range i.up.d).foldl (fun x _ => x.tick i) r
       after.accUp = r.accUp
       ∧ (r.upEdge + i.up.w * i.up.d + i.up.n ≤ i.high →
           after.upEdge = r.upEdge + i.up.w * i.up.d + i.up.n))
    ∧ (let after := (List.range i.down.d).foldl (fun x _ => x.tick i) r
       after.accDown = r.accDown
       ∧ (i.low + i.down.w * i.down.d + i.down.n ≤ r.downEdge →
           after.downEdge + i.down.w * i.down.d + i.down.n = r.downEdge))

/-- The laws of the phase vector, of the origin list and of the epochs and elapsed time: in every lawful state, if a
command other than RESET leaves the station in the generation it had, or finds it with its generation unset, whose
first adoption is no all-clear (R111), then every floor's phase is as high as before, GENERAL once set is set, the
epochs are as large as before, the origins stand at the head of the list in their order, each with at least its
elapsed count and at least as wide a band, and no refused floor is forgotten. A line command that brings several
frames could carry the generation round; it is one event of the receiver after another, in their order, and the law
holds of each. (R82, R93, R102, R103, R104, R111). -/
def Obligations.RegimeNeverShrinksInAGeneration : Prop :=
  (∀ (c : Instr) (s t : State), s.lawful → s.hearsOne c → exec c s = .next t → c ≠ .reset →
    (s.regime.generation = none ∨ t.regime.generation = s.regime.generation) → s.notShrunk t)
  ∧ (∀ (e : RxEvent) (s : State), s.lawful → s.acts = true →
    (s.regime.generation = none ∨ (s.rxEvent State.handOn e).regime.generation = s.regime.generation) →
    s.notShrunk (s.rxEvent State.handOn e))
  ∧ (∀ (c : Instr) (line : Samples) (s : State), c.samples = some line → s.acts = true → s.tx = .idle →
    exec c s = .next ((s.fed line).2.foldl (State.rxEvent State.handOn) { s with rx := (s.fed line).1 }))

/-- The laws of the zone state, of the peer table and of the stair release: unless the command is RESET or the end of
LOAD, or the station leaves the generation it had, an own zone in ALARM stays in ALARM or is DISABLED, a stored zone
of another floor in ALARM stays in ALARM or becomes DISABLED, a floor entry's alarm and lobby latches once set stay
set, and a present stair's release latch once set stays set. The same holds of each event of the receiver, so of a
line command that brings several frames. (R66, R81, R82, R120). -/
def Obligations.LatchesHoldUntilTheAllClear : Prop :=
  (∀ (c : Instr) (s t : State), s.lawful → s.hearsOne c → exec c s = .next t → c ≠ .reset →
    (∀ record pins, c ≠ .configLoadComplete record pins) →
    (s.regime.generation = none ∨ t.regime.generation = s.regime.generation) → s.latchesHeld t)
  ∧ (∀ (e : RxEvent) (s : State), s.lawful → s.acts = true →
    (s.regime.generation = none
      ∨ (s.rxEvent State.handOn e).regime.generation = s.regime.generation) →
    s.latchesHeld (s.rxEvent State.handOn e))

/-- For every STATUS record whose fields fit the layout, sent by a source of its role, for every COMMAND with
arguments in range sent to the destination of its kind, and for every MARK with a cycle of 2 to 65,535 and an offset
of at most half of it: the payload, taken apart as R43 to R45 lay down, is the same record. No field and no bit is
dropped. (3-2, R38, R41, R42, R43, R44, R45). -/
def Obligations.RecordsRoundTrip : Prop :=
  (∀ (r : StatusRecord) (source : Nat), sourceFits r.body.code source = true → r.hold ≤ 255 → r.silence ≤ 255 →
    r.digest ≤ 255 → r.faultCount ≤ 16 → r.worstFault ≤ 255 → r.origins.length ≤ 8 →
    (∀ o ∈ r.origins, o.1 ≤ 47 ∧ o.2 ≤ 65535) →
    (match r.body with
     | .floor _ _ _ authority _ changed _ => authority ≤ 255 ∧ changed ≤ 255
     | .lift _ refused => refused ≤ 255
     | .console _ => True) →
    takeStatus r.body.code source r.payload = some r)
  ∧ (∀ (c : Command) (dest : Nat),
    (match c with
     | .general => dest = 63
     | .hold e => dest = 63 ∧ e ≤ 255
     | .resume e => dest = 63 ∧ e ≤ 255
     | .silence e => dest = 63 ∧ e ≤ 255
     | .resound e => dest = 63 ∧ e ≤ 255
     | .allClear => dest = 63
     | .zoneDisable z => dest < 48 ∧ 1 ≤ z ∧ z ≤ 8
     | .zoneEnable z => dest < 48 ∧ 1 ≤ z ∧ z ≤ 8
     | .take _ n => dest = 63 ∧ n ≤ 65535
     | .keep n => dest = 63 ∧ n ≤ 65535
     | .give _ => dest = 63
     | .testAnnounce _ n => dest = 63 ∧ 1 ≤ n ∧ n ≤ 15
     | .liftRestore b => dest = b ∧ (b = 48 ∨ b = 49)) →
    takeCommand dest c.payload = some c)
  ∧ (∀ (m : MarkRecord) (source : Nat), source < 48 → 2 ≤ m.cycle → m.cycle ≤ 65535 → m.offset ≤ 255 →
    2 * m.offset ≤ m.cycle → takeMark source m.payload = some m)

/-- The law of the car at every command but RESET, in every lawful state: a present car with target ALTERNATE keeps it
or is in NORMAL; a car leaves FIREFIGHTER for NORMAL only with its restore pending and the regime inactive; and a car
enters NORMAL from RECALLING, PARKED or UNAVAILABLE only in a command in which an accepted LIFT RESTORE is heard, and
with the regime inactive. The same holds of each event of the receiver, so of a line command that brings several
frames. From every state in which it holds, a step keeps besides: a station that does not act has an inactive regime,
and at a LIFT station under an active regime every present car is out of NORMAL and, once the primary is compromised
(an origin, or a set lobby latch, at the primary recall floor), has another target. That holds at reset. (R92, R131,
R132, R136, R137, R138, R139). -/
def Obligations.LawOfTheCarIsKept : Prop :=
  (∀ (c : Instr) (s t : State), s.lawful → s.hearsOne c → exec c s = .next t → c ≠ .reset →
    s.carsHeld (∃ line e, c.hears = some line ∧ e ∈ (s.fed line).2 ∧ e.restores) t)
  ∧ (∀ (e : RxEvent) (s : State), s.lawful → s.acts = true → s.carsHeld e.restores (s.rxEvent State.handOn e))
  ∧ (∀ s t : State, s.recalled → step s = .next t → t.recalled) ∧ State.reset.recalled

/-- From every lawful state a step leaves a state in which, in RESET, LOAD and HALTED, nothing stands otherwise than
after pin reset but the timebase, the pins, what the loader has fixed, the FAULT lamp's flash and, from the release of
reset, the own entry (R90); what the manual gives no reset value for stands at that of log 6; and in LISTEN and RUN
the role is the address's and the image lies in its ranges. From every state in which they hold, a step keeps the line
law (the recessive run and the line counters saturate, the run of equal bits, the bits in hand and the sync check stay
within the receiver's widths) and the law of the fault list (at most 16 records, no kind and subject twice, counts of
1 to 255, and FOREIGN-COMMAND and ORIGIN-OVERFLOW never active, R173). (R1, R3, R4, R5, R8, R10, R16, R21, R22, R26,
R27, R171). -/
def Obligations.DormantBlocksAndCountsStayInBounds : Prop :=
  (∀ s t : State, s.lawful → step s = .next t → t.dormantLaw ∧ t.stationLaw)
  ∧ (∀ s t : State, step s = .next t →
    (s.lineLaw → t.lineLaw) ∧ (s.faults.lawful → t.faults.lawful))

/-- From every lawful state a step keeps the laws of the transmit slots and the console link: exactly the entry whose
frame is being sent is in flight, a collision count stays below 16, the snapshot stands for the flight of a STATUS, a
successor waits only behind a MARK in flight, the slots are empty outside RUN; the FIFO holds an ISSUE entry exactly
while the result reads QUEUED and at most one KEEP; the KEEP period runs exactly while keeping, and keeping needs the
link alive; a transaction whose request is not taken holds the start of one and no response, and none is held outside
a transaction (R160; the bytes clocked in are log 27). (R10, R28, R31, R34, R51, R160, R163, R167, R168). -/
def Obligations.SlotsAndLinkStayInStep : Prop :=
  ∀ s t : State, s.lawful → step s = .next t → t.slotsLaw ∧ t.linkLaw

/-- From every lawful state a step keeps: at most eight origins, no floor twice, each within L..H with L <= d <= o <=
u <= H; its edges and accumulators where k spread ticks from the onset bring them, every tick owed applied (k =
elapsed / T) but for a complete record, which takes none; every floor of the building STANDBY or higher while the
regime is active and EVACUATE under GENERAL, QUIET while it is inactive; without GENERAL exactly the floors d..u of
some band EVACUATE, and exactly those beyond every band and its margin STANDBY; floors outside QUIET; floors refused
only by a full list, under GENERAL; epochs within a byte. (R93, R94, R96, R98, R99, R100, R101, R102, R104). -/
def Obligations.RegimeLawIsKept : Prop :=
  ∀ s t : State, s.lawful → step s = .next t → t.regimeLaw

/-- From every lawful state a step keeps the field laws: kinds, masks and presence are the image's; unused zones,
absent stairs and cars, and the records of another role stand as after pin reset; a stage timer runs exactly in its
stages; a stair's state is the one its record gives and a release unlocks; a car has no target exactly in NORMAL,
times exactly in RECALLING, and its input fault follows its two floor inputs, and a restore is pending only in
FIREFIGHTER with the regime inactive. It keeps the laws of sound and of the peer table: the speaker never TENANT while
the regime is active; authority held by one of the four consoles or none, exactly while its keep timer runs (R153,
R154); speaker, authority and cadences of other roles as after pin reset (R142, R155); the own entry LIVE, age 0 and
CURRENT; a lobby latch only with the alarm latch; DISAGREE exactly at three disagreements; ages and the restore-
refused count within a byte (R86). (R56, R58, R72, R75, R82, R88, R114, R121, R126, R133, R139, R144). -/
def Obligations.FieldSoundAndPeersStayLawful : Prop :=
  ∀ s t : State, s.lawful → step s = .next t → t.fieldLaw ∧ t.soundLaw ∧ t.peersLaw

/-- From every lawful state in which it holds, a step keeps, for an acting station: at a FLOOR station every present
stair is released under a re-entry demand, unlocked exactly as its release or its mask with bits 2 and 3 set, the
demand and the key give, in the state its record gives, with a mismatch timer or a feedback fault exactly while
feedback and lock output disagree; the source is the one level and step give (R144); a cadence record runs exactly
under its run condition; the ALARM lamp flashes exactly while an own zone is in ALARM with the regime inactive and is
dark otherwise; RUN blinks in LISTEN and is lit in RUN; and in every role the own entry shows the station's own
records. Feedback compared at the end of every event is log 16; that the own entry shows the station's own listen-
complete, digest and faults is log 17. From every lawful state in which it holds, a step keeps besides: at a FLOOR
station the level in service is the highest whose request is present, unless the step in hand stands at no preemption
point, which is a MESSAGE that MANUAL does not cut, or a TONE in an on-pulse of its cadence. A pulse that a tick event
has ended, or a cycle it has started, stays to be taken by its own command (log 3). Both hold at reset. (R68, R75,
R116, R119, R120, R121, R122, R143, R148, R155, R157, R175). -/
def Obligations.EveryEventSettlesTheBlocks : Prop :=
  (∀ s t : State, s.lawful → s.settled → step s = .next t → t.settled) ∧ State.reset.settled
  ∧ (∀ s t : State, s.lawful → s.decided → step s = .next t → t.decided) ∧ State.reset.decided

/-- A raise of a kind and subject at a second. With a record of that kind and subject: that record becomes active and
its count rises by one, saturating at 255, in its place and with its first-seen second, and every other stays. With
none and fewer than sixteen records: a new record, active, count 1, first seen at that second, is appended. With
sixteen, one of them inactive: the inactive record nearest the head goes and the new one is appended. With sixteen
active: the list-overflow count alone rises, saturating at 255. A clearing makes the record of the kind and subject
inactive with its count, place and first-seen second, and without one changes nothing. PEER_SILENCE that is due, at a
station that the last event left settled and no car of which is bound for a compromised primary, makes exactly one
raise, at the seconds counter. From every lawful list, every command but RESET leaves each record as one of before
with its first-seen second, no smaller a count, and active again only with a larger one or at 255, or as a new one
first seen in this second; it shortens no list and lowers no list-overflow count. (R171, R172). -/
def Obligations.FaultListTakesRaisesAndClears : Prop :=
  (∀ (kind : FaultKind) (subject : Nat) (now : Word16) (l : FaultList), l.lawful →
    let fresh : FaultRecord := { kind := kind, subject := subject, active := true, count := 1, firstSeen := now }
    let held : Prop := ∃ r ∈ l.records, r.kind = kind ∧ r.subject = subject
    (∀ before r after, l.records = before ++ r :: after → r.kind = kind → r.subject = subject →
      l.raise kind subject now
        = { l with records := before ++ { r with active := true, count := min 255 (r.count + 1) } :: after }
      ∧ l.clear kind subject = { l with records := before ++ { r with active := false } :: after })
    ∧ (¬ held → l.clear kind subject = l)
    ∧ (¬ held → l.records.length < 16 → l.raise kind subject now = { l with records := l.records ++ [fresh] })
    ∧ (¬ held → l.records.length = 16 →
        (∀ before r after, l.records = before ++ r :: after → (∀ x ∈ before, x.active = true) → r.active = false →
          l.raise kind subject now = { l with records := before ++ after ++ [fresh] })
        ∧ ((∀ x ∈ l.records, x.active = true) →
          l.raise kind subject now = { l with overflow := min 255 (l.overflow + 1) })))
  ∧ (∀ (a : Nat) (s : State), s.stationLaw → s.settled → s.acts = true →
    (∀ n < 4, (s.car n).target = .primary → ¬ s.primaryLost) → isPeerAddress a = true →
    a ≠ s.station.address → (s.peers.base a).presence = .live → 3 * s.image.heartbeat + 1 ≤ (s.peers.base a).age →
    ∃ t, exec (.peerSilence a) s = .next t ∧ t.faults = s.faults.raise .peerSilent a s.time.second)
  ∧ (∀ (c : Instr) (s t : State), s.faults.lawful → exec c s = .next t → c ≠ .reset → s.faultsKept t)

/-- FLOOR, from every lawful state: a line command that brings one record at most and makes an inactive regime active,
with no all-clear in it: each zone in VERIFY-CONFIRM stops its window, enters ALARM with mark and latch if an ALARM
run is in hand (of any length, log 14), whereupon the own alarm latch is set, and otherwise waits; every other zone is
as it was. LIFT, where no car was bound for a compromised primary before: an event that leaves the regime active and
is no input or timer of the car in question. As the regime becomes active a car in NORMAL takes the target ALTERNATE
if the primary is then an origin or has its lobby latch set, PRIMARY otherwise, and is RECALLING with the timer at 100
x the timeout, PARKED at once if it stands there (FIREFIGHTER with key and doors), or UNAVAILABLE at once without
automatic service; restore-pending clears in FIREFIGHTER. A car bound for a compromised primary takes ALTERNATE: from
RECALLING and PARKED it is RECALLING with the timer restarted, or parks if it stands there; from UNAVAILABLE it stays
or parks late; in FIREFIGHTER the target alone changes. Every other car keeps state, target, timer and late flag.
(R65, R92, R131, R132, R133, R134, R136). -/
def Obligations.AnOpeningRegimeReachesTheField : Prop :=
  (∀ (c : Instr) (line : Samples) (s t : State), c.samples = some line → s.hearsOne c → s.actsAs .floor = true →
    s.lawful → exec c s = .next t → s.regime.active = false → t.regime.active = true →
    (s.regime.generation = none ∨ t.regime.generation = s.regime.generation) →
    (∀ z < 8, (s.zone z).opens (t.zone z))
    ∧ ((∃ z < 8, (s.zone z).state ≠ .alarm ∧ (t.zone z).state = .alarm) →
        (t.floorEntry s.station.address).alarmLatch = true))
  ∧ (∀ (c : Instr) (n : Nat) (s t : State), exec c s = .next t → c ≠ .reset → c.oneEvent → s.hearsOne c →
    s.recalled → s.actsAs .lift = true → n < 4 → (s.car n).present = true → t.regime.active = true →
    (∀ (m : Fin 4) (i : CarInput), m.val = n → c ≠ .carInputChange m i ∧ c ≠ .recallTimerExpiry m) →
    s.carRecalled n t)

/-- At an acting station every command but RESET and FRAME_START that leaves a change cause (the count of a latched
zone, stair or car; generation, GENERAL, an epoch or the origin floors; a FLOOR's speaker level or source, authority
console or own phase; a CONSOLE's link-alive) leaves change due set. No other change sets it: a command that is one
event sets it only with such a cause, but for a COLLISION that drops the STATUS (R54). Causes are the net changes of
an event (log 12), and change due stands until the snapshot (log 11). From every lawful state in which it holds a step
keeps: in RUN an owed report (heartbeat owed, change due, a latch) stands outside the slot only in class STATUS under
a running spacing timer, and a PENDING entry with a marked zone in ALARM or an unreported origin is of class ALARM; it
holds at reset. An entry placed in an empty slot is PENDING with count 0, was owed, and is of class ALARM exactly with
such news, STATUS only with the spacing open; and no command lowers the class of an entry that stays. (R46, R48, R49,
R50, R51, R52, R53, R54). -/
def Obligations.ChangesAreOwedAndPlacedInTheirClass : Prop :=
  (∀ (c : Instr) (s t : State), s.acts = true → exec c s = .next t → c ≠ .reset →
    ((∀ n b, c ≠ .frameStart n b) → s.causes t → t.builder.changeDue = true)
    ∧ (c.oneEvent → s.hearsOne c → (∀ bit, c ≠ .collision bit) → t.builder.changeDue = true →
        s.builder.changeDue = true ∨ s.causes t)
    ∧ (c.oneEvent → s.hearsOne c → s.slots.status = none → ∀ e, t.slots.status = some e →
        e.standing = .pending ∧ e.collisions = 0 ∧ t.owes ∧ (t.alarmNews → e.cls = .alarm)
        ∧ (¬ t.alarmNews → e.cls = .status ∧ t.builder.spacing = none))
    ∧ (c.oneEvent → s.hearsOne c → (∀ bit, c ≠ .collision bit) → c ≠ .frameComplete →
        ∀ e e', s.slots.status = some e → t.slots.status = some e' → e.cls = .alarm → e'.cls = .alarm))
  ∧ (∀ s t : State, s.lawful → s.placed → step s = .next t → t.placed) ∧ State.reset.placed

/-- The pins of a station in LISTEN or RUN, from every lawful and settled state. FLOOR: loop power is high but for an
unused, DISABLED or VERIFY-RESET zone; a lock is high exactly for a present stair that no release, no demand by its
mask and no key unlocks; source select carries the source's code, MUTE or a sound under an active regime; live voice,
message lines, strobes, bell and strobe follow their records. LIFT: recall-primary and recall-alternate of a present
car in RECALLING, PARKED or UNAVAILABLE by its target, never both, hold-doors-open in PARKED, ff-permitted in
FIREFIGHTER, every other field output low. CONSOLE: every field output low. In every role the fault relay is energised
and FAULT dark exactly with no active fault; ALARM is lit under an active regime and dark with none and no own zone in
ALARM; LINE is lit while its time runs, RUN in RUN; the memory port rests low (data out after the transaction is log
28); the link's data out is released but at a CONSOLE with select active; the riser carries the frame in flight or the
jam. (R10, R56, R72, R114, R119, R127, R129, R142, R144, R147, R174, R175). -/
def Obligations.PinsShowTheStation : Prop :=
  ∀ s : State, s.acts = true → s.lawful → s.settled →
    let o := s.outputs
    let quietField := (∀ i < 8, o.loopPower.at i true = false) ∧ (∀ i < 4, o.lock.at i true = false)
      ∧ o.messageLines = 0
    let quietSound := o.sourceSelect = 0 ∧ o.play = false ∧ o.stop = false ∧ o.bell = false ∧ o.strobe = false
      ∧ o.liveVoice = false
    (s.station.role = some .floor →
      (∀ z < 8, o.loopPower.at z false = true ↔ (s.zone z).kind ≠ .unused ∧ (s.zone z).state ≠ .disabled
          ∧ (s.zone z).state ≠ .verifyReset)
      ∧ (∀ i < 4,
          let x := s.stair i
          o.lock.at i false = true ↔ x.present = true ∧ x.release = false
            ∧ x.minterm.testBit x.key.accepted.toNat = false)
      ∧ o.sourceSelect = (match s.speaker.source with
          | .tenant => 0 | .message => 1 | .tone => 2 | .live => 3 | .mute => 4)
      ∧ (s.regime.active = true → o.sourceSelect ≠ 0)
      ∧ (o.liveVoice = true ↔ s.speaker.level = .manual)
      ∧ o.messageLines = s.speaker.lines ∧ (o.play = true ↔ s.speaker.play ≠ none)
      ∧ (o.stop = true ↔ s.speaker.stop ≠ none) ∧ (o.bell = true ↔ s.cadence.bell ≠ none)
      ∧ (o.strobe = true ↔ s.cadence.strobe ≠ none))
    ∧ (s.station.role = some .lift →
      (∀ c < 4,
          let x := s.car c
          let recalled := x.present = true ∧ x.state ∈ [CarState.recalling, .parked, .unavailable]
          (o.loopPower.at (2 * c) false = true ↔ recalled ∧ x.target = .primary)
          ∧ (o.loopPower.at (2 * c + 1) false = true ↔ recalled ∧ x.target = .alternate)
          ∧ (recalled → o.loopPower.at (2 * c) false = !o.loopPower.at (2 * c + 1) false)
          ∧ (o.lock.at c false = true ↔ x.present = true ∧ x.state = .parked)
          ∧ (o.messageLines.testBit c = true ↔ x.present = true ∧ x.state = .firefighter))
      ∧ o.messageLines < 16 ∧ quietSound)
    ∧ (s.station.role = some .console → quietField ∧ quietSound)
    ∧ (o.faultRelay = true ↔ ∀ x ∈ s.faults.records, x.active = false)
    ∧ (o.faultLamp = true ↔ ∃ x ∈ s.faults.records, x.active = true)
    ∧ (s.regime.active = true → o.alarmLamp = true)
    ∧ (s.regime.active = false → (s.station.role = some .floor → ∀ z < 8, (s.zone z).state ≠ .alarm) →
        o.alarmLamp = false)
    ∧ o.runLamp = s.lamps.runLit ∧ (s.station.lifecycle = .run → o.runLamp = true)
    ∧ (o.lineLamp = true ↔ s.lamps.line ≠ none)
    ∧ (o.linkData ≠ none ↔ s.link.selected = true) ∧ (s.station.role ≠ some .console → o.linkData = none)
    ∧ o.memorySelect = false ∧ o.memoryClock = [] ∧ o.memoryData = []
    ∧ o.riser = (match s.tx with
        | .idle => [] | .sending _ f => f.lineBits | .jamming => List.replicate 12 false)
end

