-- ==== Sys2Proof/Laws/Tab.lean ====
section
/-! SUPPORT. Reading a table after each of its operations. -/

namespace Sys2Proof

variable {α β : Type} {n : Nat}

theorem Tab.ext_list {s t : Tab α n} (h : s.list = t.list) : s = t := by
  cases s; cases t; simp_all

/-- Tables are equal when they read alike at every place. -/
theorem Tab.ext_at {s t : Tab α n} (d : α) (h : ∀ i < n, s.at i d = t.at i d) : s = t := by
  apply Tab.ext_list
  apply List.ext_getElem?
  intro i
  by_cases hi : i < n
  · have := h i hi
    simp only [Tab.at, List.getD_eq_getElem?_getD] at this
    rw [List.getElem?_eq_getElem (by rw [s.size]; exact hi), List.getElem?_eq_getElem (by rw [t.size]; exact hi)] at *
    simpa using this
  · rw [List.getElem?_eq_none (by rw [s.size]; omega), List.getElem?_eq_none (by rw [t.size]; omega)]

theorem Tab.at_out (t : Tab α n) (i : Nat) (d : α) (h : n ≤ i) : t.at i d = d := by
  simp [Tab.at, List.getD_eq_getElem?_getD, List.getElem?_eq_none (show t.list.length ≤ i by rw [t.size]; exact h)]

@[simp] theorem Tab.at_fill (i : Nat) (x : α) : (Tab.fill n x).at i x = x := by
  simp only [Tab.at, Tab.fill, List.getD_eq_getElem?_getD, List.getElem?_replicate]
  split <;> rfl

theorem Tab.at_fill_lt (i : Nat) (x d : α) (h : i < n) : (Tab.fill n x).at i d = x := by
  simp [Tab.at, Tab.fill, List.getD_eq_getElem?_getD, List.getElem?_replicate, h]

theorem Tab.at_upd (t : Tab α n) (i j : Nat) (f : α → α) (d : α) (h : i < n) :
    (t.upd i f).at j d = if j = i then f (t.at i d) else t.at j d := by
  have hl : i < t.list.length := by rw [t.size]; exact h
  simp only [Tab.at, Tab.upd, List.getD_eq_getElem?_getD, List.getElem?_modify]
  by_cases hji : j = i
  · subst hji; simp [List.getElem?_eq_getElem hl]
  · have : ¬ i = j := fun h => hji h.symm
    simp [hji, this]

@[simp] theorem Tab.at_upd_ne (t : Tab α n) (i j : Nat) (f : α → α) (d : α) (h : j ≠ i) :
    (t.upd i f).at j d = t.at j d := by
  have : ¬ i = j := fun h' => h h'.symm
  simp [Tab.at, Tab.upd, List.getD_eq_getElem?_getD, List.getElem?_modify, this]

theorem Tab.at_upd_self (t : Tab α n) (i : Nat) (f : α → α) (d : α) (h : i < n) :
    (t.upd i f).at i d = f (t.at i d) := by simp [Tab.at_upd, h]

/-- A place outside the table is changed by nothing. -/
theorem Tab.upd_out (t : Tab α n) (i : Nat) (f : α → α) (h : n ≤ i) : t.upd i f = t := by
  apply Tab.ext_list
  have : t.list.length ≤ i := by rw [t.size]; exact h
  simp [Tab.upd, List.modify_eq_self this]

theorem Tab.at_map (t : Tab α n) (i : Nat) (f : α → β) (d : α) (e : β) (h : i < n) :
    (t.map f).at i e = f (t.at i d) := by
  have hl : i < t.list.length := by rw [t.size]; exact h
  simp [Tab.at, Tab.map, List.getD_eq_getElem?_getD, List.getElem?_eq_getElem hl]

/-- The same, where the function keeps the value that stands outside. -/
theorem Tab.at_map_fix (t : Tab α n) (i : Nat) (f : α → α) (d : α) (hd : f d = d) :
    (t.map f).at i d = f (t.at i d) := by
  by_cases h : i < n
  · exact t.at_map i f d d h
  · rw [Tab.at_out _ _ _ (by omega), Tab.at_out _ _ _ (by omega), hd]

theorem listMapFrom_getElem? (f : Nat → α → β) (k : Nat) (l : List α) (i : Nat) :
    (listMapFrom f k l)[i]? = l[i]?.map (f (k + i)) := by
  induction l generalizing k i with
  | nil => simp [listMapFrom]
  | cons x xs ih =>
    cases i with
    | zero => simp [listMapFrom]
    | succ i => simp [listMapFrom, ih, Nat.add_assoc, Nat.add_comm 1]

theorem Tab.at_mapIdx (t : Tab α n) (i : Nat) (f : Nat → α → β) (d : α) (e : β) (h : i < n) :
    (t.mapIdx f).at i e = f i (t.at i d) := by
  have hl : i < t.list.length := by rw [t.size]; exact h
  simp [Tab.at, Tab.mapIdx, List.getD_eq_getElem?_getD, listMapFrom_getElem?, List.getElem?_eq_getElem hl]

theorem Tab.at_ofFn (i : Nat) (f : Nat → α) (d : α) (h : i < n) : (Tab.ofFn n f).at i d = f i := by
  simp [Tab.at, Tab.ofFn, List.getD_eq_getElem?_getD, List.getElem?_map, List.getElem?_range h]

/-- `any` over a table, by its places. -/
theorem Tab.any_iff (t : Tab α n) (p : α → Bool) (d : α) : t.any p = true ↔ ∃ i < n, p (t.at i d) = true := by
  simp only [Tab.any, List.any_eq_true, List.mem_iff_getElem]
  constructor
  · rintro ⟨x, ⟨i, hi, rfl⟩, hp⟩
    refine ⟨i, by rw [← t.size]; exact hi, ?_⟩
    simpa [Tab.at, List.getD_eq_getElem?_getD, List.getElem?_eq_getElem hi] using hp
  · rintro ⟨i, hi, hp⟩
    have hl : i < t.list.length := by rw [t.size]; exact hi
    exact ⟨t.list[i], ⟨i, hl, rfl⟩, by
      simpa [Tab.at, List.getD_eq_getElem?_getD, List.getElem?_eq_getElem hl] using hp⟩

end Sys2Proof
end

