-- ==== Sys2Proof/Laws/Frame.lean ====
section
/-! SUPPORT. The calculus of frames: how `Touches` composes, and what it says field by field. -/

namespace Sys2Proof.Machine

/-! ## The calculus of frames -/

theorem Touches.refl (ps : List Part) (s : State) : Touches ps s s :=
  ⟨rfl, fun p _ => by cases p <;> simp [Part.same]⟩

theorem Part.same.trans {p : Part} {s t u : State} (h : p.same s t) (k : p.same t u) : p.same s u := by
  cases p <;> simp_all [Part.same]

theorem Touches.mono {ps qs : List Part} {s t : State} (h : Touches ps s t) (hs : ps ⊆ qs) : Touches qs s t :=
  ⟨h.1, fun p hp => h.2 p (fun hm => hp (hs hm))⟩

theorem Touches.trans {ps : List Part} {s t u : State} (h : Touches ps s t) (k : Touches ps t u) : Touches ps s u :=
  ⟨k.1.trans h.1, fun p hp => (h.2 p hp).trans (k.2 p hp)⟩

/-- Two changes one after the other touch the parts that either touches. -/
theorem Touches.andThen {ps qs rs : List Part} {s t u : State} (h : Touches ps s t) (k : Touches qs t u)
    (hp : ps ⊆ rs) (hq : qs ⊆ rs) : Touches rs s u := (h.mono hp).trans (k.mono hq)

theorem Touches.foldl {α : Type} {ps : List Part} (f : State → α → State) (h : ∀ t x, Touches ps t (f t x))
    (l : List α) (s : State) : Touches ps s (l.foldl f s) := by
  induction l generalizing s with
  | nil => exact .refl ps s
  | cons x xs ih => exact (h s x).trans (ih (f s x))

theorem Touches.ite {ps : List Part} {c : Prop} [Decidable c] {s t u : State} (ht : Touches ps s t)
    (hu : Touches ps s u) : Touches ps s (if c then t else u) := by split <;> assumption

/-- A change of the record is one of the listed parts or no change. -/
theorem Touches.of {ps : List Part} {s t : State} (h0 : t.pending = s.pending) (h : ∀ p, p ∈ ps ∨ p.same s t) :
    Touches ps s t := ⟨h0, fun p hp => (h p).resolve_left hp⟩

section
variable {ps : List Part} {s t : State} (h : Touches ps s t)
include h
theorem Touches.pending_eq : t.pending = s.pending := h.1
theorem Touches.acts_eq (hp : .lifecycle ∉ ps) : t.acts = s.acts := by
  have := h.2 _ hp; simp only [Part.same] at this; simp [State.acts, this]
theorem Touches.pins_eq (hp : .pins ∉ ps) : t.pins = s.pins := h.2 .pins hp
theorem Touches.time_eq (hp : .time ∉ ps) : t.time = s.time := h.2 .time hp
theorem Touches.image_eq (hp : .image ∉ ps) : t.image = s.image := h.2 .image hp
theorem Touches.rx_eq (hp : .rx ∉ ps) : t.rx = s.rx := h.2 .rx hp
theorem Touches.tx_eq (hp : .tx ∉ ps) : t.tx = s.tx := h.2 .tx hp
theorem Touches.statusSlot_eq (hp : .statusSlot ∉ ps) : t.slots.status = s.slots.status := h.2 .statusSlot hp
theorem Touches.fifo_eq (hp : .fifo ∉ ps) : t.slots.fifo = s.slots.fifo := h.2 .fifo hp
theorem Touches.line_eq (hp : .line ∉ ps) : t.line = s.line := h.2 .line hp
theorem Touches.changeDue_eq (hp : .changeDue ∉ ps) : t.builder.changeDue = s.builder.changeDue := h.2 .changeDue hp
theorem Touches.spacing_eq (hp : .spacing ∉ ps) : t.builder.spacing = s.builder.spacing := h.2 .spacing hp
theorem Touches.reported_eq (hp : .reported ∉ ps) : t.builder.reported = s.builder.reported := h.2 .reported hp
theorem Touches.snapshot_eq (hp : .snapshot ∉ ps) : t.builder.snapshot = s.builder.snapshot := h.2 .snapshot hp
theorem Touches.zones_eq (hp : .zones ∉ ps) : t.zones = s.zones := h.2 .zones hp
theorem Touches.duplicateAge_eq (hp : .duplicateAge ∉ ps) : t.peers.duplicateAge = s.peers.duplicateAge := h.2 .duplicateAge hp
theorem Touches.generation_eq (hp : .generation ∉ ps) : t.regime.generation = s.regime.generation := h.2 .generation hp
theorem Touches.general_eq (hp : .general ∉ ps) : t.regime.general = s.regime.general := h.2 .general hp
theorem Touches.holdEpoch_eq (hp : .holdEpoch ∉ ps) : t.regime.hold = s.regime.hold := h.2 .holdEpoch hp
theorem Touches.silenceEpoch_eq (hp : .silenceEpoch ∉ ps) : t.regime.silence = s.regime.silence := h.2 .silenceEpoch hp
theorem Touches.phases_eq (hp : .phases ∉ ps) : t.regime.phases = s.regime.phases := h.2 .phases hp
theorem Touches.stairs_eq (hp : .stairs ∉ ps) : t.stairs = s.stairs := h.2 .stairs hp
theorem Touches.cars_eq (hp : .cars ∉ ps) : t.cars = s.cars := h.2 .cars hp
theorem Touches.restoreRefused_eq (hp : .restoreRefused ∉ ps) : t.restoreRefused = s.restoreRefused := h.2 .restoreRefused hp
theorem Touches.speaker_eq (hp : .speaker ∉ ps) : t.speaker = s.speaker := h.2 .speaker hp
theorem Touches.authority_eq (hp : .authority ∉ ps) : t.authority = s.authority := h.2 .authority hp
theorem Touches.cadence_eq (hp : .cadence ∉ ps) : t.cadence = s.cadence := h.2 .cadence hp
theorem Touches.link_eq (hp : .link ∉ ps) : t.link = s.link := h.2 .link hp
theorem Touches.faults_eq (hp : .faults ∉ ps) : t.faults = s.faults := h.2 .faults hp
theorem Touches.lineLamp_eq (hp : .lineLamp ∉ ps) : t.lamps.line = s.lamps.line := h.2 .lineLamp hp
theorem Touches.lifecycle_eq (hp : .lifecycle ∉ ps) : t.station.lifecycle = s.station.lifecycle := h.2 .lifecycle hp
theorem Touches.holdOff_eq (hp : .holdOff ∉ ps) : t.station.takeHoldOff = s.station.takeHoldOff := h.2 .holdOff hp
theorem Touches.address_eq (hp : .identity ∉ ps) : t.station.address = s.station.address := (h.2 .identity hp).1
theorem Touches.role_eq (hp : .identity ∉ ps) : t.station.role = s.station.role := (h.2 .identity hp).2.1
theorem Touches.loadStatus_eq (hp : .identity ∉ ps) : t.station.loadStatus = s.station.loadStatus := (h.2 .identity hp).2.2.1
theorem Touches.digest_eq (hp : .identity ∉ ps) : t.station.digest = s.station.digest := (h.2 .identity hp).2.2.2
theorem Touches.listenTimer_eq (hp : .listen ∉ ps) : t.station.listenTimer = s.station.listenTimer := (h.2 .listen hp).1
theorem Touches.listenComplete_eq (hp : .listen ∉ ps) : t.station.listenComplete = s.station.listenComplete := (h.2 .listen hp).2
theorem Touches.mark_eq (hp : .markSlots ∉ ps) : t.slots.mark = s.slots.mark := (h.2 .markSlots hp).1
theorem Touches.successor_eq (hp : .markSlots ∉ ps) : t.slots.successor = s.slots.successor := (h.2 .markSlots hp).2
theorem Touches.heartbeat_eq (hp : .heartbeat ∉ ps) : t.builder.heartbeat = s.builder.heartbeat := (h.2 .heartbeat hp).1
theorem Touches.heartbeatOwed_eq (hp : .heartbeat ∉ ps) : t.builder.heartbeatOwed = s.builder.heartbeatOwed := (h.2 .heartbeat hp).2
theorem Touches.floors_eq (hp : .peers ∉ ps) : t.peers.floors = s.peers.floors := (h.2 .peers hp).1
theorem Touches.banks_eq (hp : .peers ∉ ps) : t.peers.banks = s.peers.banks := (h.2 .peers hp).2.1
theorem Touches.consoles_eq (hp : .peers ∉ ps) : t.peers.consoles = s.peers.consoles := (h.2 .peers hp).2.2
theorem Touches.origins_eq (hp : .origins ∉ ps) : t.regime.origins = s.regime.origins := (h.2 .origins hp).1
theorem Touches.overflow_eq (hp : .origins ∉ ps) : t.regime.overflow = s.regime.overflow := (h.2 .origins hp).2
theorem Touches.runLit_eq (hp : .runLamp ∉ ps) : t.lamps.runLit = s.lamps.runLit := (h.2 .runLamp hp).1
theorem Touches.runFlash_eq (hp : .runLamp ∉ ps) : t.lamps.runFlash = s.lamps.runFlash := (h.2 .runLamp hp).2
theorem Touches.alarmLit_eq (hp : .alarmLamp ∉ ps) : t.lamps.alarmLit = s.lamps.alarmLit := (h.2 .alarmLamp hp).1
theorem Touches.alarmFlash_eq (hp : .alarmLamp ∉ ps) : t.lamps.alarmFlash = s.lamps.alarmFlash := (h.2 .alarmLamp hp).2
theorem Touches.haltLit_eq (hp : .haltLamp ∉ ps) : t.lamps.haltLit = s.lamps.haltLit := (h.2 .haltLamp hp).1
theorem Touches.haltFlash_eq (hp : .haltLamp ∉ ps) : t.lamps.haltFlash = s.lamps.haltFlash := (h.2 .haltLamp hp).2
end

end Sys2Proof.Machine
end

