-- ==== Sys2Proof/Laws/State.lean ====
section
/-! SUPPORT. What each shared operation leaves unchanged: one `Touches` lemma for each, with the parts it may change. -/

namespace Sys2Proof.Machine

/-! ## Faults and line counters -/

theorem touches_raise (k : FaultKind) (n : Nat) (s : State) : Touches [.faults] s (s.raise k n) := by
  refine .of rfl fun p => ?_
  cases p <;> first | exact .inl (by decide) | exact .inr rfl | exact .inr ⟨rfl, rfl⟩ | exact .inr ⟨rfl, rfl, rfl⟩ | exact .inr ⟨rfl, rfl, rfl, rfl⟩

theorem touches_clearFault (k : FaultKind) (n : Nat) (s : State) : Touches [.faults] s (s.clearFault k n) := by
  refine .of rfl fun p => ?_
  cases p <;> first | exact .inl (by decide) | exact .inr rfl | exact .inr ⟨rfl, rfl⟩ | exact .inr ⟨rfl, rfl, rfl⟩ | exact .inr ⟨rfl, rfl, rfl, rfl⟩

theorem touches_clearFaults (k : FaultKind) (s : State) : Touches [.faults] s (s.clearFaults k) := by
  refine .of rfl fun p => ?_
  cases p <;> first | exact .inl (by decide) | exact .inr rfl | exact .inr ⟨rfl, rfl⟩ | exact .inr ⟨rfl, rfl, rfl⟩ | exact .inr ⟨rfl, rfl, rfl, rfl⟩

theorem touches_raiseAtOnce (k : FaultKind) (n : Nat) (s : State) : Touches [.faults] s (s.raiseAtOnce k n) :=
  (touches_raise k n s).trans (touches_clearFault k n _)

/-! ## Records and line counters -/

theorem touches_badFrame (s : State) : Touches [.line, .faults] s s.badFrame := by
  unfold State.badFrame
  dsimp only
  refine Touches.ite ?_ ?_
  · refine Touches.andThen (t := _) ?_ (touches_raise _ _ _) (ps := [.line]) (by decide) (by decide)
    refine .of rfl fun p => ?_
    cases p <;> first | exact .inl (by decide) | exact .inr rfl | exact .inr ⟨rfl, rfl⟩ | exact .inr ⟨rfl, rfl, rfl⟩ | exact .inr ⟨rfl, rfl, rfl, rfl⟩
  · refine .of rfl fun p => ?_
    cases p <;> first | exact .inl (by decide) | exact .inr rfl | exact .inr ⟨rfl, rfl⟩ | exact .inr ⟨rfl, rfl, rfl⟩ | exact .inr ⟨rfl, rfl, rfl, rfl⟩

theorem touches_setAside (s : State) : Touches [.line, .faults] s s.setAside := by
  refine Touches.andThen (ps := [.line]) ?_ (touches_badFrame _) (by decide) (by decide)
  refine .of rfl fun p => ?_
  cases p <;> first | exact .inl (by decide) | exact .inr rfl | exact .inr ⟨rfl, rfl⟩ | exact .inr ⟨rfl, rfl, rfl⟩ | exact .inr ⟨rfl, rfl, rfl, rfl⟩

theorem touches_updZone (z : Nat) (f : Zone → Zone) (s : State) : Touches [.zones] s (s.updZone z f) := by
  refine .of rfl fun p => ?_
  cases p <;> first | exact .inl (by decide) | exact .inr rfl | exact .inr ⟨rfl, rfl⟩ | exact .inr ⟨rfl, rfl, rfl⟩ | exact .inr ⟨rfl, rfl, rfl, rfl⟩

theorem touches_updStair (i : Nat) (f : Stair → Stair) (s : State) : Touches [.stairs] s (s.updStair i f) := by
  refine .of rfl fun p => ?_
  cases p <;> first | exact .inl (by decide) | exact .inr rfl | exact .inr ⟨rfl, rfl⟩ | exact .inr ⟨rfl, rfl, rfl⟩ | exact .inr ⟨rfl, rfl, rfl, rfl⟩

theorem touches_updCar (c : Nat) (f : Car → Car) (s : State) : Touches [.cars] s (s.updCar c f) := by
  refine .of rfl fun p => ?_
  cases p <;> first | exact .inl (by decide) | exact .inr rfl | exact .inr ⟨rfl, rfl⟩ | exact .inr ⟨rfl, rfl, rfl⟩ | exact .inr ⟨rfl, rfl, rfl, rfl⟩

/-- A change of the peer table's entries. -/
theorem touches_peers {q : Peers} (s : State) (h : q.duplicateAge = s.peers.duplicateAge) :
    Touches [.peers] s { s with peers := q } := by
  refine .of rfl fun p => ?_
  cases p <;> first | exact .inl (by decide) | exact .inr rfl | exact .inr ⟨rfl, rfl⟩ | exact .inr ⟨rfl, rfl, rfl, rfl⟩ | exact .inr h

@[simp] theorem Peers.updFloor_duplicateAge (p : Peers) (f : Nat) (g : FloorEntry → FloorEntry) :
    (p.updFloor f g).duplicateAge = p.duplicateAge := rfl
@[simp] theorem Peers.updBank_duplicateAge (p : Peers) (f : Nat) (g : BankEntry → BankEntry) :
    (p.updBank f g).duplicateAge = p.duplicateAge := rfl
@[simp] theorem Peers.updConsole_duplicateAge (p : Peers) (f : Nat) (g : ConsoleEntry → ConsoleEntry) :
    (p.updConsole f g).duplicateAge = p.duplicateAge := rfl
@[simp] theorem Peers.updBase_duplicateAge (p : Peers) (a : Nat) (f : PeerBase → PeerBase) :
    (p.updBase a f).duplicateAge = p.duplicateAge := by unfold Peers.updBase; split; rfl; split <;> rfl
@[simp] theorem Peers.mapBase_duplicateAge (p : Peers) (f : Nat → PeerBase → PeerBase) :
    (p.mapBase f).duplicateAge = p.duplicateAge := rfl

/-! ## The regime engine -/

theorem touches_recompute (s : State) : Touches [.phases] s s.recompute := by
  refine .of rfl fun p => ?_
  cases p <;> first | exact .inl (by decide) | exact .inr rfl | exact .inr ⟨rfl, rfl⟩ | exact .inr ⟨rfl, rfl, rfl⟩ | exact .inr ⟨rfl, rfl, rfl, rfl⟩

theorem touches_setGeneral (s : State) : Touches [.general, .phases] s s.setGeneral := by
  unfold State.setGeneral
  refine Touches.ite (.refl _ _) ?_
  refine Touches.andThen (ps := [.general]) ?_ (touches_recompute _) (by decide) (by decide)
  refine .of rfl fun p => ?_
  cases p <;> first | exact .inl (by decide) | exact .inr rfl | exact .inr ⟨rfl, rfl⟩ | exact .inr ⟨rfl, rfl, rfl⟩ | exact .inr ⟨rfl, rfl, rfl, rfl⟩

theorem touches_adoptHold (e : Nat) (s : State) : Touches [.holdEpoch] s (s.adoptHold e) := by
  refine .of rfl fun p => ?_
  cases p <;> first | exact .inl (by decide) | exact .inr rfl | exact .inr ⟨rfl, rfl⟩ | exact .inr ⟨rfl, rfl, rfl⟩ | exact .inr ⟨rfl, rfl, rfl, rfl⟩

theorem touches_adoptSilence (e : Nat) (s : State) : Touches [.silenceEpoch] s (s.adoptSilence e) := by
  refine .of rfl fun p => ?_
  cases p <;> first | exact .inl (by decide) | exact .inr rfl | exact .inr ⟨rfl, rfl⟩ | exact .inr ⟨rfl, rfl, rfl⟩ | exact .inr ⟨rfl, rfl, rfl, rfl⟩

theorem touches_firstAdoption (g : Byte) (s : State) : Touches [.generation] s (s.firstAdoption g) := by
  refine .of rfl fun p => ?_
  cases p <;> first | exact .inl (by decide) | exact .inr rfl | exact .inr ⟨rfl, rfl⟩ | exact .inr ⟨rfl, rfl, rfl⟩ | exact .inr ⟨rfl, rfl, rfl, rfl⟩

theorem touches_refuseOrigin (f : Nat) (s : State) :
    Touches [.origins, .faults, .general, .phases] s (s.refuseOrigin f) := by
  unfold State.refuseOrigin
  refine Touches.andThen (ps := [.origins, .faults]) ?_ (touches_setGeneral _) (by decide) (by decide)
  refine Touches.ite (.refl _ _) ?_
  refine Touches.andThen (ps := [.origins]) ?_ (touches_raiseAtOnce _ _ _) (by decide) (by decide)
  refine .of rfl fun p => ?_
  cases p <;> first | exact .inl (by decide) | exact .inr rfl | exact .inr ⟨rfl, rfl⟩ | exact .inr ⟨rfl, rfl, rfl⟩ | exact .inr ⟨rfl, rfl, rfl, rfl⟩

theorem Regime.resound_fields (r : Regime) :
    r.resound.generation = r.generation ∧ r.resound.general = r.general ∧ r.resound.hold = r.hold
      ∧ r.resound.origins = r.origins ∧ r.resound.overflow = r.overflow ∧ r.resound.phases = r.phases := by
  unfold Regime.resound; split <;> simp

/-- Adding an origin: the list, the resound, or the refusal. -/
theorem touches_addOrigin (f e : Nat) (s : State) :
    Touches [.origins, .silenceEpoch, .faults, .general, .phases] s (s.addOrigin f e) := by
  unfold State.addOrigin
  refine Touches.ite (.refl _ _) (Touches.ite ?_ ((touches_refuseOrigin f s).mono (by decide)))
  dsimp only
  unfold Regime.resound
  split <;> (refine .of rfl fun p => ?_; cases p <;> first | exact .inl (by decide) | exact .inr rfl | exact .inr ⟨rfl, rfl⟩ | exact .inr ⟨rfl, rfl, rfl⟩ | exact .inr ⟨rfl, rfl, rfl, rfl⟩)

theorem touches_latchOrigin (f : Nat) (s : State) :
    Touches [.origins, .silenceEpoch, .faults, .general, .phases] s (s.latchOrigin f) :=
  (touches_addOrigin f 0 s).andThen (touches_recompute _) (by decide) (by decide)

theorem touches_takeOrigin (s : State) (o : Nat × Nat) :
    Touches [.origins, .silenceEpoch, .faults, .general, .phases] s (s.takeOrigin o) := by
  unfold State.takeOrigin
  refine Touches.ite ?_ (touches_addOrigin _ _ s)
  refine .of rfl fun p => ?_
  cases p <;> first | exact .inl (by decide) | exact .inr rfl | exact .inr ⟨rfl, rfl⟩ | exact .inr ⟨rfl, rfl, rfl⟩ | exact .inr ⟨rfl, rfl, rfl, rfl⟩

theorem touches_intake (r : StatusRecord) (s : State) :
    Touches [.origins, .silenceEpoch, .faults, .general, .phases, .holdEpoch] s (s.intake r) := by
  unfold State.intake
  dsimp only
  have h1 : Touches [.general, .phases] s (if r.general = true then s.setGeneral else s) :=
    .ite (touches_setGeneral s) (.refl _ _)
  refine Touches.trans (h1.mono (by decide)) ?_
  refine Touches.trans ((touches_adoptHold r.hold _).mono (by decide)) ?_
  refine Touches.trans ((touches_adoptSilence r.silence _).mono (by decide)) ?_
  refine Touches.trans ((Touches.foldl _ (fun t o => touches_takeOrigin t o) r.origins _).mono (by decide)) ?_
  exact (touches_recompute _).mono (by decide)

theorem touches_regimeSecond (s : State) : Touches [.origins, .phases] s s.regimeSecond := by
  unfold State.regimeSecond
  refine Touches.ite ?_ (.refl _ _)
  refine Touches.andThen (ps := [.origins]) ?_ (touches_recompute _) (by decide) (by decide)
  refine .of rfl fun p => ?_
  cases p <;> first | exact .inl (by decide) | exact .inr rfl | exact .inr ⟨rfl, rfl⟩ | exact .inr ⟨rfl, rfl, rfl⟩ | exact .inr ⟨rfl, rfl, rfl, rfl⟩

/-! ## The status builder -/

theorem touches_runEntry (s : State) : Touches [.lifecycle, .heartbeat, .runLamp] s s.runEntry := by
  refine .of rfl fun p => ?_
  cases p <;> first | exact .inl (by decide) | exact .inr rfl | exact .inr ⟨rfl, rfl⟩ | exact .inr ⟨rfl, rfl, rfl⟩ | exact .inr ⟨rfl, rfl, rfl, rfl⟩

theorem touches_placeStatus (s : State) : Touches [.statusSlot] s s.placeStatus := by
  unfold State.placeStatus
  refine Touches.ite (.refl _ _) ?_
  split
  · refine Touches.ite ?_ (.refl _ _)
    refine .of rfl fun p => ?_
    cases p <;> first | exact .inl (by decide) | exact .inr rfl | exact .inr ⟨rfl, rfl⟩ | exact .inr ⟨rfl, rfl, rfl⟩ | exact .inr ⟨rfl, rfl, rfl, rfl⟩
  · refine Touches.ite ?_ (.refl _ _)
    refine .of rfl fun p => ?_
    cases p <;> first | exact .inl (by decide) | exact .inr rfl | exact .inr ⟨rfl, rfl⟩ | exact .inr ⟨rfl, rfl, rfl⟩ | exact .inr ⟨rfl, rfl, rfl, rfl⟩

theorem touches_builderReact (old s : State) : Touches [.changeDue, .statusSlot] s (s.builderReact old) := by
  refine Touches.andThen (ps := [.changeDue]) ?_ (touches_placeStatus _) (by decide) (by decide)
  refine .of rfl fun p => ?_
  cases p <;> first | exact .inl (by decide) | exact .inr rfl | exact .inr ⟨rfl, rfl⟩ | exact .inr ⟨rfl, rfl, rfl⟩ | exact .inr ⟨rfl, rfl, rfl, rfl⟩

theorem touches_takeSnapshot (s : State) : Touches [.snapshot, .heartbeat, .changeDue] s s.takeSnapshot := by
  refine .of rfl fun p => ?_
  cases p <;> first | exact .inl (by decide) | exact .inr rfl | exact .inr ⟨rfl, rfl⟩ | exact .inr ⟨rfl, rfl, rfl⟩ | exact .inr ⟨rfl, rfl, rfl, rfl⟩

theorem touches_statusCompleted (s : State) :
    Touches [.zones, .stairs, .cars, .reported, .snapshot, .spacing] s s.statusCompleted := by
  unfold State.statusCompleted
  split <;> (refine .of rfl fun p => ?_; cases p <;> first | exact .inl (by decide) | exact .inr rfl | exact .inr ⟨rfl, rfl⟩ | exact .inr ⟨rfl, rfl, rfl⟩ | exact .inr ⟨rfl, rfl, rfl, rfl⟩)

theorem touches_statusUnsent (s : State) : Touches [.snapshot, .changeDue] s s.statusUnsent := by
  refine .of rfl fun p => ?_
  cases p <;> first | exact .inl (by decide) | exact .inr rfl | exact .inr ⟨rfl, rfl⟩ | exact .inr ⟨rfl, rfl, rfl⟩ | exact .inr ⟨rfl, rfl, rfl, rfl⟩

theorem touches_statusDropped (s : State) : Touches [.snapshot, .changeDue, .spacing] s s.statusDropped := by
  refine .of rfl fun p => ?_
  cases p <;> first | exact .inl (by decide) | exact .inr rfl | exact .inr ⟨rfl, rfl⟩ | exact .inr ⟨rfl, rfl, rfl⟩ | exact .inr ⟨rfl, rfl, rfl, rfl⟩

theorem touches_builderAllClear (s : State) : Touches [.reported, .zones] s s.builderAllClear := by
  refine .of rfl fun p => ?_
  cases p <;> first | exact .inl (by decide) | exact .inr rfl | exact .inr ⟨rfl, rfl⟩ | exact .inr ⟨rfl, rfl, rfl⟩ | exact .inr ⟨rfl, rfl, rfl, rfl⟩

/-! ## The zone supervisor -/

theorem touches_changeZone (z e : Nat) (f : Zone → Zone) (s : State) : Touches [.zones] s (s.changeZone z e f) :=
  touches_updZone _ _ _

theorem touches_clearZoneFaults (z : Nat) (s : State) : Touches [.faults] s (s.clearZoneFaults z) :=
  (touches_clearFault _ _ _).trans (touches_clearFault _ _ _)

theorem touches_zoneFaults (z : Nat) (c : LoopClass) (s : State) : Touches [.faults] s (s.zoneFaults z c) := by
  unfold State.zoneFaults
  split
  · exact (touches_clearFault _ _ _).trans (touches_raise _ _ _)
  · exact (touches_clearFault _ _ _).trans (touches_raise _ _ _)
  · exact touches_clearZoneFaults _ _

/-- The parts that an own zone's alarm may change beside the zone records. -/
def Part.alarm : List Part :=
  [.peers, .origins, .silenceEpoch, .faults, .general, .phases, .lifecycle, .heartbeat, .runLamp]

theorem touches_alarmEntered (z : Nat) (s : State) : Touches Part.alarm s (s.alarmEntered z) := by
  unfold State.alarmEntered
  dsimp only
  have h1 (g : FloorEntry → FloorEntry) := (touches_peers (q := s.peers.updFloor s.station.address g) s rfl).mono
    (qs := Part.alarm) (by decide)
  have h2 (c : Prop) [Decidable c] (t : State) : Touches Part.alarm t
      (if c then t.latchOrigin s.station.address else t) :=
    .ite ((touches_latchOrigin _ _).mono (by decide)) (.refl _ _)
  exact Touches.ite (((h1 _).trans (h2 _ _)).trans ((touches_runEntry _).mono (by decide))) ((h1 _).trans (h2 _ _))

theorem touches_acceptClass (z : Nat) (c : LoopClass) (s : State) :
    Touches (.zones :: Part.alarm) s (s.acceptClass z c) := by
  unfold State.acceptClass
  dsimp only
  have h := ((touches_zoneFaults z c s).mono (qs := .zones :: Part.alarm) (by decide)).trans
    ((touches_changeZone z (if (s.zone z).accepted = none then 0 else 1)
      (Zone.acceptClass s.regime.active c) _).mono (by decide))
  exact Touches.ite (h.trans ((touches_alarmEntered _ _).mono (by decide))) h

theorem touches_disableZone (z : Nat) (s : State) : Touches [.zones, .faults] s (s.disableZone z) := by
  unfold State.disableZone
  exact Touches.ite ((touches_clearZoneFaults _ _).andThen (touches_changeZone _ _ _ _) (by decide) (by decide))
    (.refl _ _)

theorem touches_enableZone (z : Nat) (s : State) : Touches [.zones, .faults] s (s.enableZone z) := by
  unfold State.enableZone
  exact Touches.ite ((touches_clearZoneFaults _ _).andThen (touches_changeZone _ _ _ _) (by decide) (by decide))
    (.refl _ _)

theorem touches_allClearZone (s : State) (z : Nat) : Touches [.zones, .faults] s (s.allClearZone z) := by
  unfold State.allClearZone
  exact Touches.ite ((touches_clearZoneFaults _ _).andThen (touches_changeZone _ _ _ _) (by decide) (by decide))
    (.refl _ _)

theorem touches_zonesAllClear (s : State) : Touches [.zones, .faults] s s.zonesAllClear := by
  unfold State.zonesAllClear
  exact Touches.ite (Touches.foldl _ touches_allClearZone _ _) (.refl _ _)

theorem touches_activateZone (s : State) (z : Nat) : Touches (.zones :: Part.alarm) s (s.activateZone z) := by
  unfold State.activateZone
  dsimp only
  have h := (touches_updZone z (fun x => { x with stage := none }) s).mono (qs := .zones :: Part.alarm) (by decide)
  exact Touches.ite (Touches.ite (h.trans (touches_acceptClass _ _ _)) h) (.refl _ _)

theorem touches_zonesActivated (s : State) : Touches (.zones :: Part.alarm) s s.zonesActivated := by
  unfold State.zonesActivated
  exact Touches.ite (Touches.foldl _ touches_activateZone _ _) (.refl _ _)

theorem touches_sampleZones (s : State) : Touches [.zones] s s.sampleZones := by
  unfold State.sampleZones
  refine Touches.ite ?_ (.refl _ _)
  refine .of rfl fun p => ?_
  cases p <;> first | exact .inl (by decide) | exact .inr rfl | exact .inr ⟨rfl, rfl⟩ | exact .inr ⟨rfl, rfl, rfl⟩ | exact .inr ⟨rfl, rfl, rfl, rfl⟩

/-! ## The stair unit -/

theorem touches_clearDoorLocks (old s : State) : Touches [.faults] s (State.clearDoorLocks old s) := by
  unfold State.clearDoorLocks
  exact Touches.foldl _ (fun t i => Touches.ite (touches_clearFault _ _ _) (.refl _ _)) _ _

theorem touches_stairsReact (c b : Bool) (s : State) : Touches [.stairs, .faults] s (s.stairsReact c b) := by
  unfold State.stairsReact
  refine Touches.ite ?_ (.refl _ _)
  refine Touches.andThen (ps := [.stairs]) ?_ (touches_clearDoorLocks _ _) (by decide) (by decide)
  refine .of rfl fun p => ?_
  cases p <;> first | exact .inl (by decide) | exact .inr rfl | exact .inr ⟨rfl, rfl⟩ | exact .inr ⟨rfl, rfl, rfl⟩ | exact .inr ⟨rfl, rfl, rfl, rfl⟩

theorem touches_doorChanged (i : Nat) (s : State) : Touches [.stairs, .faults] s (s.doorChanged i) := by
  unfold State.doorChanged
  refine Touches.ite ((touches_updStair _ _ _).andThen (touches_clearFault _ _ _) (by decide) (by decide)) ?_
  exact Touches.ite ((touches_updStair _ _ _).mono (by decide)) (.refl _ _)

theorem touches_acceptStairInput (i : Nat) (k : StairInput) (s : State) :
    Touches [.stairs, .faults] s (s.acceptStairInput i k) := by
  unfold State.acceptStairInput
  dsimp only
  split
  · exact (touches_updStair _ _ _).andThen (touches_doorChanged _ _) (by decide) (by decide)
  · exact (touches_updStair _ _ _).mono (by decide)

theorem touches_mismatchExpired (i : Nat) (s : State) : Touches [.stairs, .faults] s (s.mismatchExpired i) :=
  (touches_updStair _ _ _).andThen (touches_raise _ _ _) (by decide) (by decide)

theorem touches_heldOpenExpired (i : Nat) (s : State) : Touches [.stairs, .faults] s (s.heldOpenExpired i) :=
  (touches_updStair _ _ _).andThen (touches_raise _ _ _) (by decide) (by decide)

theorem touches_stairsAllClear (s : State) : Touches [.stairs] s s.stairsAllClear := by
  unfold State.stairsAllClear
  refine Touches.ite ?_ (.refl _ _)
  refine .of rfl fun p => ?_
  cases p <;> first | exact .inl (by decide) | exact .inr rfl | exact .inr ⟨rfl, rfl⟩ | exact .inr ⟨rfl, rfl, rfl⟩ | exact .inr ⟨rfl, rfl, rfl, rfl⟩

theorem touches_sampleStairs (s : State) : Touches [.stairs] s s.sampleStairs := by
  unfold State.sampleStairs
  refine Touches.ite ?_ (.refl _ _)
  refine .of rfl fun p => ?_
  cases p <;> first | exact .inl (by decide) | exact .inr rfl | exact .inr ⟨rfl, rfl⟩ | exact .inr ⟨rfl, rfl, rfl⟩ | exact .inr ⟨rfl, rfl, rfl, rfl⟩

/-! ## The lift unit -/

theorem touches_carFaults (c : Nat) (old new : Car) (s : State) : Touches [.faults] s (s.carFaults c old new) := by
  unfold State.carFaults
  dsimp only
  have h : Touches [.faults] s (if new.state = .unavailable ∧ old.state ≠ .unavailable
      then s.raise .liftUnavailable (c + 1)
      else if old.state = .unavailable ∧ new.state ≠ .unavailable then s.clearFault .liftUnavailable (c + 1)
      else s) := .ite (touches_raise _ _ _) (.ite (touches_clearFault _ _ _) (.refl _ _))
  exact Touches.ite (h.trans (touches_raise _ _ _)) (Touches.ite (h.trans (touches_clearFault _ _ _)) h)

theorem touches_changeCar (c : Nat) (f : Car → Car) (s : State) : Touches [.cars, .faults] s (s.changeCar c f) := by
  unfold State.changeCar
  exact Touches.ite ((touches_updCar _ _ _).andThen (touches_carFaults _ _ _ _) (by decide) (by decide)) (.refl _ _)

theorem touches_liftsReact (b : Bool) (s : State) : Touches [.cars, .faults] s (s.liftsReact b) := by
  unfold State.liftsReact
  exact Touches.ite (Touches.foldl _ (fun t c => touches_changeCar _ _ _) _ _) (.refl _ _)

theorem touches_acceptCarInput (c : Nat) (i : CarInput) (s : State) :
    Touches [.cars, .faults] s (s.acceptCarInput c i) := touches_changeCar _ _ _

theorem touches_recallExpired (c : Nat) (s : State) : Touches [.cars, .faults] s (s.recallExpired c) :=
  touches_changeCar _ _ _

theorem touches_restoreBank (s : State) : Touches [.restoreRefused, .cars, .faults] s s.restoreBank := by
  unfold State.restoreBank
  refine Touches.ite ?_ ((Touches.foldl _ (fun t c => touches_changeCar _ _ _) _ _).mono (by decide))
  refine .of rfl fun p => ?_
  cases p <;> first | exact .inl (by decide) | exact .inr rfl | exact .inr ⟨rfl, rfl⟩ | exact .inr ⟨rfl, rfl, rfl⟩ | exact .inr ⟨rfl, rfl, rfl, rfl⟩

theorem touches_sampleCars (s : State) : Touches [.cars] s s.sampleCars := by
  unfold State.sampleCars
  refine Touches.ite ?_ (.refl _ _)
  refine .of rfl fun p => ?_
  cases p <;> first | exact .inl (by decide) | exact .inr rfl | exact .inr ⟨rfl, rfl⟩ | exact .inr ⟨rfl, rfl, rfl⟩ | exact .inr ⟨rfl, rfl, rfl, rfl⟩

theorem touches_carsAtListen (s : State) : Touches [.cars, .faults] s s.carsAtListen := by
  unfold State.carsAtListen
  refine Touches.ite ?_ (.refl _ _)
  refine Touches.trans (t := _) (Touches.mono (ps := [.cars]) ?_ (by decide))
    (Touches.foldl _ (fun t c => touches_changeCar _ _ _) _ _)
  refine .of rfl fun p => ?_
  cases p <;> first | exact .inl (by decide) | exact .inr rfl | exact .inr ⟨rfl, rfl⟩ | exact .inr ⟨rfl, rfl, rfl⟩ | exact .inr ⟨rfl, rfl, rfl, rfl⟩

/-! ## The announcement engine and the authority record -/

/-- A change of the speaker record. -/
theorem touches_speaker (p : Speaker) (s : State) : Touches [.speaker] s { s with speaker := p } := by
  refine .of rfl fun p => ?_
  cases p <;> first | exact .inl (by decide) | exact .inr rfl | exact .inr ⟨rfl, rfl⟩ | exact .inr ⟨rfl, rfl, rfl⟩ | exact .inr ⟨rfl, rfl, rfl, rfl⟩

theorem touches_speakerReact (old : State) (b : Bool) (s : State) :
    Touches [.speaker] s (State.speakerReact old b s) := by
  unfold State.speakerReact
  exact Touches.ite (touches_speaker _ _) (touches_speaker _ _)

theorem touches_speakerAllClear (s : State) : Touches [.speaker] s s.speakerAllClear := by
  unfold State.speakerAllClear
  exact Touches.ite (touches_speaker _ _) (.refl _ _)

theorem touches_busyRead (s : State) : Touches [.speaker, .faults] s s.busyRead := by
  unfold State.busyRead
  split
  · exact (touches_speaker _ _).mono (by decide)
  · exact (touches_speaker _ _).mono (by decide)
  · exact (touches_speaker _ _).andThen (touches_clearFault _ _ _) (by decide) (by decide)
  · exact .refl _ _

theorem touches_messageExpired (s : State) : Touches [.speaker, .faults] s s.messageExpired :=
  (touches_speaker _ _).andThen (touches_raise _ _ _) (by decide) (by decide)

theorem touches_pauseExpired (s : State) : Touches [.speaker] s s.pauseExpired := touches_speaker _ _

theorem touches_toneCycle (k : CadenceKind) (s : State) : Touches [.speaker] s (s.toneCycle k) := by
  unfold State.toneCycle
  exact Touches.ite (Touches.ite (touches_speaker _ _) (Touches.ite (touches_speaker _ _) (touches_speaker _ _)))
    (.refl _ _)

theorem touches_endAuthority (s : State) : Touches [.authority] s s.endAuthority := by
  refine .of rfl fun p => ?_
  cases p <;> first | exact .inl (by decide) | exact .inr rfl | exact .inr ⟨rfl, rfl⟩ | exact .inr ⟨rfl, rfl, rfl⟩ | exact .inr ⟨rfl, rfl, rfl, rfl⟩

theorem touches_takeAuthority (c n : Nat) (s : State) : Touches [.authority, .faults] s (s.takeAuthority c n) := by
  unfold State.takeAuthority
  refine Touches.ite ?_ (.refl _ _)
  refine Touches.andThen (ps := [.authority]) ?_ (touches_clearFaults _ _) (by decide) (by decide)
  refine .of rfl fun p => ?_
  cases p <;> first | exact .inl (by decide) | exact .inr rfl | exact .inr ⟨rfl, rfl⟩ | exact .inr ⟨rfl, rfl, rfl⟩ | exact .inr ⟨rfl, rfl, rfl, rfl⟩

theorem touches_giveAuthority (c : Nat) (s : State) : Touches [.authority] s (s.giveAuthority c) := by
  unfold State.giveAuthority
  exact Touches.ite (touches_endAuthority _) (.refl _ _)

theorem touches_lapseAuthority (s : State) : Touches [.authority, .faults] s s.lapseAuthority := by
  unfold State.lapseAuthority
  split
  · exact (touches_endAuthority _).andThen (touches_raise _ _ _) (by decide) (by decide)
  · exact .refl _ _

theorem touches_keepAuthority (c n : Nat) (s : State) : Touches [.authority, .faults] s (s.keepAuthority c n) := by
  unfold State.keepAuthority
  refine Touches.ite (Touches.ite ?_ (touches_lapseAuthority _)) (.refl _ _)
  refine .of rfl fun p => ?_
  cases p <;> first | exact .inl (by decide) | exact .inr rfl | exact .inr ⟨rfl, rfl⟩ | exact .inr ⟨rfl, rfl, rfl⟩ | exact .inr ⟨rfl, rfl, rfl, rfl⟩

theorem touches_takeTest (m : Nat) (s : State) : Touches [.speaker] s (s.takeTest m) := by
  unfold State.takeTest
  exact Touches.ite (.refl _ _) (touches_speaker _ _)

/-! ## The cadence generator -/

/-- A change of the cadence unit. -/
theorem touches_cadence (u : CadenceUnit) (s : State) : Touches [.cadence] s { s with cadence := u } := by
  refine .of rfl fun p => ?_
  cases p <;> first | exact .inl (by decide) | exact .inr rfl | exact .inr ⟨rfl, rfl⟩ | exact .inr ⟨rfl, rfl, rfl⟩ | exact .inr ⟨rfl, rfl, rfl, rfl⟩

theorem touches_cadenceReact (s : State) : Touches [.cadence] s s.cadenceReact := by
  unfold State.cadenceReact
  exact Touches.ite (touches_cadence _ _) (.refl _ _)

theorem touches_tickCadence (s : State) : Touches [.cadence] s s.tickCadence := by
  unfold State.tickCadence
  exact Touches.ite (touches_cadence _ _) (.refl _ _)

theorem touches_pulseBegins (k : CadenceKind) (s : State) : Touches [.cadence] s (s.pulseBegins k) :=
  touches_cadence _ _

theorem touches_pulseEnds (k : CadenceKind) (l : Bool) (s : State) : Touches [.cadence] s (s.pulseEnds k l) :=
  touches_cadence _ _

theorem touches_pulseBoundary (k : CadenceKind) (s : State) : Touches [.cadence] s (s.pulseBoundary k) := by
  unfold State.pulseBoundary
  dsimp only
  exact Touches.ite ((touches_cadence _ _).trans (touches_pulseBegins _ _))
    ((touches_cadence _ _).trans (touches_pulseEnds _ _ _))

theorem touches_queueMark (k : CadenceKind) (s : State) : Touches [.markSlots] s (s.queueMark k) := by
  unfold State.queueMark
  dsimp only
  split <;> (refine .of rfl fun p => ?_; cases p <;> first | exact .inl (by decide) | exact .inr rfl | exact .inr ⟨rfl, rfl⟩ | exact .inr ⟨rfl, rfl, rfl⟩ | exact .inr ⟨rfl, rfl, rfl, rfl⟩)

theorem touches_cycleEnd (k : CadenceKind) (s : State) :
    Touches [.cadence, .speaker, .markSlots] s (s.cycleEnd k) := by
  unfold State.cycleEnd
  dsimp only
  refine Touches.ite (.refl _ _) (Touches.ite ?_ ((touches_cadence _ _).mono (by decide)))
  have h0 (u : CadenceUnit) := (touches_cadence u s).mono (qs := [.cadence, .speaker, .markSlots]) (by decide)
  have h (t : State) : Touches [.cadence, .speaker, .markSlots] t ((t.pulseBegins k).toneCycle k) :=
    (touches_pulseBegins k t).andThen (touches_toneCycle k _) (by decide) (by decide)
  exact Touches.ite (((h0 _).trans (h _)).trans ((touches_queueMark _ _).mono (by decide))) ((h0 _).trans (h _))

theorem touches_followMark (n : Nat) (m : MarkRecord) (w : Word16) (s : State) :
    Touches [.cadence, .markSlots] s (s.followMark n m w) := by
  unfold State.followMark Slots.overtake
  dsimp only
  refine Touches.ite (.of rfl fun p => ?_) (.refl _ _)
  split <;> cases p <;>
    first | exact .inl (by decide) | exact .inr rfl | exact .inr ⟨rfl, rfl⟩ | exact .inr ⟨rfl, rfl, rfl⟩
          | exact .inr ⟨rfl, rfl, rfl, rfl⟩

theorem touches_standingLapsed (k : CadenceKind) (s : State) : Touches [.cadence] s (s.standingLapsed k) :=
  touches_cadence _ _

/-! ## The loader -/

theorem touches_load (r : Role) (rec : Tab Byte 64) (s : State) : Touches [.image, .identity, .faults] s (s.load r rec) := by
  unfold State.load
  dsimp only
  split
  · refine Touches.andThen (ps := [.image, .identity]) ?_ (touches_raise _ _ _) (by decide) (by decide)
    refine .of rfl fun p => ?_
    cases p <;> first | exact .inl (by decide) | exact .inr rfl | exact .inr ⟨rfl, rfl⟩ | exact .inr ⟨rfl, rfl, rfl⟩ | exact .inr ⟨rfl, rfl, rfl, rfl⟩
  · refine Touches.trans (t := _) (Touches.mono (ps := [.image, .identity]) ?_ (by decide))
      (Touches.foldl _ (fun t n => (touches_raise _ _ _).mono (by decide)) _ _)
    refine .of rfl fun p => ?_
    cases p <;> first | exact .inl (by decide) | exact .inr rfl | exact .inr ⟨rfl, rfl⟩ | exact .inr ⟨rfl, rfl, rfl⟩ | exact .inr ⟨rfl, rfl, rfl, rfl⟩

theorem touches_stairsAtListen (s : State) : Touches [.stairs] s s.stairsAtListen := by
  unfold State.stairsAtListen
  refine Touches.ite ?_ (.refl _ _)
  refine .of rfl fun p => ?_
  cases p <;> first | exact .inl (by decide) | exact .inr rfl | exact .inr ⟨rfl, rfl⟩ | exact .inr ⟨rfl, rfl, rfl⟩ | exact .inr ⟨rfl, rfl, rfl, rfl⟩

theorem touches_listenEntry (p : Inputs) (s : State) :
    Touches [.lifecycle, .listen, .holdOff, .pins, .zones, .stairs, .cars, .runLamp, .faults] s (s.listenEntry p) := by
  unfold State.listenEntry
  dsimp only
  refine Touches.trans (t := _) ?_ ((touches_carsAtListen _).mono (by decide))
  refine Touches.trans (t := _) ?_ ((touches_stairsAtListen _).mono (by decide))
  refine .of rfl fun p => ?_
  cases p <;> first | exact .inl (by decide) | exact .inr rfl | exact .inr ⟨rfl, rfl⟩ | exact .inr ⟨rfl, rfl, rfl⟩ | exact .inr ⟨rfl, rfl, rfl, rfl⟩

/-! ## The peer table -/

theorem touches_loopback (s : State) : Touches [.peers] s s.loopback := by
  unfold State.loopback
  dsimp only
  split
  · exact touches_peers _ rfl
  · exact touches_peers _ rfl
  · exact touches_peers _ rfl
  · exact .refl _ _

theorem touches_agePeers (s : State) : Touches [.peers] s s.agePeers := touches_peers _ rfl

theorem touches_silence (a : Nat) (s : State) : Touches [.peers, .faults] s (s.silence a) :=
  (touches_peers _ (Peers.updBase_duplicateAge _ _ _)).andThen (touches_raise _ _ _) (by decide) (by decide)

theorem touches_settleSilence (a : Nat) (s : State) : Touches [.peers, .faults] s (s.settleSilence a) :=
  .ite (touches_silence a s) (.refl _ _)

/-- A change of the duplicate age. -/
theorem touches_duplicateAge (n : Option Nat) (s : State) :
    Touches [.duplicateAge] s { s with peers := { s.peers with duplicateAge := n } } := by
  refine .of rfl fun p => ?_
  cases p <;> first | exact .inl (by decide) | exact .inr rfl | exact .inr ⟨rfl, rfl⟩ | exact .inr ⟨rfl, rfl, rfl⟩ | exact .inr ⟨rfl, rfl, rfl, rfl⟩

theorem touches_ageDuplicate (s : State) : Touches [.duplicateAge] s s.ageDuplicate := touches_duplicateAge _ _

theorem touches_endDuplicate (s : State) : Touches [.duplicateAge, .faults] s s.endDuplicate :=
  (touches_duplicateAge _ _).andThen (touches_clearFault _ _ _) (by decide) (by decide)

theorem touches_duplicateHeard (s : State) : Touches [.duplicateAge, .faults] s s.duplicateHeard := by
  unfold State.duplicateHeard
  dsimp only
  have h1 : Touches [.duplicateAge, .faults] s (if s.duplicateDue = true then s.endDuplicate else s) :=
    .ite (touches_endDuplicate s) (.refl _ _)
  refine h1.trans (Touches.trans (t := _) ?_ ((touches_duplicateAge _ _).mono (by decide)))
  exact Touches.ite ((touches_raise _ _ _).mono (by decide)) (.refl _ _)

theorem touches_peersAllClear (s : State) : Touches [.peers, .faults] s s.peersAllClear := by
  unfold State.peersAllClear
  exact Touches.andThen (ps := [.peers]) (qs := [.faults]) 
    (touches_peers (q := s.peers.allClear s.station.address) s rfl) (touches_clearFaults _ _) (by decide) (by decide)

theorem touches_checkParameters (a d : Nat) (s : State) : Touches [.peers, .faults] s (s.checkParameters a d) := by
  unfold State.checkParameters
  dsimp only
  have h (f : PeerBase → PeerBase) := (touches_peers s (Peers.updBase_duplicateAge s.peers a f)).mono
    (qs := [.peers, .faults]) (by decide)
  exact Touches.ite ((h _).trans ((touches_raise _ _ _).mono (by decide)))
    (Touches.ite ((h _).trans ((touches_clearFault _ _ _).mono (by decide))) (h _))

theorem touches_checkPhase (f : Nat) (s : State) : Touches [.peers, .faults] s (s.checkPhase f) := by
  unfold State.checkPhase
  dsimp only
  have h (g : FloorEntry → FloorEntry) := (touches_peers (q := s.peers.updFloor f g) s rfl).mono
    (qs := [.peers, .faults]) (by decide)
  exact Touches.ite ((h _).trans ((touches_clearFault _ _ _).mono (by decide)))
    (Touches.ite ((h _).trans ((touches_raise _ _ _).mono (by decide))) (h _))

/-- The parts that an all-clear at the station may change before the reactions. -/
def Part.allClear : List Part :=
  [.generation, .general, .holdEpoch, .silenceEpoch, .origins, .phases, .peers, .faults, .zones, .reported, .stairs,
    .speaker]

theorem touches_adoptNewer (g : Byte) (s : State) : Touches Part.allClear s (s.adoptNewer g) := by
  unfold State.adoptNewer
  dsimp only
  refine Touches.trans (t := _) ?_ ((touches_speakerAllClear _).mono (by decide))
  refine Touches.trans (t := _) ?_ ((touches_stairsAllClear _).mono (by decide))
  refine Touches.trans (t := _) ?_ ((touches_builderAllClear _).mono (by decide))
  refine Touches.trans (t := _) ?_ ((touches_zonesAllClear _).mono (by decide))
  refine Touches.trans (t := _) ?_ ((touches_peersAllClear _).mono (by decide))
  refine .of rfl fun p => ?_
  cases p <;> first | exact .inl (by decide) | exact .inr rfl | exact .inr ⟨rfl, rfl⟩ | exact .inr ⟨rfl, rfl, rfl⟩ | exact .inr ⟨rfl, rfl, rfl, rfl⟩

/-! ## The merge -/

theorem touches_refresh (a : Nat) (r : StatusRecord) (s : State) : Touches [.peers, .faults] s (s.refresh a r) := by
  unfold State.refresh
  dsimp only
  have h := (touches_peers s (Peers.updBase_duplicateAge s.peers a (fun b =>
    { b with presence := .live, age := 0, listenComplete := r.listenComplete, digest := r.digest,
             faultCount := r.faultCount, worstFault := r.worstFault }))).mono (qs := [.peers, .faults]) (by decide)
  exact Touches.ite (h.trans ((touches_clearFault _ _ _).mono (by decide))) h

theorem touches_setStanding (a : Nat) (st : PeerStanding) (s : State) : Touches [.peers] s (s.setStanding a st) :=
  touches_peers _ (Peers.updBase_duplicateAge _ _ _)

/-- The parts that a content merge may change before the reactions. -/
def Part.merging : List Part :=
  [.peers, .origins, .silenceEpoch, .faults, .general, .phases, .holdEpoch]

theorem touches_mergeFloor (f : Nat) (z : Tab ZoneReport 8) (s : State) :
    Touches Part.merging s (s.mergeFloor f z) := by
  unfold State.mergeFloor
  dsimp only
  have h (g : FloorEntry → FloorEntry) := (touches_peers (q := s.peers.updFloor f g) s rfl).mono
    (qs := Part.merging) (by decide)
  exact Touches.ite ((h _).trans ((touches_latchOrigin _ _).mono (by decide))) (h _)

theorem touches_ownAlarms (was : Bool) (s : State) : Touches (.zones :: Part.alarm) s (s.ownAlarms was) := by
  unfold State.ownAlarms
  exact Touches.ite (touches_zonesActivated s) (.refl _ _)

/-- The parts that a merged content may change: those of the merge, and those of the own alarms it lets in. -/
def Part.content : List Part := .zones :: Part.alarm ++ Part.merging

theorem touches_mergeContent (a : Nat) (r : StatusRecord) (s : State) :
    Touches Part.content s (s.mergeContent a r) := by
  unfold State.mergeContent
  have h0 := (touches_setStanding a .current s).mono (qs := Part.content) (by decide)
  split
  · dsimp only
    have h1 (z : Tab ZoneReport 8) := (h0.trans ((touches_mergeFloor a z _).mono (by decide))).trans
      ((touches_intake r _).mono (by decide))
    have h2 (t : State) (g : FloorEntry → FloorEntry) := (touches_peers (q := t.peers.updFloor a g) t rfl).mono
      (qs := Part.content) (by decide)
    have h3 (b : Bool) (t : State) := (touches_ownAlarms b t).mono (qs := Part.content) (by decide)
    exact Touches.ite (((h1 _).trans (h2 _ _)).trans (h3 _ _))
      ((((h1 _).trans (h2 _ _)).trans (h3 _ _)).trans ((touches_checkPhase _ _).mono (by decide)))
  · exact h0.trans ((touches_intake r _).mono (by decide))

/-- The parts that a merge may change before the reactions. -/
def Part.merge : List Part := .holdEpoch :: Part.alarm ++ Part.allClear

theorem touches_mergeWindow (a : Nat) (g : Byte) (r : StatusRecord) (s : State) :
    Touches Part.merge s (s.mergeWindow a g r) := by
  have hc (t : State) := (touches_mergeContent a r t).mono (qs := Part.merge) (by decide)
  unfold State.mergeWindow
  refine Touches.ite (hc _) ?_
  split
  · exact ((touches_firstAdoption g s).mono (by decide)).trans (hc _)
  · refine Touches.ite (hc _) (Touches.ite (((touches_adoptNewer g s).mono (by decide)).trans (hc _)) ?_)
    exact (touches_setStanding _ _ _).mono (by decide)

theorem touches_merge (a : Nat) (g : Byte) (r : StatusRecord) (s : State) :
    Touches Part.merge s (s.merge a g r) := by
  unfold State.merge
  dsimp only
  refine Touches.trans (t := _) ?_ (touches_mergeWindow _ _ _ _)
  refine Touches.trans (t := _) ?_ ((touches_peers _ ?_).mono (by decide))
  · refine Touches.trans (t := _) ?_ ((touches_checkParameters _ _ _).mono (by decide))
    exact ((touches_settleSilence a s).mono (by decide)).trans ((touches_refresh _ _ _).mono (by decide))
  · unfold Peers.takeBody; split <;> rfl

end Sys2Proof.Machine
end

