-- ==== Sys2Proof/Laws/Event.lean ====
section
/-! SUPPORT. What one event leaves unchanged, reactions included; what the commands, the receiver, the transmitter and
the link leave unchanged. -/

namespace Sys2Proof.Machine

/-! ## The reactions -/

theorem touches_alarmLampReact (s : State) : Touches [.alarmLamp] s s.alarmLampReact := by
  have h (a : Bool) (b : Timer) :
      Touches [.alarmLamp] s { s with lamps := { s.lamps with alarmLit := a, alarmFlash := b } } := by
    refine .of rfl fun p => ?_
    cases p <;> first | exact .inl (by decide) | exact .inr rfl | exact .inr ⟨rfl, rfl⟩ | exact .inr ⟨rfl, rfl, rfl⟩ | exact .inr ⟨rfl, rfl, rfl, rfl⟩
  unfold State.alarmLampReact
  exact Touches.ite (Touches.ite (.refl _ _) (h _ _)) (h _ _)

/-- The reactions once the own zones have acted on an activation. -/
theorem touches_react (old : State) (c b : Bool) (s : State) :
    Touches Part.reactions s
      (((State.speakerReact old b ((s.stairsReact c b).liftsReact b)).cadenceReact.alarmLampReact).loopback.builderReact
        old) := by
  refine Touches.trans (t := _) ?_ ((touches_builderReact _ _).mono (by decide))
  refine Touches.trans (t := _) ?_ ((touches_loopback _).mono (by decide))
  refine Touches.trans (t := _) ?_ ((touches_alarmLampReact _).mono (by decide))
  refine Touches.trans (t := _) ?_ ((touches_cadenceReact _).mono (by decide))
  refine Touches.trans (t := _) ?_ ((touches_speakerReact _ _ _).mono (by decide))
  refine Touches.trans (t := _) ?_ ((touches_liftsReact _ _).mono (by decide))
  exact (touches_stairsReact _ _ _).mono (by decide)

/-- Whatever an event did, the blocks' reaction to it touches no more than an activation may. -/
theorem touches_finish (s old : State) : Touches Part.activation s (s.finish old) := by
  unfold State.finish
  dsimp only
  refine Touches.ite (.refl _ _) ?_
  refine Touches.trans (t := _) ?_ ((touches_react old _ _ _).mono (by decide))
  exact Touches.ite ((touches_zonesActivated _).mono (by decide)) (.refl _ _)

/-- An event that does not make the regime active touches no zone and no regime field in the blocks' reaction to it. -/
theorem touches_finish_quiet (s old : State) (h : becameActive old s = false) :
    Touches Part.reactions s (s.finish old) := by
  unfold State.finish
  simp only [h]
  exact Touches.ite (.refl _ _) (touches_react old _ _ _)

/-- The activity and the generation decide whether the regime became active and whether the station took an
all-clear. -/
theorem becameActive_same {s t : State} (ha : t.regime.active = s.regime.active)
    (hg : t.regime.generation = s.regime.generation) : becameActive s t = false := by
  simp [becameActive, clearedBetween, ha, hg]

/-- A change that touches neither origins nor GENERAL leaves the activity. -/
theorem Touches.active_eq {ps : List Part} {s t : State} (h : Touches ps s t) (ho : .origins ∉ ps)
    (hg : .general ∉ ps) : t.regime.active = s.regime.active := by
  have h1 := h.2 _ ho
  have h2 := h.2 _ hg
  simp only [Part.same] at h1 h2
  simp [Regime.active, h1, h2]

/-- An event whose own work leaves the view's activity and generation. -/
theorem touches_event_quiet {ps qs : List Part} {f : State → State} (due : Bool) (s : State)
    (h : Touches ps s (f s)) (ho : .origins ∉ ps) (hg : .general ∉ ps) (hn : .generation ∉ ps)
    (hp : ps ⊆ qs) (hr : Part.reactions ⊆ qs) : Touches qs s (s.event due f) := by
  unfold State.event
  refine Touches.ite ?_ (.refl _ _)
  have hq := becameActive_same (h.active_eq ho hg) (h.2 _ hn)
  exact h.andThen (touches_finish_quiet _ _ hq) hp hr

/-- Any event. -/
theorem touches_event {ps qs : List Part} {f : State → State} (due : Bool) (s : State) (h : Touches ps s (f s))
    (hp : ps ⊆ qs) (hr : Part.activation ⊆ qs) : Touches qs s (s.event due f) := by
  unfold State.event
  exact Touches.ite (h.andThen (touches_finish _ _) hp hr) (.refl _ _)

/-! ## COMMANDs -/

/-- The parts that an obeyed COMMAND may change before the reactions. -/
def Part.obeying : List Part :=
  [.restoreRefused, .cars, .authority] ++ Part.allClear

theorem touches_window (g : Byte) (s : State) : Touches Part.allClear s (s.window g) := by
  unfold State.window
  split
  · exact (touches_firstAdoption g s).mono (by decide)
  · exact Touches.ite (touches_adoptNewer g s) (.refl _ _)

theorem touches_regimeCommand (g : Byte) (f : State → State) (s : State)
    (h : ∀ t, Touches [.general, .phases, .holdEpoch, .silenceEpoch] t (f t)) :
    Touches Part.allClear s (s.regimeCommand g f) := by
  unfold State.regimeCommand
  exact Touches.ite (.refl _ _) ((touches_window g s).trans ((h _).mono (by decide)))

theorem touches_obey (n : Nat) (g : Byte) (c : Command) (s : State) : Touches Part.obeying s (s.obey n g c) := by
  have hr {f : State → State} (h : ∀ t, Touches [.general, .phases, .holdEpoch, .silenceEpoch] t (f t)) :=
    (touches_regimeCommand g f s h).mono (qs := Part.obeying) (by decide)
  have hw := (touches_window g s).mono (qs := Part.obeying) (by decide)
  cases c with
  | general => exact hr (fun t => (touches_setGeneral t).mono (by decide))
  | hold e => exact hr (fun t => (touches_adoptHold e t).mono (by decide))
  | resume e => exact hr (fun t => (touches_adoptHold e t).mono (by decide))
  | silence e => exact hr (fun t => (touches_adoptSilence e t).mono (by decide))
  | resound e => exact hr (fun t => (touches_adoptSilence e t).mono (by decide))
  | allClear => exact hw
  | zoneDisable z => exact Touches.ite (hw.trans ((touches_disableZone _ _).mono (by decide))) hw
  | zoneEnable z => exact Touches.ite (hw.trans ((touches_enableZone _ _).mono (by decide))) hw
  | take m k => exact Touches.ite (hw.trans ((touches_takeAuthority _ _ _).mono (by decide))) hw
  | keep k => exact Touches.ite (hw.trans ((touches_keepAuthority _ _ _).mono (by decide))) hw
  | give m => exact Touches.ite (hw.trans ((touches_giveAuthority _ _).mono (by decide))) hw
  | testAnnounce m k => exact Touches.ite (hw.trans ((touches_takeTest _ _).mono (by decide))) hw
  | liftRestore b => exact Touches.ite (hw.trans ((touches_restoreBank _).mono (by decide))) hw

/-! ## Reception -/

/-- The parts that a record handed on may change before the reactions. -/
def Part.handing : List Part := [.line, .duplicateAge, .cadence, .markSlots, .lineLamp] ++ Part.alarm ++ Part.obeying

theorem touches_takeStatusFrame (f : Frame) (s : State) : Touches Part.handing s (s.takeStatusFrame f) := by
  unfold State.takeStatusFrame
  split
  · exact (touches_merge _ _ _ _).mono (by decide)
  · exact (touches_setAside _).mono (by decide)

theorem touches_takeCommandFrame (f : Frame) (s : State) : Touches Part.handing s (s.takeCommandFrame f) := by
  unfold State.takeCommandFrame
  split
  · exact (touches_obey _ _ _ _).mono (by decide)
  · exact (touches_setAside _).mono (by decide)

theorem touches_takeMarkFrame (f : Frame) (w : Word16) (s : State) : Touches Part.handing s (s.takeMarkFrame f w) := by
  unfold State.takeMarkFrame
  split
  · exact (touches_followMark _ _ _ _).mono (by decide)
  · exact (touches_setAside _).mono (by decide)

theorem touches_handOn (f : Frame) (w : Word16) (s : State) : Touches Part.handing s (s.handOn f w) := by
  unfold State.handOn
  split
  · exact touches_takeStatusFrame f s
  · exact touches_takeStatusFrame f s
  · exact touches_takeStatusFrame f s
  · exact touches_takeCommandFrame f s
  · exact touches_takeMarkFrame f w s
  · exact .refl _ _

theorem touches_accept {hand : Frame → Word16 → State → State} (hh : ∀ f w t, Touches Part.handing t (hand f w t))
    (f : Frame) (w : Word16) (s : State) : Touches Part.handing s (s.accept hand f w) := by
  have h1 : Touches Part.handing s s.countAccepted := by
    refine .of rfl fun p => ?_
    cases p <;> first | exact .inl (by decide) | exact .inr rfl | exact .inr ⟨rfl, rfl⟩ | exact .inr ⟨rfl, rfl, rfl⟩ | exact .inr ⟨rfl, rfl, rfl, rfl⟩
  unfold State.accept
  dsimp only
  exact Touches.ite (h1.trans ((touches_duplicateHeard _).mono (by decide)))
    (Touches.ite (h1.trans ((touches_raiseAtOnce _ _ _).mono (by decide))) (h1.trans (hh _ _ _)))

theorem touches_line (l : LineCounters) (s : State) : Touches [.line] s { s with line := l } := by
  refine .of rfl fun p => ?_
  cases p <;> first | exact .inl (by decide) | exact .inr rfl | exact .inr ⟨rfl, rfl⟩ | exact .inr ⟨rfl, rfl, rfl⟩ | exact .inr ⟨rfl, rfl, rfl, rfl⟩

theorem touches_rxAct {hand : Frame → Word16 → State → State} (hh : ∀ f w t, Touches Part.handing t (hand f w t))
    (e : RxEvent) (s : State) : Touches Part.handing s (State.rxAct hand e s) := by
  have hb (l : LineCounters) : Touches Part.handing s ({ s with line := l }).badFrame :=
    (touches_line l s).andThen (touches_badFrame _) (by decide) (by decide)
  cases e with
  | syncMismatch => exact .refl _ _
  | abandoned => exact .refl _ _
  | stuffError => exact hb _
  | jamSeen => exact (touches_line _ s).mono (by decide)
  | badLength => exact hb _
  | crcError => exact hb _
  | unknownKind => exact hb _
  | accepted f w => exact touches_accept hh f w s

/-- One event of the receiver, reactions included. -/
theorem touches_rxEvent {hand : Frame → Word16 → State → State} (hh : ∀ f w t, Touches Part.handing t (hand f w t))
    (s : State) (e : RxEvent) : Touches Part.reception s (State.rxEvent hand s e) :=
  touches_event true s (touches_rxAct hh e s) (by decide) (by decide)

theorem touches_rx (r : Receiver) (s : State) : Touches [.rx] s { s with rx := r } := by
  refine .of rfl fun p => ?_
  cases p <;> first | exact .inl (by decide) | exact .inr rfl | exact .inr ⟨rfl, rfl⟩ | exact .inr ⟨rfl, rfl, rfl⟩ | exact .inr ⟨rfl, rfl, rfl, rfl⟩

/-- Listening to the line. -/
theorem touches_hear {hand : Frame → Word16 → State → State} (hh : ∀ f w t, Touches Part.handing t (hand f w t))
    (line : Samples) (s : State) : Touches Part.reception s (s.hear hand line) := by
  unfold State.hear
  refine Touches.ite ?_ (.refl _ _)
  exact ((touches_rx _ s).mono (by decide)).trans (Touches.foldl _ (touches_rxEvent hh) _ _)

/-! Every row's hand is what `handOn` does: the row names the record that the line is expected to bring. -/

theorem handStatusFloor_eq : handStatusFloor = fun f w s => s.handOn f w := by
  funext f w s
  unfold handStatusFloor State.handOn
  split <;> simp_all

theorem handStatusLift_eq : handStatusLift = fun f w s => s.handOn f w := by
  funext f w s
  unfold handStatusLift State.handOn
  split <;> simp_all

theorem handStatusConsole_eq : handStatusConsole = fun f w s => s.handOn f w := by
  funext f w s
  unfold handStatusConsole State.handOn
  split <;> simp_all

theorem handMark_eq : handMark = fun f w s => s.handOn f w := by
  funext f w s
  unfold handMark State.handOn
  split <;> simp_all

theorem handGeneral_eq : handGeneral = fun f w s => s.handOn f w := by
  funext f w s
  unfold handGeneral Frame.command State.handOn State.takeCommandFrame
  split
  · rename_i h
    split at h <;> simp_all [State.obey]
  · rfl

theorem handHold_eq : handHold = fun f w s => s.handOn f w := by
  funext f w s
  unfold handHold Frame.command State.handOn State.takeCommandFrame
  split
  · rename_i h
    split at h <;> simp_all [State.obey]
  · rfl

theorem handResume_eq : handResume = fun f w s => s.handOn f w := by
  funext f w s
  unfold handResume Frame.command State.handOn State.takeCommandFrame
  split
  · rename_i h
    split at h <;> simp_all [State.obey]
  · rfl

theorem handSilence_eq : handSilence = fun f w s => s.handOn f w := by
  funext f w s
  unfold handSilence Frame.command State.handOn State.takeCommandFrame
  split
  · rename_i h
    split at h <;> simp_all [State.obey]
  · rfl

theorem handResound_eq : handResound = fun f w s => s.handOn f w := by
  funext f w s
  unfold handResound Frame.command State.handOn State.takeCommandFrame
  split
  · rename_i h
    split at h <;> simp_all [State.obey]
  · rfl

theorem handAllClear_eq : handAllClear = fun f w s => s.handOn f w := by
  funext f w s
  unfold handAllClear Frame.command State.handOn State.takeCommandFrame
  split
  · rename_i h
    split at h <;> simp_all [State.obey]
  · rfl

theorem handZoneDisable_eq : handZoneDisable = fun f w s => s.handOn f w := by
  funext f w s
  unfold handZoneDisable Frame.command State.handOn State.takeCommandFrame
  split
  · rename_i h
    split at h <;> simp_all [State.obey]
  · rfl

theorem handZoneEnable_eq : handZoneEnable = fun f w s => s.handOn f w := by
  funext f w s
  unfold handZoneEnable Frame.command State.handOn State.takeCommandFrame
  split
  · rename_i h
    split at h <;> simp_all [State.obey]
  · rfl

theorem handTake_eq : handTake = fun f w s => s.handOn f w := by
  funext f w s
  unfold handTake Frame.command State.handOn State.takeCommandFrame
  split
  · rename_i h
    split at h <;> simp_all [State.obey]
  · rfl

theorem handKeep_eq : handKeep = fun f w s => s.handOn f w := by
  funext f w s
  unfold handKeep Frame.command State.handOn State.takeCommandFrame
  split
  · rename_i h
    split at h <;> simp_all [State.obey]
  · rfl

theorem handGive_eq : handGive = fun f w s => s.handOn f w := by
  funext f w s
  unfold handGive Frame.command State.handOn State.takeCommandFrame
  split
  · rename_i h
    split at h <;> simp_all [State.obey]
  · rfl

theorem handTestAnnounce_eq : handTestAnnounce = fun f w s => s.handOn f w := by
  funext f w s
  unfold handTestAnnounce Frame.command State.handOn State.takeCommandFrame
  split
  · rename_i h
    split at h <;> simp_all [State.obey]
  · rfl

theorem handLiftRestore_eq : handLiftRestore = fun f w s => s.handOn f w := by
  funext f w s
  unfold handLiftRestore Frame.command State.handOn State.takeCommandFrame
  split
  · rename_i h
    split at h <;> simp_all [State.obey]
  · rfl

theorem handUnknownCommandKind_eq : handUnknownCommandKind = fun f w s => s.handOn f w := by
  funext f w s
  unfold handUnknownCommandKind Frame.command State.handOn State.takeCommandFrame
  by_cases h : f.code = 4
  · cases hc : takeCommand f.dest f.payload <;> simp [h]
  · simp [h]

/-! ## Transmission -/

theorem touches_tx (x : Transmitter) (s : State) : Touches [.tx] s { s with tx := x } := by
  refine .of rfl fun p => ?_
  cases p <;> first | exact .inl (by decide) | exact .inr rfl | exact .inr ⟨rfl, rfl⟩ | exact .inr ⟨rfl, rfl, rfl⟩ | exact .inr ⟨rfl, rfl, rfl, rfl⟩

/-- The slots a flight may change. -/
def Part.slots : List Part := [.statusSlot, .fifo, .markSlots]

theorem touches_slots (q : Slots) (s : State) : Touches Part.slots s { s with slots := q } := by
  refine .of rfl fun p => ?_
  cases p <;> first | exact .inl (by decide) | exact .inr rfl | exact .inr ⟨rfl, rfl⟩ | exact .inr ⟨rfl, rfl, rfl⟩ | exact .inr ⟨rfl, rfl, rfl, rfl⟩

/-- The parts that the start of a frame may change before the reactions. -/
def Part.starting : List Part := [.tx, .snapshot, .heartbeat, .changeDue] ++ Part.slots

theorem touches_startStatus (e : StatusEntry) (s : State) : Touches Part.starting s (s.startStatus e) := by
  refine Touches.trans (t := _) ((touches_takeSnapshot s).mono (by decide)) ?_
  refine .of rfl fun p => ?_
  cases p <;> first | exact .inl (by decide) | exact .inr rfl | exact .inr ⟨rfl, rfl⟩ | exact .inr ⟨rfl, rfl, rfl⟩ | exact .inr ⟨rfl, rfl, rfl, rfl⟩

theorem touches_startCommand (e : CommandEntry) (r : List CommandEntry) (s : State) :
    Touches Part.starting s (s.startCommand e r) := by
  refine .of rfl fun p => ?_
  cases p <;> first | exact .inl (by decide) | exact .inr rfl | exact .inr ⟨rfl, rfl⟩ | exact .inr ⟨rfl, rfl, rfl⟩ | exact .inr ⟨rfl, rfl, rfl, rfl⟩

theorem touches_startMark (m : MarkEntry) (s : State) : Touches Part.starting s (s.startMark m) := by
  refine .of rfl fun p => ?_
  cases p <;> first | exact .inl (by decide) | exact .inr rfl | exact .inr ⟨rfl, rfl⟩ | exact .inr ⟨rfl, rfl, rfl⟩ | exact .inr ⟨rfl, rfl, rfl, rfl⟩

theorem touches_tryStart (n : Nat) (s : State) : Touches Part.starting s (State.tryStart n s) := by
  induction n generalizing s with
  | zero => exact .refl _ _
  | succ n ih =>
    unfold State.tryStart
    split
    · exact .refl _ _
    · refine Touches.ite (.refl _ _) ?_
      split
      · exact touches_startStatus _ _
      · exact touches_startCommand _ _ _
      · exact Touches.ite (((touches_slots _ s).mono (by decide)).trans (ih _)) (touches_startMark _ _)
      · exact .refl _ _

theorem touches_ownerUnsent (k : SlotId) (s : State) : Touches [.snapshot, .changeDue] s (s.ownerUnsent k) := by
  unfold State.ownerUnsent
  split
  · exact touches_statusUnsent s
  · exact .refl _ _

/-- A change of the transmitter and the slots. -/
theorem touches_flight (x : Transmitter) (q : Slots) (s : State) :
    Touches (.tx :: Part.slots) s { s with tx := x, slots := q } := by
  refine .of rfl fun p => ?_
  cases p <;> first | exact .inl (by decide) | exact .inr rfl | exact .inr ⟨rfl, rfl⟩ | exact .inr ⟨rfl, rfl, rfl⟩ | exact .inr ⟨rfl, rfl, rfl, rfl⟩

theorem touches_defer (k : SlotId) (s : State) :
    Touches ([.tx, .snapshot, .changeDue] ++ Part.slots) s (s.defer k) :=
  ((touches_flight _ _ s).mono (by decide)).trans ((touches_ownerUnsent k _).mono (by decide))

theorem touches_link (l : Link) (s : State) : Touches [.link] s { s with link := l } := by
  refine .of rfl fun p => ?_
  cases p <;> first | exact .inl (by decide) | exact .inr rfl | exact .inr ⟨rfl, rfl⟩ | exact .inr ⟨rfl, rfl, rfl⟩ | exact .inr ⟨rfl, rfl, rfl, rfl⟩

theorem touches_commandDropped (e : CommandEntry) (s : State) : Touches [.link] s (s.commandDropped e) :=
  .ite (touches_link _ s) (.refl _ _)

theorem touches_ownerDropped (k : SlotId) (h : Option CommandEntry) (s : State) :
    Touches [.snapshot, .changeDue, .spacing, .link] s (s.ownerDropped k h) := by
  unfold State.ownerDropped
  split
  · exact (touches_statusDropped s).mono (by decide)
  · exact (touches_commandDropped _ s).mono (by decide)
  · exact .refl _ _

/-- The parts that a collision may change before the reactions. -/
def Part.colliding : List Part :=
  [.tx, .line, .faults, .snapshot, .changeDue, .spacing, .link] ++ Part.slots

theorem touches_dropFrame (k : SlotId) (f : Frame) (s : State) : Touches Part.colliding s (s.dropFrame k f) := by
  unfold State.dropFrame
  dsimp only
  refine Touches.trans (t := _) ?_ ((touches_ownerDropped _ _ _).mono (by decide))
  refine Touches.trans (t := _) ?_ ((touches_raise _ _ _).mono (by decide))
  refine .of rfl fun p => ?_
  cases p <;> first | exact .inl (by decide) | exact .inr rfl | exact .inr ⟨rfl, rfl⟩ | exact .inr ⟨rfl, rfl, rfl⟩ | exact .inr ⟨rfl, rfl, rfl, rfl⟩

theorem touches_collide (k : SlotId) (f : Frame) (s : State) : Touches Part.colliding s (s.collide k f) := by
  have h1 (l : LineCounters) : Touches Part.colliding s { s with tx := .jamming, line := l } := by
    refine .of rfl fun p => ?_
    cases p <;> first | exact .inl (by decide) | exact .inr rfl | exact .inr ⟨rfl, rfl⟩ | exact .inr ⟨rfl, rfl, rfl⟩ | exact .inr ⟨rfl, rfl, rfl, rfl⟩
  unfold State.collide
  dsimp only
  refine Touches.ite ?_ ((h1 _).trans (touches_dropFrame _ _ _))
  exact ((h1 _).trans ((touches_slots _ _).mono (by decide))).trans ((touches_ownerUnsent _ _).mono (by decide))

theorem touches_release (s : State) : Touches [.tx, .rx] s s.release := by
  refine .of rfl fun p => ?_
  cases p <;> first | exact .inl (by decide) | exact .inr rfl | exact .inr ⟨rfl, rfl⟩ | exact .inr ⟨rfl, rfl, rfl⟩ | exact .inr ⟨rfl, rfl, rfl, rfl⟩

theorem touches_ownTake (m : FloorMask) (n : Nat) (s : State) : Touches [.link] s (s.ownTake m n) :=
  .ite (touches_link _ s) (.refl _ _)

theorem touches_ownGive (m : FloorMask) (s : State) : Touches [.link] s (s.ownGive m) :=
  .ite (touches_link _ s) (touches_link _ s)

theorem touches_applyOwn (e : CommandEntry) (s : State) : Touches (.link :: Part.allClear) s (s.applyOwn e) := by
  have hr {f : State → State} (h : ∀ t, Touches [.general, .phases, .holdEpoch, .silenceEpoch] t (f t)) :=
    (touches_regimeCommand e.generation f s h).mono (qs := .link :: Part.allClear) (by decide)
  unfold State.applyOwn
  split
  · exact hr (fun t => (touches_setGeneral t).mono (by decide))
  · exact hr (fun t => (touches_adoptHold _ t).mono (by decide))
  · exact hr (fun t => (touches_adoptHold _ t).mono (by decide))
  · exact hr (fun t => (touches_adoptSilence _ t).mono (by decide))
  · exact hr (fun t => (touches_adoptSilence _ t).mono (by decide))
  · exact (touches_window _ s).mono (by decide)
  · exact (touches_ownTake _ _ s).mono (by decide)
  · exact (touches_ownGive _ s).mono (by decide)
  · exact .refl _ _

theorem touches_commandCompleted (e : CommandEntry) (s : State) :
    Touches (.link :: Part.allClear) s (s.commandCompleted e) :=
  .ite (((touches_link _ s).mono (by decide)).trans (touches_applyOwn _ _)) (.refl _ _)

theorem touches_ownerCompleted (k : SlotId) (h : Option CommandEntry) (s : State) :
    Touches ([.link, .stairs, .cars, .snapshot, .spacing] ++ Part.allClear) s (s.ownerCompleted k h) := by
  unfold State.ownerCompleted
  split
  · exact (touches_statusCompleted s).mono (by decide)
  · exact (touches_commandCompleted _ s).mono (by decide)
  · exact .refl _ _

/-- The parts that a completion may change before the reactions. -/
def Part.completing : List Part :=
  [.tx, .rx, .line, .link, .cars, .snapshot, .spacing] ++ Part.slots ++ Part.allClear

theorem touches_complete (k : SlotId) (f : Frame) (s : State) : Touches Part.completing s (s.complete k f) := by
  unfold State.complete
  dsimp only
  refine Touches.trans (t := _) ?_ ((touches_ownerCompleted _ _ _).mono (by decide))
  refine Touches.trans (t := _) ?_ ((touches_clearFault _ _ _).mono (by decide))
  refine Touches.trans (t := _) ((touches_release s).mono (by decide)) ?_
  refine .of rfl fun p => ?_
  cases p <;> first | exact .inl (by decide) | exact .inr rfl | exact .inr ⟨rfl, rfl⟩ | exact .inr ⟨rfl, rfl, rfl⟩ | exact .inr ⟨rfl, rfl, rfl, rfl⟩

theorem touches_heartbeat (s : State) : Touches [.heartbeat] s s.heartbeat := by
  refine .of rfl fun p => ?_
  cases p <;> first | exact .inl (by decide) | exact .inr rfl | exact .inr ⟨rfl, rfl⟩ | exact .inr ⟨rfl, rfl, rfl⟩ | exact .inr ⟨rfl, rfl, rfl, rfl⟩

theorem touches_openSpacing (s : State) : Touches [.spacing] s s.openSpacing := by
  refine .of rfl fun p => ?_
  cases p <;> first | exact .inl (by decide) | exact .inr rfl | exact .inr ⟨rfl, rfl⟩ | exact .inr ⟨rfl, rfl, rfl⟩ | exact .inr ⟨rfl, rfl, rfl, rfl⟩

/-! ## The link -/

theorem touches_answer (b : List Byte) (r : State → List Byte) (s : State) : Touches [.link] s (s.answer b r) :=
  .ite (touches_link _ s) (.refl _ _)

/-- A request whose own work leaves the view's activity and generation. -/
theorem touches_request {ps qs : List Part} (b : List Byte) (f : State → State) (r : State → List Byte) (s : State)
    (h : ∀ t, Touches ps t (f t)) (ho : .origins ∉ ps) (hg : .general ∉ ps) (hn : .generation ∉ ps)
    (hp : ps ⊆ qs) (hl : .link ∈ qs) (hr : Part.reactions ⊆ qs) : Touches qs s (s.request b f r) := by
  have hlink (l : Link) (t : State) : Touches qs t { t with link := l } :=
    (touches_link l t).mono (by simp [hl])
  unfold State.request
  dsimp only
  refine Touches.ite ?_ (.refl _ _)
  refine Touches.trans (t := _) ?_ (hlink _ _)
  have h1 := (touches_link { s.link with taken := true, buffer := b } s)
  have h2 := h { s with link := { s.link with taken := true, buffer := b } }
  have hq : becameActive s (f { s with link := { s.link with taken := true, buffer := b } }) = false :=
    becameActive_same ((h2.active_eq ho hg).trans (h1.active_eq (by decide) (by decide)))
      (Part.same.trans (p := .generation) (h1.2 _ (by decide)) (h2.2 _ hn))
  exact ((hlink _ _).trans (h2.mono hp)).trans ((touches_finish_quiet _ _ hq).mono hr)

theorem touches_restartLinkKeep (s : State) : Touches [.link] s s.restartLinkKeep := touches_link _ s

theorem touches_linkFifo (l : Link) (q : List CommandEntry) (s : State) :
    Touches [.link, .fifo] s { s with link := l, slots := { s.slots with fifo := q } } := by
  refine .of rfl fun p => ?_
  cases p <;> first | exact .inl (by decide) | exact .inr rfl | exact .inr ⟨rfl, rfl⟩ | exact .inr ⟨rfl, rfl, rfl⟩ | exact .inr ⟨rfl, rfl, rfl, rfl⟩

theorem touches_issue (i : Issue) (s : State) : Touches [.link, .fifo] s (s.issue i) := by
  unfold State.issue
  dsimp only
  split
  · exact .refl _ _
  · exact (touches_link _ s).mono (by decide)
  · exact touches_linkFifo _ _ s

theorem touches_issueRequest (i : Issue) (s : State) :
    Touches ([.link, .fifo] ++ Part.reactions) s (s.issueRequest i) :=
  touches_request _ _ _ s (touches_issue i) (by decide) (by decide) (by decide) (by decide) (by decide) (by decide)

theorem touches_keepPeriod (s : State) : Touches [.link, .fifo] s s.keepPeriod := by
  unfold State.keepPeriod
  dsimp only
  exact Touches.ite ((touches_link _ s).mono (by decide)) (touches_linkFifo _ _ s)

theorem touches_endLinkKeep (s : State) : Touches [.link] s s.endLinkKeep := touches_link _ s

end Sys2Proof.Machine
end

