-- ==== Sys2Proof/Laws/Time.lean ====
section
/-! SUPPORT. What each time-driven event and the tick event leave unchanged. -/

namespace Sys2Proof.Machine

/-! ## Field events -/

theorem touches_onClassAccepted (z : Nat) (s : State) : Touches Part.activation s (s.onClassAccepted z) :=
  touches_event _ s (touches_acceptClass _ _ s) (by decide) (by decide)

theorem touches_onStageExpiry (z : Nat) (s : State) : Touches (.zones :: Part.reactions) s (s.onStageExpiry z) :=
  touches_event_quiet _ s (touches_changeZone z 0 _ s) (by decide) (by decide) (by decide) (by decide) (by decide)

theorem touches_onConfirmExpiry (z : Nat) (s : State) : Touches (.zones :: Part.reactions) s (s.onConfirmExpiry z) :=
  touches_event_quiet _ s (touches_changeZone z 0 _ s) (by decide) (by decide) (by decide) (by decide) (by decide)

theorem touches_onStairInput (i : Nat) (k : StairInput) (s : State) : Touches Part.reactions s (s.onStairInput i k) :=
  touches_event_quiet _ s (touches_acceptStairInput i k s) (by decide) (by decide) (by decide) (by decide) (by decide)

theorem touches_onMismatchExpiry (i : Nat) (s : State) : Touches Part.reactions s (s.onMismatchExpiry i) :=
  touches_event_quiet _ s (touches_mismatchExpired i s) (by decide) (by decide) (by decide) (by decide) (by decide)

theorem touches_onHeldOpenExpiry (i : Nat) (s : State) : Touches Part.reactions s (s.onHeldOpenExpiry i) :=
  touches_event_quiet _ s (touches_heldOpenExpired i s) (by decide) (by decide) (by decide) (by decide) (by decide)

theorem touches_onCarInput (c : Nat) (i : CarInput) (s : State) : Touches Part.reactions s (s.onCarInput c i) :=
  touches_event_quiet _ s (touches_acceptCarInput c i s) (by decide) (by decide) (by decide) (by decide) (by decide)

theorem touches_onRecallExpiry (c : Nat) (s : State) : Touches Part.reactions s (s.onRecallExpiry c) :=
  touches_event_quiet _ s (touches_recallExpired c s) (by decide) (by decide) (by decide) (by decide) (by decide)

theorem touches_onBusyLevel (s : State) : Touches Part.reactions s (s.onBusyLevel) :=
  touches_event_quiet _ s (touches_busyRead s) (by decide) (by decide) (by decide) (by decide) (by decide)

theorem touches_onMessageExpiry (s : State) : Touches Part.reactions s (s.onMessageExpiry) :=
  touches_event_quiet _ s (touches_messageExpired s) (by decide) (by decide) (by decide) (by decide) (by decide)

theorem touches_onStrobeEnd (s : State) : Touches Part.reactions s (s.onStrobeEnd) :=
  touches_event_quiet _ s (touches_speaker _ s) (by decide) (by decide) (by decide) (by decide) (by decide)

theorem touches_onPauseExpiry (s : State) : Touches Part.reactions s (s.onPauseExpiry) :=
  touches_event_quiet _ s (touches_pauseExpired s) (by decide) (by decide) (by decide) (by decide) (by decide)

theorem touches_onKeepExpiry (s : State) : Touches (.authority :: Part.reactions) s (s.onKeepExpiry) :=
  touches_event_quiet _ s (touches_lapseAuthority s) (by decide) (by decide) (by decide) (by decide) (by decide)

/-- Both cadence records at a cycle start. -/
theorem touches_onCycleStart (s : State) : Touches (.markSlots :: Part.reactions) s s.onCycleStart :=
  touches_event_quiet _ s ((touches_cycleEnd .alert s).trans (touches_cycleEnd .evacuate _)) (by decide) (by decide) (by decide) (by decide) (by decide)

theorem touches_onPulseBoundary (k : CadenceKind) (s : State) : Touches Part.reactions s (s.onPulseBoundary k) :=
  touches_event_quiet _ s (touches_pulseBoundary k s) (by decide) (by decide) (by decide) (by decide) (by decide)

theorem touches_onStrobePulseEnd (s : State) : Touches Part.reactions s (s.onStrobePulseEnd) :=
  touches_event_quiet _ s (touches_cadence _ s) (by decide) (by decide) (by decide) (by decide) (by decide)

theorem touches_onStandingLapse (k : CadenceKind) (s : State) : Touches Part.reactions s (s.onStandingLapse k) :=
  touches_event_quiet _ s (touches_standingLapsed k s) (by decide) (by decide) (by decide) (by decide) (by decide)

theorem touches_onFlash (l : Lamp) (s : State) : Touches [l.part] s (s.onFlash l) := by
  cases l with
  | run =>
    refine Touches.ite ?_ (.refl _ _)
    refine .of rfl fun p => ?_
    cases p <;> first | exact .inl (by decide) | exact .inr rfl | exact .inr ⟨rfl, rfl⟩ | exact .inr ⟨rfl, rfl, rfl⟩ | exact .inr ⟨rfl, rfl, rfl, rfl⟩
  | alarm =>
    refine Touches.ite ?_ (.refl _ _)
    refine .of rfl fun p => ?_
    cases p <;> first | exact .inl (by decide) | exact .inr rfl | exact .inr ⟨rfl, rfl⟩ | exact .inr ⟨rfl, rfl, rfl⟩ | exact .inr ⟨rfl, rfl, rfl, rfl⟩
  | haltedFault =>
    refine Touches.ite ?_ (.refl _ _)
    refine .of rfl fun p => ?_
    cases p <;> first | exact .inl (by decide) | exact .inr rfl | exact .inr ⟨rfl, rfl⟩ | exact .inr ⟨rfl, rfl, rfl⟩ | exact .inr ⟨rfl, rfl, rfl, rfl⟩

theorem touches_onLineDark (s : State) : Touches [.lineLamp] s s.onLineDark := by
  refine Touches.ite ?_ (.refl _ _)
  refine .of rfl fun p => ?_
  cases p <;> first | exact .inl (by decide) | exact .inr rfl | exact .inr ⟨rfl, rfl⟩ | exact .inr ⟨rfl, rfl, rfl⟩ | exact .inr ⟨rfl, rfl, rfl, rfl⟩

theorem touches_onHeartbeat (s : State) : Touches (.heartbeat :: Part.reactions) s (s.onHeartbeat) :=
  touches_event_quiet _ s (touches_heartbeat s) (by decide) (by decide) (by decide) (by decide) (by decide)

theorem touches_onSpacingOpen (s : State) : Touches (.spacing :: Part.reactions) s (s.onSpacingOpen) :=
  touches_event_quiet _ s (touches_openSpacing s) (by decide) (by decide) (by decide) (by decide) (by decide)

theorem touches_onKeepPeriod (s : State) : Touches ([.link, .fifo] ++ Part.reactions) s (s.onKeepPeriod) :=
  touches_event_quiet _ s (touches_keepPeriod s) (by decide) (by decide) (by decide) (by decide) (by decide)

theorem touches_onLinkKeepExpiry (s : State) : Touches (.link :: Part.reactions) s (s.onLinkKeepExpiry) :=
  touches_event_quiet _ s (touches_endLinkKeep s) (by decide) (by decide) (by decide) (by decide) (by decide)

/-! ## The lifecycle, the second event and what falls due by seconds -/

theorem touches_listenExpired (s : State) : Touches [.listen, .lifecycle, .heartbeat, .runLamp] s s.listenExpired := by
  have h : Touches [.listen, .lifecycle, .heartbeat, .runLamp] s
      { s with station := { s.station with listenTimer := none, listenComplete := true } } := by
    refine .of rfl fun p => ?_
    cases p <;> first | exact .inl (by decide) | exact .inr rfl | exact .inr ⟨rfl, rfl⟩ | exact .inr ⟨rfl, rfl, rfl⟩ | exact .inr ⟨rfl, rfl, rfl, rfl⟩
  unfold State.listenExpired
  exact Touches.ite (h.trans ((touches_runEntry _).mono (by decide))) h

theorem touches_onListenExpiry (s : State) :
    Touches ([.lifecycle, .listen, .heartbeat, .runLamp] ++ Part.reactions) s s.onListenExpiry :=
  touches_event_quiet _ s (touches_listenExpired s) (by decide) (by decide) (by decide) (by decide) (by decide)

theorem touches_countSecond (s : State) : Touches [.time] s s.countSecond := by
  refine .of rfl fun p => ?_
  cases p <;> first | exact .inl (by decide) | exact .inr rfl | exact .inr ⟨rfl, rfl⟩ | exact .inr ⟨rfl, rfl, rfl⟩ | exact .inr ⟨rfl, rfl, rfl, rfl⟩

theorem touches_secondWork (s : State) :
    Touches [.origins, .phases, .peers, .duplicateAge, .line] s s.secondWork := by
  have h := ((touches_regimeSecond s).mono (qs := [.origins, .phases, .peers, .duplicateAge, .line]) (by decide)).trans
    (((touches_agePeers _).mono (by decide)).trans ((touches_ageDuplicate _).mono (by decide)))
  exact h.trans ((touches_line _ _).mono (by decide))

/-- Counting seconds leaves the activity: no record is added or removed. -/
theorem regimeSecond_active (s : State) : s.regimeSecond.regime.active = s.regime.active := by
  unfold State.regimeSecond
  split
  · simp [Regime.active, State.recompute, Regime.recompute]
  · rfl

theorem secondWork_active (s : State) : s.secondWork.regime.active = s.regime.active := regimeSecond_active s

theorem touches_onSecond (s : State) :
    Touches ([.time, .line, .duplicateAge, .origins, .phases] ++ Part.reactions) s s.onSecond := by
  unfold State.onSecond
  refine Touches.ite (Touches.ite ?_ ((touches_countSecond s).mono (by decide))) (.refl _ _)
  have h := ((touches_countSecond s).mono (qs := [.time, .line, .duplicateAge, .origins, .phases] ++ Part.reactions)
    (by decide)).trans ((touches_secondWork _).mono (by decide))
  refine h.trans ((touches_finish_quiet _ _ ?_).mono (by decide))
  exact becameActive_same (secondWork_active _) (h.2 .generation (by decide))

theorem touches_onPeerSilence (a : Nat) (s : State) : Touches Part.reactions s (s.onPeerSilence a) :=
  touches_event_quiet _ s (touches_silence a s) (by decide) (by decide) (by decide) (by decide) (by decide)

theorem touches_onDuplicateLimit (s : State) : Touches (.duplicateAge :: Part.reactions) s (s.onDuplicateLimit) :=
  touches_event_quiet _ s (touches_endDuplicate s) (by decide) (by decide) (by decide) (by decide) (by decide)

theorem touches_endWindow (s : State) : Touches [.line, .faults] s s.endWindow := by
  unfold State.endWindow
  dsimp only
  exact Touches.ite ((touches_line _ s).andThen (touches_clearFault _ _ _) (by decide) (by decide))
    ((touches_line _ s).mono (by decide))

theorem touches_onWindowEnd (s : State) : Touches (.line :: Part.reactions) s (s.onWindowEnd) :=
  touches_event_quiet _ s (touches_endWindow s) (by decide) (by decide) (by decide) (by decide) (by decide)

/-! ## The tick event -/

theorem touches_settle (s : State) : Touches Part.ticking s s.settle := by
  have two {t u v : State} (h : Touches Part.ticking t u) (k : Touches Part.ticking u v) := h.trans k
  unfold State.settle State.settleSeconds State.settleZones State.settleStairs State.settleCars State.settleSpeaker
    State.settleCadences State.settleRest
  refine two ?_ ((touches_onLinkKeepExpiry _).mono (by decide))
  refine two ?_ ((touches_onKeepPeriod _).mono (by decide))
  refine two ?_ ((touches_onSpacingOpen _).mono (by decide))
  refine two ?_ ((touches_onHeartbeat _).mono (by decide))
  refine two ?_ ((touches_onLineDark _).mono (by decide))
  refine two ?_ ((touches_onFlash _ _).mono (by decide))
  refine two ?_ ((touches_onFlash _ _).mono (by decide))
  refine two ?_ ((touches_onFlash _ _).mono (by decide))
  refine two ?_ ((touches_onStandingLapse _ _).mono (by decide))
  refine two ?_ ((touches_onStandingLapse _ _).mono (by decide))
  refine two ?_ ((touches_onStrobePulseEnd _).mono (by decide))
  refine two ?_ ((touches_onPulseBoundary _ _).mono (by decide))
  refine two ?_ ((touches_onPulseBoundary _ _).mono (by decide))
  refine two ?_ ((touches_onCycleStart _).mono (by decide))
  refine two ?_ ((touches_onKeepExpiry _).mono (by decide))
  refine two ?_ ((touches_onPauseExpiry _).mono (by decide))
  refine two ?_ ((touches_onStrobeEnd _).mono (by decide))
  refine two ?_ ((touches_onMessageExpiry _).mono (by decide))
  refine two ?_ ((touches_onBusyLevel _).mono (by decide))
  refine two ?_ (Touches.foldl _ (fun t c => ?_) _ _)
  · refine two ?_ (Touches.foldl _ (fun t i => ?_) _ _)
    · refine two ?_ (Touches.foldl _ (fun t z => ?_) _ _)
      · refine two ?_ ((touches_onListenExpiry _).mono (by decide))
        refine two ?_ ((touches_onWindowEnd _).mono (by decide))
        refine two ?_ ((touches_onDuplicateLimit _).mono (by decide))
        refine two ?_ (Touches.foldl _ (fun t a => (touches_onPeerSilence a t).mono (by decide)) _ _)
        exact (touches_onSecond s).mono (by decide)
      · refine two ?_ ((touches_onConfirmExpiry _ _).mono (by decide))
        exact two ((touches_onClassAccepted z t).mono (by decide)) ((touches_onStageExpiry z _).mono (by decide))
    · refine two ?_ ((touches_onHeldOpenExpiry _ _).mono (by decide))
      refine two ?_ ((touches_onMismatchExpiry _ _).mono (by decide))
      refine two ?_ ((touches_onStairInput _ _ _).mono (by decide))
      exact two ((touches_onStairInput _ _ t).mono (by decide)) ((touches_onStairInput _ _ _).mono (by decide))
  · refine two ?_ ((touches_onRecallExpiry _ _).mono (by decide))
    refine two ?_ ((touches_onCarInput _ _ _).mono (by decide))
    refine two ?_ ((touches_onCarInput _ _ _).mono (by decide))
    refine two ?_ ((touches_onCarInput _ _ _).mono (by decide))
    exact two ((touches_onCarInput _ _ t).mono (by decide)) ((touches_onCarInput _ _ _).mono (by decide))

/-- The tick event proper: counts, timers, samples and positions, no part of the regime among them. -/
theorem touches_tickEvent (p : Inputs) (s : State) :
    Touches [.pins, .time, .runLamp, .alarmLamp, .haltLamp, .lineLamp, .listen, .holdOff, .heartbeat, .spacing, .zones,
      .stairs, .cars, .speaker, .authority, .link, .cadence] s (s.tickEvent p) := by
  have h1 : Touches [.pins, .time, .runLamp, .alarmLamp, .haltLamp, .lineLamp, .listen, .holdOff, .heartbeat, .spacing,
      .zones, .stairs, .cars, .speaker, .authority, .link, .cadence] s
      { s with pins := p, time := s.time.tickEvent, lamps := s.lamps.tick } := by
    refine .of rfl fun p => ?_
    cases p <;> first | exact .inl (by decide) | exact .inr rfl | exact .inr ⟨rfl, rfl⟩ | exact .inr ⟨rfl, rfl, rfl⟩ | exact .inr ⟨rfl, rfl, rfl, rfl⟩
  have h2 (t : State) : Touches [.pins, .time, .runLamp, .alarmLamp, .haltLamp, .lineLamp, .listen, .holdOff,
      .heartbeat, .spacing, .zones, .stairs, .cars, .speaker, .authority, .link, .cadence] t t.runTimers := by
    refine .of rfl fun p => ?_
    cases p <;> first | exact .inl (by decide) | exact .inr rfl | exact .inr ⟨rfl, rfl⟩ | exact .inr ⟨rfl, rfl, rfl⟩ | exact .inr ⟨rfl, rfl, rfl, rfl⟩
  unfold State.tickEvent
  dsimp only
  refine Touches.ite ?_ h1
  refine Touches.trans (t := _) ?_ ((touches_tickCadence _).mono (by decide))
  refine Touches.trans (t := _) ?_ ((touches_sampleCars _).mono (by decide))
  refine Touches.trans (t := _) ?_ ((touches_sampleStairs _).mono (by decide))
  refine Touches.trans (t := _) ?_ ((touches_sampleZones _).mono (by decide))
  exact h1.trans (h2 _)

theorem touches_releaseReset (a : Nat) (s : State) :
    Touches [.identity, .lifecycle, .haltLamp, .peers] s (s.releaseReset a) := by
  unfold State.releaseReset
  split
  · refine Touches.trans (t := _) ?_ ((touches_loopback _).mono (by decide))
    refine .of rfl fun p => ?_
    cases p <;> first | exact .inl (by decide) | exact .inr rfl | exact .inr ⟨rfl, rfl⟩ | exact .inr ⟨rfl, rfl, rfl⟩ | exact .inr ⟨rfl, rfl, rfl, rfl⟩
  · refine .of rfl fun p => ?_
    cases p <;> first | exact .inl (by decide) | exact .inr rfl | exact .inr ⟨rfl, rfl⟩ | exact .inr ⟨rfl, rfl, rfl⟩ | exact .inr ⟨rfl, rfl, rfl, rfl⟩

/-- What TICK takes before its own work is what the timed commands do in turn (log 3). -/
theorem settle_eq_caughtUp (s : State) : s.settle = s.caughtUp := by
  simp only [State.caughtUp, timedCommands, List.foldl_append, List.foldl_cons, List.foldl_nil, List.foldl_flatMap,
    List.foldl_map]
  rfl

/-- TICK out of RESET, in LISTEN and RUN, as the timed commands and the tick event proper. -/
theorem execTick_eq (pins : Inputs) (s : State) (h : s.station.lifecycle ≠ .reset) :
    exec (.tick pins) s = .next (s.caughtUp.tickEvent pins) := by
  change Host.Outcome.next _ = _
  rw [if_neg h, settle_eq_caughtUp]

end Sys2Proof.Machine
end

