-- ==== Sys2Proof/Laws/Faults.lean ====
section
/-! SUPPORT. The fault list under its operations, and which kinds of fault each reaction can raise or clear. -/

namespace Sys2Proof.Machine

/-! ## One operation on the list (R171, R172) -/

theorem FaultRecord.is_iff (k : FaultKind) (n : Nat) (r : FaultRecord) : r.is k n = true ↔ r.kind = k ∧ r.subject = n := by
  simp [FaultRecord.is]

theorem FaultList.holds_iff (k : FaultKind) (n : Nat) (l : FaultList) :
    l.holds k n = true ↔ ∃ r ∈ l.records, r.kind = k ∧ r.subject = n ∧ r.active = true := by
  simp [FaultList.holds, FaultRecord.is, and_assoc]

/-- What is active stays when the oldest inactive record goes. -/
theorem mem_dropOldestInactive (l : List FaultRecord) (r : FaultRecord) (h : r ∈ dropOldestInactive l) : r ∈ l := by
  induction l with
  | nil => simp [dropOldestInactive] at h
  | cons x xs ih =>
    simp only [dropOldestInactive] at h
    split at h
    · rcases List.mem_cons.1 h with h | h
      · exact h ▸ List.mem_cons_self
      · exact List.mem_cons_of_mem _ (ih h)
    · exact List.mem_cons_of_mem _ h

theorem mem_dropOldestInactive_active (l : List FaultRecord) (r : FaultRecord) (ha : r.active = true) (h : r ∈ l) :
    r ∈ dropOldestInactive l := by
  induction l with
  | nil => simp at h
  | cons x xs ih =>
    simp only [dropOldestInactive]
    rcases List.mem_cons.1 h with h | h
    · subst h; simp [ha]
    · split
      · exact List.mem_cons_of_mem _ (ih h)
      · exact h

/-- A raise finds its own record, a place, or an inactive record to give way: then the fault is active. -/
theorem FaultList.holds_raise (k : FaultKind) (n : Nat) (w : Word16) (l : FaultList) (h : l.finds k n = true) :
    (l.raise k n w).holds k n = true := by
  rw [holds_iff]
  unfold FaultList.raise
  simp only [FaultList.finds, Bool.or_eq_true] at h
  split
  · rename_i hm
    obtain ⟨r, hr, hi⟩ := List.any_eq_true.1 hm
    refine ⟨_, List.mem_map.2 ⟨r, hr, rfl⟩, ?_⟩
    have := (FaultRecord.is_iff k n r).1 hi
    simp [hi, this]
  · split
    · exact ⟨_, List.mem_append_right _ List.mem_cons_self, rfl, rfl, rfl⟩
    · split
      · exact ⟨_, List.mem_append_right _ List.mem_cons_self, rfl, rfl, rfl⟩
      · simp_all

/-- A raise leaves every other fault as it was. -/
theorem FaultList.holds_raise_other (k k' : FaultKind) (n n' : Nat) (w : Word16) (l : FaultList)
    (h : ¬ (k = k' ∧ n = n')) : (l.raise k n w).holds k' n' = l.holds k' n' := by
  rw [Bool.eq_iff_iff, holds_iff, holds_iff]
  unfold FaultList.raise
  split
  · simp only [List.mem_map]
    constructor
    · rintro ⟨r, ⟨x, hx, rfl⟩, h1, h2, h3⟩
      by_cases hi : x.is k n = true
      · have hk := (FaultRecord.is_iff k n x).1 hi
        simp only [hi, if_true] at h1 h2
        exact absurd ⟨hk.1.symm.trans h1, hk.2.symm.trans h2⟩ h
      · simp only [hi] at h1 h2 h3
        exact ⟨x, hx, h1, h2, h3⟩
    · rintro ⟨x, hx, h1, h2, h3⟩
      have hi : ¬ x.is k n = true := fun hi => h ⟨((FaultRecord.is_iff k n x).1 hi).1 ▸ h1,
        ((FaultRecord.is_iff k n x).1 hi).2 ▸ h2⟩
      exact ⟨_, ⟨x, hx, rfl⟩, by simp [hi, h1, h2, h3]⟩
  · split
    · simp only [List.mem_append, List.mem_singleton]
      constructor
      · rintro ⟨r, hr | hr, h1, h2, h3⟩
        · exact ⟨r, hr, h1, h2, h3⟩
        · subst hr; exact absurd ⟨h1, h2⟩ h
      · rintro ⟨r, hr, h'⟩; exact ⟨r, .inl hr, h'⟩
    · split
      · simp only [List.mem_append, List.mem_singleton]
        constructor
        · rintro ⟨r, hr | hr, h1, h2, h3⟩
          · exact ⟨r, mem_dropOldestInactive _ _ hr, h1, h2, h3⟩
          · subst hr; exact absurd ⟨h1, h2⟩ h
        · rintro ⟨r, hr, h1, h2, h3⟩
          exact ⟨r, .inl (mem_dropOldestInactive_active _ _ h3 hr), h1, h2, h3⟩
      · rfl

theorem FaultList.holds_clear (k : FaultKind) (n : Nat) (l : FaultList) : (l.clear k n).holds k n = false := by
  rw [Bool.eq_false_iff, Ne, holds_iff]
  rintro ⟨r, hr, h1, h2, h3⟩
  obtain ⟨x, hx, rfl⟩ := List.mem_map.1 hr
  by_cases hi : x.is k n = true
  · simp [hi] at h3
  · simp only [hi] at h1 h2
    exact hi ((FaultRecord.is_iff k n x).2 ⟨h1, h2⟩)

theorem FaultList.holds_clear_other (k k' : FaultKind) (n n' : Nat) (l : FaultList) (h : ¬ (k = k' ∧ n = n')) :
    (l.clear k n).holds k' n' = l.holds k' n' := by
  rw [Bool.eq_iff_iff, holds_iff, holds_iff]
  simp only [FaultList.clear, List.mem_map]
  constructor
  · rintro ⟨r, ⟨x, hx, rfl⟩, h1, h2, h3⟩
    by_cases hi : x.is k n = true
    · simp [hi] at h3
    · simp only [hi] at h1 h2 h3; exact ⟨x, hx, h1, h2, h3⟩
  · rintro ⟨x, hx, h1, h2, h3⟩
    have hi : ¬ x.is k n = true := fun hi => h ⟨((FaultRecord.is_iff k n x).1 hi).1 ▸ h1,
      ((FaultRecord.is_iff k n x).1 hi).2 ▸ h2⟩
    exact ⟨_, ⟨x, hx, rfl⟩, by simp [hi, h1, h2, h3]⟩

theorem FaultList.holds_clearKind (k k' : FaultKind) (n : Nat) (l : FaultList) :
    (l.clearKind k).holds k' n = (if k = k' then false else l.holds k' n) := by
  rw [Bool.eq_iff_iff, holds_iff]
  simp only [FaultList.clearKind, List.mem_map]
  constructor
  · rintro ⟨r, ⟨x, hx, rfl⟩, h1, h2, h3⟩
    by_cases hk : x.kind = k
    · simp [hk] at h3
    · simp only [hk] at h1 h2 h3
      have : k ≠ k' := fun e => hk (h1.trans e.symm)
      simp only [this, if_false, holds_iff]
      exact ⟨x, hx, h1, h2, h3⟩
  · intro hh
    by_cases hk : k = k'
    · simp [hk] at hh
    · simp only [hk, if_false, holds_iff] at hh
      obtain ⟨x, hx, h1, h2, h3⟩ := hh
      have : x.kind ≠ k := fun e => hk (e.symm.trans h1)
      refine ⟨_, ⟨x, hx, rfl⟩, ?_⟩
      rw [if_neg this]
      exact ⟨h1, h2, h3⟩

/-! ## Which kinds an operation can raise or clear -/

/-- Between two states the active faults are the same but for the listed kinds. -/
def KeepsFaults (ks : List FaultKind) (s t : State) : Prop :=
  ∀ k n, k ∉ ks → t.faults.holds k n = s.faults.holds k n

theorem KeepsFaults.refl (ks : List FaultKind) (s : State) : KeepsFaults ks s s := fun _ _ _ => rfl

theorem KeepsFaults.trans {ks : List FaultKind} {s t u : State} (h : KeepsFaults ks s t) (g : KeepsFaults ks t u) :
    KeepsFaults ks s u := fun k n hk => (g k n hk).trans (h k n hk)

theorem KeepsFaults.mono {ks ls : List FaultKind} {s t : State} (h : KeepsFaults ks s t) (hs : ks ⊆ ls) :
    KeepsFaults ls s t := fun k n hk => h k n (fun hm => hk (hs hm))

theorem KeepsFaults.ite {ks : List FaultKind} {c : Prop} [Decidable c] {s t u : State} (ht : KeepsFaults ks s t)
    (hu : KeepsFaults ks s u) : KeepsFaults ks s (if c then t else u) := by split <;> assumption

theorem KeepsFaults.foldl {α : Type} {ks : List FaultKind} (f : State → α → State)
    (h : ∀ t x, KeepsFaults ks t (f t x)) (l : List α) (s : State) : KeepsFaults ks s (l.foldl f s) := by
  induction l generalizing s with
  | nil => exact .refl ks s
  | cons x xs ih => exact (h s x).trans (ih (f s x))

/-- What touches no fault keeps them all. -/
theorem Touches.keepsFaults {ps : List Part} {s t : State} (h : Touches ps s t) (hp : .faults ∉ ps)
    (ks : List FaultKind) : KeepsFaults ks s t := fun k n _ => by
  have := h.2 .faults hp; simp only [Part.same] at this; rw [this]

theorem keepsFaults_raise (k : FaultKind) (n : Nat) (s : State) : KeepsFaults [k] s (s.raise k n) := fun k' n' hk =>
  FaultList.holds_raise_other _ _ _ _ _ _ (fun h => hk (by simp [h.1]))

theorem keepsFaults_clearFault (k : FaultKind) (n : Nat) (s : State) : KeepsFaults [k] s (s.clearFault k n) :=
  fun k' n' hk => FaultList.holds_clear_other _ _ _ _ _ (fun h => hk (by simp [h.1]))

theorem keepsFaults_clearFaults (k : FaultKind) (s : State) : KeepsFaults [k] s (s.clearFaults k) :=
  fun k' n' hk => by
    show (s.faults.clearKind k).holds k' n' = _
    rw [FaultList.holds_clearKind, if_neg (fun h => hk (by simp [h]))]

theorem keepsFaults_raiseAtOnce (k : FaultKind) (n : Nat) (s : State) : KeepsFaults [k] s (s.raiseAtOnce k n) :=
  (keepsFaults_raise k n s).trans (keepsFaults_clearFault k n _)

/-- A raise and its clearing in one event leave the fault inactive. -/
theorem holds_raiseAtOnce (k : FaultKind) (n : Nat) (s : State) : (s.raiseAtOnce k n).faults.holds k n = false :=
  FaultList.holds_clear _ _ _

theorem keepsFaults_carFaults (c : Nat) (old new : Car) (s : State) :
    KeepsFaults [.liftUnavailable, .liftInput] s (s.carFaults c old new) := by
  unfold State.carFaults
  dsimp only
  have h : KeepsFaults [.liftUnavailable, .liftInput] s (if new.state = .unavailable ∧ old.state ≠ .unavailable
      then s.raise .liftUnavailable (c + 1)
      else if old.state = .unavailable ∧ new.state ≠ .unavailable then s.clearFault .liftUnavailable (c + 1)
      else s) := .ite ((keepsFaults_raise _ _ _).mono (by decide))
        (.ite ((keepsFaults_clearFault _ _ _).mono (by decide)) (.refl _ _))
  exact KeepsFaults.ite (h.trans ((keepsFaults_raise _ _ _).mono (by decide)))
    (KeepsFaults.ite (h.trans ((keepsFaults_clearFault _ _ _).mono (by decide))) h)

theorem keepsFaults_changeCar (c : Nat) (f : Car → Car) (s : State) :
    KeepsFaults [.liftUnavailable, .liftInput] s (s.changeCar c f) := by
  unfold State.changeCar
  exact KeepsFaults.ite (((touches_updCar _ _ s).keepsFaults (by decide) _).trans (keepsFaults_carFaults _ _ _ _))
    (.refl _ _)

/-- The kinds that the reactions may raise or clear in an event that does not make the regime active. -/
def FaultKind.reactions : List FaultKind := [.doorLock, .liftUnavailable, .liftInput]

theorem keepsFaults_stairsReact (c b : Bool) (s : State) : KeepsFaults [.doorLock] s (s.stairsReact c b) := by
  unfold State.stairsReact
  refine KeepsFaults.ite ?_ (.refl _ _)
  unfold State.clearDoorLocks
  refine KeepsFaults.trans (t := { s with stairs := s.stairs.map (Stair.react s.demand c b s.image.heldOpenLimit) })
    (fun _ _ _ => rfl) (KeepsFaults.foldl _ (fun t i => ?_) _ _)
  exact KeepsFaults.ite (keepsFaults_clearFault _ _ _) (.refl _ _)

theorem keepsFaults_liftsReact (b : Bool) (s : State) :
    KeepsFaults [.liftUnavailable, .liftInput] s (s.liftsReact b) := by
  unfold State.liftsReact
  exact KeepsFaults.ite (KeepsFaults.foldl _ (fun t c => keepsFaults_changeCar _ _ _) _ _) (.refl _ _)

theorem keepsFaults_react (old : State) (c b : Bool) (s : State) :
    KeepsFaults FaultKind.reactions s
      (((State.speakerReact old b ((s.stairsReact c b).liftsReact b)).cadenceReact.alarmLampReact).loopback.builderReact
        old) := by
  refine KeepsFaults.trans (t := _) ?_ ((touches_builderReact _ _).keepsFaults (by decide) _)
  refine KeepsFaults.trans (t := _) ?_ ((touches_loopback _).keepsFaults (by decide) _)
  refine KeepsFaults.trans (t := _) ?_ ((touches_alarmLampReact _).keepsFaults (by decide) _)
  refine KeepsFaults.trans (t := _) ?_ ((touches_cadenceReact _).keepsFaults (by decide) _)
  refine KeepsFaults.trans (t := _) ?_ ((touches_speakerReact _ _ _).keepsFaults (by decide) _)
  refine KeepsFaults.trans (t := _) ?_ ((keepsFaults_liftsReact _ _).mono (by decide))
  exact (keepsFaults_stairsReact _ _ _).mono (by decide)

theorem keepsFaults_finish_quiet (s old : State) (h : becameActive old s = false) :
    KeepsFaults FaultKind.reactions s (s.finish old) := by
  unfold State.finish
  simp only [h]
  exact KeepsFaults.ite (.refl _ _) (keepsFaults_react old _ _ _)

/-- The kinds that an activation may raise or clear besides. -/
def FaultKind.activation : List FaultKind := [.zoneOpen, .zoneShort, .originOverflow] ++ FaultKind.reactions

theorem keepsFaults_refuseOrigin (f : Nat) (s : State) : KeepsFaults [.originOverflow] s (s.refuseOrigin f) := by
  unfold State.refuseOrigin
  refine KeepsFaults.trans (t := _) ?_ ((touches_setGeneral _).keepsFaults (by decide) _)
  exact KeepsFaults.ite (.refl _ _) (KeepsFaults.trans (t := { s with regime := _ }) (fun _ _ _ => rfl)
    (keepsFaults_raiseAtOnce _ _ _))

theorem keepsFaults_addOrigin (f e : Nat) (s : State) : KeepsFaults [.originOverflow] s (s.addOrigin f e) := by
  unfold State.addOrigin
  exact KeepsFaults.ite (.refl _ _) (KeepsFaults.ite (fun _ _ _ => rfl) (keepsFaults_refuseOrigin f s))

theorem keepsFaults_latchOrigin (f : Nat) (s : State) : KeepsFaults [.originOverflow] s (s.latchOrigin f) :=
  (keepsFaults_addOrigin f 0 s).trans ((touches_recompute _).keepsFaults (by decide) _)

theorem keepsFaults_takeOrigin (s : State) (o : Nat × Nat) : KeepsFaults [.originOverflow] s (s.takeOrigin o) := by
  unfold State.takeOrigin
  exact KeepsFaults.ite (fun _ _ _ => rfl) (keepsFaults_addOrigin _ _ s)

theorem keepsFaults_intake (r : StatusRecord) (s : State) : KeepsFaults [.originOverflow] s (s.intake r) := by
  unfold State.intake
  dsimp only
  refine KeepsFaults.trans (t := _) ?_ ((touches_recompute _).keepsFaults (by decide) _)
  refine KeepsFaults.trans (t := _) ?_ (KeepsFaults.foldl _ keepsFaults_takeOrigin _ _)
  refine KeepsFaults.trans (t := _) ?_ ((touches_adoptSilence _ _).keepsFaults (by decide) _)
  refine KeepsFaults.trans (t := _) ?_ ((touches_adoptHold _ _).keepsFaults (by decide) _)
  exact KeepsFaults.ite ((touches_setGeneral _).keepsFaults (by decide) _) (.refl _ _)

theorem keepsFaults_clearZoneFaults (z : Nat) (s : State) :
    KeepsFaults [.zoneOpen, .zoneShort] s (s.clearZoneFaults z) :=
  ((keepsFaults_clearFault _ _ _).mono (by decide)).trans ((keepsFaults_clearFault _ _ _).mono (by decide))

theorem keepsFaults_zoneFaults (z : Nat) (c : LoopClass) (s : State) :
    KeepsFaults [.zoneOpen, .zoneShort] s (s.zoneFaults z c) := by
  unfold State.zoneFaults
  split
  · exact ((keepsFaults_clearFault _ _ _).mono (by decide)).trans ((keepsFaults_raise _ _ _).mono (by decide))
  · exact ((keepsFaults_clearFault _ _ _).mono (by decide)).trans ((keepsFaults_raise _ _ _).mono (by decide))
  · exact keepsFaults_clearZoneFaults _ _

theorem keepsFaults_alarmEntered (z : Nat) (s : State) : KeepsFaults [.originOverflow] s (s.alarmEntered z) := by
  unfold State.alarmEntered
  dsimp only
  have h2 (c : Prop) [Decidable c] (q : Peers) : KeepsFaults [.originOverflow] s
      (if c then State.latchOrigin s.station.address { s with peers := q } else { s with peers := q }) :=
    .ite (KeepsFaults.trans (t := { s with peers := q }) (fun _ _ _ => rfl) (keepsFaults_latchOrigin _ _))
      (fun _ _ _ => rfl)
  exact KeepsFaults.ite ((h2 _ _).trans ((touches_runEntry _).keepsFaults (by decide) _)) (h2 _ _)

theorem keepsFaults_acceptClass (z : Nat) (c : LoopClass) (s : State) :
    KeepsFaults [.zoneOpen, .zoneShort, .originOverflow] s (s.acceptClass z c) := by
  unfold State.acceptClass
  dsimp only
  have h (e : Nat) (f : Zone → Zone) : KeepsFaults [.zoneOpen, .zoneShort, .originOverflow] s
      ((s.zoneFaults z c).changeZone z e f) :=
    ((keepsFaults_zoneFaults z c s).mono (by decide)).trans ((touches_changeZone _ _ _ _).keepsFaults (by decide) _)
  exact KeepsFaults.ite ((h _ _).trans ((keepsFaults_alarmEntered _ _).mono (by decide))) (h _ _)

theorem keepsFaults_zonesActivated (s : State) :
    KeepsFaults [.zoneOpen, .zoneShort, .originOverflow] s s.zonesActivated := by
  unfold State.zonesActivated
  refine KeepsFaults.ite (KeepsFaults.foldl _ (fun t z => ?_) _ _) (.refl _ _)
  unfold State.activateZone
  dsimp only
  exact KeepsFaults.ite (KeepsFaults.ite (KeepsFaults.trans (t := t.updZone z _) (fun _ _ _ => rfl)
    (keepsFaults_acceptClass _ _ _)) (fun _ _ _ => rfl)) (.refl _ _)

theorem keepsFaults_finish (s old : State) : KeepsFaults FaultKind.activation s (s.finish old) := by
  unfold State.finish
  dsimp only
  refine KeepsFaults.ite (.refl _ _) ?_
  refine KeepsFaults.trans (t := _) ?_ ((keepsFaults_react old _ _ _).mono (by decide))
  exact KeepsFaults.ite ((keepsFaults_zonesActivated _).mono (by decide)) (.refl _ _)

end Sys2Proof.Machine
end

