-- ==== Sys2Proof/Laws/Peers.lean ====
section
/-! SUPPORT. Reading the peer table after a change of one entry, and the reactions' writing of the own entry alone. -/

namespace Sys2Proof.Machine

theorem isPeerAddress_iff (a : Nat) :
    isPeerAddress a = true ↔ a < 48 ∨ a = 48 ∨ a = 49 ∨ (56 ≤ a ∧ a ≤ 59) := by
  simp [isPeerAddress]; omega

theorem mem_peerAddresses (a : Nat) : a ∈ peerAddresses ↔ isPeerAddress a = true := by
  rw [isPeerAddress_iff]
  simp [peerAddresses]; omega

theorem roleOf_some {a : Nat} {r : Role} (h : roleOf a = some r) : isPeerAddress a = true := by
  rw [isPeerAddress_iff]
  unfold roleOf at h
  split at h
  · omega
  · split at h
    · omega
    · split at h
      · omega
      · cases h

theorem roleOf_floor {a : Nat} : roleOf a = some .floor ↔ a < 48 := by
  unfold roleOf
  split
  · simp_all
  · split
    · simp; omega
    · split <;> simp <;> omega

theorem roleOf_lift {a : Nat} : roleOf a = some .lift ↔ a = 48 ∨ a = 49 := by
  unfold roleOf
  split
  · simp; omega
  · split
    · simp; omega
    · split <;> simp <;> omega

theorem roleOf_console {a : Nat} : roleOf a = some .console ↔ 56 ≤ a ∧ a ≤ 59 := by
  unfold roleOf
  split
  · simp; omega
  · split
    · simp; omega
    · split
      · simp; omega
      · simp; omega

/-! ## The common fields -/

theorem base_updBase_self (p : Peers) (a : Nat) (f : PeerBase → PeerBase) (h : isPeerAddress a = true) :
    (p.updBase a f).base a = f (p.base a) := by
  rw [isPeerAddress_iff] at h
  unfold Peers.updBase Peers.base
  split
  · simp [Peers.updFloor, Tab.at_upd_self _ _ _ _ (by assumption)]
  · split
    · simp [Peers.updBank, Tab.at_upd_self _ _ _ _ (show a - 48 < 2 by omega)]
    · simp [Peers.updConsole, Tab.at_upd_self _ _ _ _ (show a - 56 < 4 by omega)]

theorem base_updBase_ne (p : Peers) (a b : Nat) (f : PeerBase → PeerBase) (ha : isPeerAddress a = true)
    (hb : isPeerAddress b = true) (h : b ≠ a) : (p.updBase a f).base b = p.base b := by
  rw [isPeerAddress_iff] at ha hb
  unfold Peers.updBase Peers.base
  by_cases h1 : a < 48
  · simp only [h1, if_true, Peers.updFloor]
    split
    · rw [Tab.at_upd_ne _ _ _ _ _ h]
    · rfl
  · by_cases h2 : a < 50
    · simp only [h1, h2, if_true, if_false, Peers.updBank]
      split
      · rfl
      · split
        · rw [Tab.at_upd_ne _ _ _ _ _ (show b - 48 ≠ a - 48 by omega)]
        · rfl
    · simp only [h1, h2, if_false, Peers.updConsole]
      split
      · rfl
      · split
        · rfl
        · rw [Tab.at_upd_ne _ _ _ _ _ (show b - 56 ≠ a - 56 by omega)]

theorem base_mapBase (p : Peers) (f : Nat → PeerBase → PeerBase) (a : Nat) (h : isPeerAddress a = true) :
    (p.mapBase f).base a = f a (p.base a) := by
  rw [isPeerAddress_iff] at h
  unfold Peers.mapBase Peers.base
  split
  · rw [Tab.at_mapIdx _ _ _ FloorEntry.atReset _ (by assumption)]
  · split
    · rw [Tab.at_mapIdx _ _ _ BankEntry.atReset _ (by omega)]
      simp; congr 1; omega
    · rw [Tab.at_mapIdx _ _ _ ConsoleEntry.atReset _ (by omega)]
      simp; congr 1; omega

/-- A change of one floor entry's other fields keeps every entry's common fields. -/
theorem base_updFloor (p : Peers) (f : Nat) (g : FloorEntry → FloorEntry) (h : ∀ e, (g e).base = e.base) (a : Nat) :
    (p.updFloor f g).base a = p.base a := by
  unfold Peers.updFloor Peers.base
  split
  · by_cases hf : f < 48
    · rw [Tab.at_upd _ _ _ _ _ hf]
      split <;> simp_all
    · rw [Tab.upd_out _ _ _ (by omega)]
  · rfl

/-! ## Loopback writes the own entry alone (R75) -/

theorem floorEntry_updFloor_ne (s : State) (f k : Nat) (g : FloorEntry → FloorEntry) (h : k ≠ f) :
    State.floorEntry { s with peers := s.peers.updFloor f g } k = s.floorEntry k := by
  simp [State.floorEntry, Peers.updFloor, h]

theorem floorEntry_updFloor_self (s : State) (f : Nat) (g : FloorEntry → FloorEntry) (h : f < 48) :
    State.floorEntry { s with peers := s.peers.updFloor f g } f = g (s.floorEntry f) := by
  simp [State.floorEntry, Peers.updFloor, Tab.at_upd_self _ _ _ _ h]

theorem loopback_floorEntry (s : State) (f : Nat) (h : s.station.role = some .floor → f ≠ s.station.address) :
    s.loopback.floorEntry f = s.floorEntry f := by
  unfold State.loopback
  dsimp only
  split
  · rename_i hr
    exact floorEntry_updFloor_ne _ _ _ _ (h hr)
  all_goals rfl

theorem loopback_base (s : State) (a : Nat) (hr : s.station.role = roleOf s.station.address)
    (ha : isPeerAddress a = true) (h : a ≠ s.station.address) : s.loopback.peers.base a = s.peers.base a := by
  rw [isPeerAddress_iff] at ha
  unfold State.loopback
  dsimp only
  split
  · rename_i h1
    unfold Peers.base Peers.updFloor
    split
    · rw [Tab.at_upd_ne _ _ _ _ _ h]
    · rfl
  · rename_i h1
    have := roleOf_lift.1 (hr.symm.trans h1)
    unfold Peers.base Peers.updBank
    split
    · rfl
    · split
      · rw [Tab.at_upd_ne _ _ _ _ _ (by omega)]
      · rfl
  · rename_i h1
    have := roleOf_console.1 (hr.symm.trans h1)
    unfold Peers.base Peers.updConsole
    split
    · rfl
    · split
      · rfl
      · rw [Tab.at_upd_ne _ _ _ _ _ (by omega)]
  · rfl

/-- The reactions before loopback leave the peer table. -/
theorem react_peers (old : State) (c b : Bool) (s : State) :
    (State.speakerReact old b ((s.stairsReact c b).liftsReact b)).cadenceReact.alarmLampReact.peers = s.peers := by
  have h : Touches [.stairs, .faults, .cars, .speaker, .cadence, .alarmLamp] s
      (State.speakerReact old b ((s.stairsReact c b).liftsReact b)).cadenceReact.alarmLampReact := by
    refine Touches.trans (t := _) ?_ ((touches_alarmLampReact _).mono (by decide))
    refine Touches.trans (t := _) ?_ ((touches_cadenceReact _).mono (by decide))
    refine Touches.trans (t := _) ?_ ((touches_speakerReact _ _ _).mono (by decide))
    refine Touches.trans (t := _) ?_ ((touches_liftsReact _ _).mono (by decide))
    exact (touches_stairsReact _ _ _).mono (by decide)
  have h1 := h.2 .peers (by decide)
  have h2 := h.2 .duplicateAge (by decide)
  simp only [Part.same] at h1 h2
  generalize (State.speakerReact old b ((s.stairsReact c b).liftsReact b)).cadenceReact.alarmLampReact = t at h1 h2 ⊢
  cases ht : t.peers
  cases hs : s.peers
  simp_all

theorem react_station (old : State) (c b : Bool) (s : State) :
    (State.speakerReact old b ((s.stairsReact c b).liftsReact b)).cadenceReact.alarmLampReact.station = s.station := by
  have h : Touches [.stairs, .faults, .cars, .speaker, .cadence, .alarmLamp] s
      (State.speakerReact old b ((s.stairsReact c b).liftsReact b)).cadenceReact.alarmLampReact := by
    refine Touches.trans (t := _) ?_ ((touches_alarmLampReact _).mono (by decide))
    refine Touches.trans (t := _) ?_ ((touches_cadenceReact _).mono (by decide))
    refine Touches.trans (t := _) ?_ ((touches_speakerReact _ _ _).mono (by decide))
    refine Touches.trans (t := _) ?_ ((touches_liftsReact _ _).mono (by decide))
    exact (touches_stairsReact _ _ _).mono (by decide)
  have h1 := h.2 .identity (by decide)
  have h2 := h.2 .lifecycle (by decide)
  have h3 := h.2 .listen (by decide)
  have h4 := h.2 .holdOff (by decide)
  simp only [Part.same] at h1 h2 h3 h4
  generalize (State.speakerReact old b ((s.stairsReact c b).liftsReact b)).cadenceReact.alarmLampReact = t at h1 h2 h3 h4 ⊢
  cases ht : t.station
  cases hs : s.station
  simp_all

/-! ## The own zones' alarms write latches of the own entry alone (R67) -/

/-- Entries of other floors and every entry's common fields are the same in two states, and so is the station. -/
def KeepsOthers (s t : State) : Prop :=
  t.station.address = s.station.address ∧ t.station.role = s.station.role
  ∧ (∀ a, t.peers.base a = s.peers.base a) ∧ ∀ f, f ≠ s.station.address → t.floorEntry f = s.floorEntry f

theorem KeepsOthers.refl (s : State) : KeepsOthers s s := ⟨rfl, rfl, fun _ => rfl, fun _ _ => rfl⟩

theorem KeepsOthers.trans {s t u : State} (h : KeepsOthers s t) (k : KeepsOthers t u) : KeepsOthers s u :=
  ⟨k.1.trans h.1, k.2.1.trans h.2.1, fun a => (k.2.2.1 a).trans (h.2.2.1 a),
    fun f hf => (k.2.2.2 f (by rw [h.1]; exact hf)).trans (h.2.2.2 f hf)⟩

theorem KeepsOthers.ite {c : Prop} [Decidable c] {s t u : State} (ht : KeepsOthers s t) (hu : KeepsOthers s u) :
    KeepsOthers s (if c then t else u) := by split <;> assumption

theorem KeepsOthers.foldl {α : Type} (f : State → α → State) (h : ∀ t x, KeepsOthers t (f t x)) (l : List α)
    (s : State) : KeepsOthers s (l.foldl f s) := by
  induction l generalizing s with
  | nil => exact .refl s
  | cons x xs ih => exact (h s x).trans (ih (f s x))

/-- What touches neither the table nor the address keeps the others. -/
theorem Touches.keepsOthers {ps : List Part} {s t : State} (h : Touches ps s t) (hp : .peers ∉ ps)
    (hi : .identity ∉ ps) : KeepsOthers s t := by
  have h1 := h.2 .peers hp
  simp only [Part.same] at h1
  refine ⟨h.address_eq hi, h.role_eq hi, fun a => ?_, fun f _ => ?_⟩
  · unfold Peers.base; rw [h1.1, h1.2.1, h1.2.2]
  · unfold State.floorEntry; rw [h1.1]

theorem keepsOthers_ownFloor (s : State) (g : FloorEntry → FloorEntry) (h : ∀ e, (g e).base = e.base) :
    KeepsOthers s { s with peers := s.peers.updFloor s.station.address g } :=
  ⟨rfl, rfl, base_updFloor _ _ _ h, fun f hf => floorEntry_updFloor_ne s _ f g hf⟩

theorem keepsOthers_alarmEntered (z : Nat) (s : State) : KeepsOthers s (s.alarmEntered z) := by
  unfold State.alarmEntered
  dsimp only
  have h1 := keepsOthers_ownFloor s (fun e =>
      { e with alarmLatch := true, lobbyLatch := e.lobbyLatch || (s.zone z).kind == .lobby }) (fun _ => rfl)
  have h2 (c : Prop) [Decidable c] (t : State) : KeepsOthers t (if c then t.latchOrigin s.station.address else t) := by
    split
    · exact (touches_latchOrigin _ _).keepsOthers (by decide) (by decide)
    · exact .refl _
  exact KeepsOthers.ite ((h1.trans (h2 _ _)).trans ((touches_runEntry _).keepsOthers (by decide) (by decide)))
    (h1.trans (h2 _ _))

theorem keepsOthers_acceptClass (z : Nat) (c : LoopClass) (s : State) : KeepsOthers s (s.acceptClass z c) := by
  unfold State.acceptClass
  dsimp only
  have h (e : Nat) (f : Zone → Zone) : KeepsOthers s ((s.zoneFaults z c).changeZone z e f) :=
    ((touches_zoneFaults z c s).keepsOthers (by decide) (by decide)).trans
      ((touches_changeZone _ _ _ _).keepsOthers (by decide) (by decide))
  split
  · exact (h _ _).trans (keepsOthers_alarmEntered _ _)
  · exact h _ _

theorem keepsOthers_zonesActivated (s : State) : KeepsOthers s s.zonesActivated := by
  unfold State.zonesActivated
  split
  · refine KeepsOthers.foldl _ (fun t z => ?_) _ _
    unfold State.activateZone
    dsimp only
    split
    · have h := (touches_updZone z (fun x => { x with stage := none }) t).keepsOthers (by decide) (by decide)
      split
      · exact h.trans (keepsOthers_acceptClass _ _ _)
      · exact h
    · exact .refl _
  · exact .refl _

/-- The reactions to an event write no entry but the own one, and of other entries not even the common fields. -/
theorem finish_base (s old : State) (a : Nat) (hr : s.station.role = roleOf s.station.address)
    (ha : isPeerAddress a = true) (h : a ≠ s.station.address) : (s.finish old).peers.base a = s.peers.base a := by
  unfold State.finish
  dsimp only
  split
  · rfl
  · have hk : KeepsOthers s (if becameActive old s = true then s.zonesActivated else s) := by
      split
      · exact keepsOthers_zonesActivated s
      · exact .refl s
    rw [← hk.2.2.1 a]
    generalize (if becameActive old s = true then s.zonesActivated else s) = t at hk
    have hb := (touches_builderReact old (State.speakerReact old (becameActive old s) ((t.stairsReact
      (clearedBetween old s) (becameActive old s)).liftsReact
      (becameActive old s))).cadenceReact.alarmLampReact.loopback).2 .peers (by decide)
    simp only [Part.same] at hb
    have hs := react_station old (clearedBetween old s) (becameActive old s) t
    have hp := react_peers old (clearedBetween old s) (becameActive old s) t
    have hl := loopback_base (State.speakerReact old (becameActive old s) ((t.stairsReact
      (clearedBetween old s) (becameActive old s)).liftsReact (becameActive old s))).cadenceReact.alarmLampReact a
      (by rw [hs, hk.1, hk.2.1]; exact hr) ha (by rw [hs, hk.1]; exact h)
    rw [hp] at hl
    rw [← hl]
    unfold Peers.base
    rw [hb.1, hb.2.1, hb.2.2]

theorem finish_floorEntry (s old : State) (f : Nat) (h : f ≠ s.station.address) :
    (s.finish old).floorEntry f = s.floorEntry f := by
  unfold State.finish
  dsimp only
  split
  · rfl
  · have hk : KeepsOthers s (if becameActive old s = true then s.zonesActivated else s) := by
      split
      · exact keepsOthers_zonesActivated s
      · exact .refl s
    rw [← hk.2.2.2 f h]
    generalize (if becameActive old s = true then s.zonesActivated else s) = t at hk
    have hb := (touches_builderReact old (State.speakerReact old (becameActive old s) ((t.stairsReact
      (clearedBetween old s) (becameActive old s)).liftsReact
      (becameActive old s))).cadenceReact.alarmLampReact.loopback).2 .peers (by decide)
    simp only [Part.same] at hb
    have hs := react_station old (clearedBetween old s) (becameActive old s) t
    have hp := react_peers old (clearedBetween old s) (becameActive old s) t
    have hl := loopback_floorEntry (State.speakerReact old (becameActive old s) ((t.stairsReact
      (clearedBetween old s) (becameActive old s)).liftsReact (becameActive old s))).cadenceReact.alarmLampReact f
      (fun _ => by rw [hs, hk.1]; exact h)
    unfold State.floorEntry at hl ⊢
    rw [hb.1, hl, hp]

end Sys2Proof.Machine
end

