-- ==== Sys2Proof/Tests/Bench.lean ====
section
/-! SUPPORT. Small stations and frames for the tests and for the witnesses of the statements. -/

namespace Sys2Proof.Machine

/-- The state that a command answers. -/
def State.does (c : Instr) (s : State) : State :=
  match exec c s with
  | .next t => t
  | _ => s

/-- Inputs at rest: loops in the NORMAL band, bolts thrown, doors closed, keys off, player idle. -/
def restPins : Inputs :=
  { loops := Tab.fill 8 130, feedback := Tab.fill 4 true, door := Tab.fill 4 true, key := Tab.fill 4 false,
    busy := false }

/-- A record of these 62 bytes with its checksum. -/
def recordOf (bytes : List Nat) : Tab Byte 64 :=
  let sum := bytes.sum % 65536
  Tab.ofFn 64 (fun i => byte (if i < 62 then bytes.getD i 0 else if i = 62 then sum / 256 else sum))

/-- The tower's record for a role: L 0, H 40, primary 2, alternate 6, B 4, T 60, up 1 + 1/2, down 0 + 2/3, re-entry
base 4 step 5 with bar-origin and RESUME-STEP, zone kinds in `kinds`, two stairs with mask 0xE, two cars. -/
def towerBytes (role nUp kinds : Nat) : List Nat :=
  [0x3C, role, 0, 40, 2, 6, 4, 0, 60, 0x11, 2, 1, nUp, 2, 0, 2, 3, 4, 5, 3, kinds, kinds, kinds, kinds, 0, 0, 0, 0, 0, 4,
    1, 0x33, 0xE0, 0, 0, 120, 0, 240, 0x99, 0x10, 0x49, 0x32, 2, 10, 0x13, 0x21, 0x40, 0, 0, 0, 0x13, 0x22, 0x40, 0, 0,
    0, 0x23, 0, 0, 0, 0, 0]

/-- A station of this address in LOAD. -/
def loading (straps : BitVec 6) : State := State.reset.does (.resetRelease straps)

/-- The station in LISTEN on the built-in defaults, from a record of zeros. -/
def listening (straps : BitVec 6) : State := (loading straps).does (.configLoadComplete (Tab.fill 64 0) restPins)

/-- The station in RUN. -/
def State.enterRun (s : State) : State :=
  State.does .listenPeriodExpiry { s with station := { s.station with listenTimer := some 0 } }

def running (straps : BitVec 6) : State := (listening straps).enterRun

/-- The station has this generation. -/
def State.gen (g : Byte) (s : State) : State := { s with regime := { s.regime with generation := some g } }

/-- A floor, a bank and a console station in RUN and generation 7. -/
def floor17 : State := (running 17).gen 7
def lift48 : State := (running 48).gen 7
def console57 : State := (running 57).gen 7

/-- The frame of a COMMAND of header generation `g` from console 56. -/
def Command.frame (g : Byte) (dest : Nat) (c : Command) : Frame := ⟨56, .command, dest, 4, g, c.payload⟩

/-- The frame of a STATUS from address `a`. -/
def StatusRecord.frame (g : Byte) (a : Nat) (r : StatusRecord) : Frame := ⟨a, .status, 63, r.body.code, g, r.payload⟩

/-- The frame of a MARK from address `a` in generation 7. -/
def MarkRecord.frame (a : Nat) (m : MarkRecord) : Frame := ⟨a, .mark, 63, 5, 7, m.payload⟩

/-- The samples of a frame after 16 bit times of quiet. -/
def Frame.heard (f : Frame) : Samples := f.samples 16 0

/-- A floor's report: zone 1 in this state, the phase, one origin or none. -/
def floorReport (zone : ZoneState) (phase : Phase) (origins : List (Nat × Nat)) : StatusRecord :=
  { unset := false, general := false, listenComplete := true, hold := 0, silence := 0, digest := 131, faultCount := 0,
    worstFault := 0, origins := origins,
    body := .floor phase .idle .mute 63 ((Tab.fill 8 ZoneReport.quiet).upd 0 (fun _ => ⟨zone, zone == .alarm⟩)) 1
      (Tab.fill 4 .locked) }

/-- The station takes the whole COMMAND `c` from these samples at tick 0. -/
abbrev Taken (s : State) (f : Frame) (c : Command) : Prop :=
  s.receives f.heard f 0 ∧ s.admits f ∧ f.command = some c

theorem Taken.takes {s : State} {f : Frame} {c : Command} (h : Taken s f c) : s.takes f.heard f c :=
  ⟨⟨0, h.1⟩, h.2⟩

/-- A transmission of the entry in this slot, at collision count 0 unless the entry says otherwise. -/
def State.sends (slot : SlotId) (s : State) : State :=
  let f : Frame := ⟨s.station.address, .command, 63, 4, 7, [1]⟩
  match slot with
  | .status =>
    { s.takeSnapshot with tx := .sending .status (s.statusFrame .status),
                          slots := { s.slots with status := some ⟨.status, 0, .inFlight⟩ } }
  | .command =>
    { s with tx := .sending .command f, link := { s.link with result := ⟨1, 1, .queued, .none⟩ },
             slots := { s.slots with fifo := [⟨true, .general, 7, 63, 0, .inFlight⟩] } }
  | .mark =>
    { s with tx := .sending .mark f, slots := { s.slots with mark := some ⟨.evacuate, 400, 0, .inFlight, false⟩ } }

/-- A state with a zone, a stair or a car changed. -/
def State.withZone (z : Nat) (f : Zone → Zone) (s : State) : State := { s with zones := s.zones.upd z f }
def State.withStair (i : Nat) (f : Stair → Stair) (s : State) : State := { s with stairs := s.stairs.upd i f }
def State.withCar (c : Nat) (f : Car → Car) (s : State) : State := { s with cars := s.cars.upd c f }

/-- The laws of a state from the laws of its blocks. -/
theorem State.lawful_of_blocks {s : State} (line : s.dormantLaw ∧ s.stationLaw ∧ s.lineLaw)
    (console : s.slotsLaw ∧ s.linkLaw ∧ s.faults.lawful) (regime : s.regimeLaw) (field : s.fieldLaw)
    (sound : s.soundLaw ∧ s.peersLaw) : s.lawful :=
  ⟨line.1, line.2.1, line.2.2, console.1, console.2.1, console.2.2, regime, field, sound.1, sound.2⟩

/-- A state with an open transaction of the console link. -/
def State.opened (s : State) : State := s.does (.linkSelectActive [])

end Sys2Proof.Machine
end

