-- ==== Sys2Proof/Tests/Slice0.lean ====
section
/-! SUPPORT. The smoke test of well-formedness, and one step of each kind with the values of the manual's own worked
cases (sections 1-9, 2-3, 2-10, 3-6, 4-8, 4-9, 5-8, 6-4, 6-8, 6-9, 7-9, 7-10, 8-9, 9-8, 9-9, 10-6, 11-4). -/

set_option Elab.async false
set_option synthInstance.maxSize 4000

namespace Sys2Proof.Machine

/-! ## Well-formedness: what each check lets through and what it refuses -/

theorem test_wf_addresses : (Instr.peerSilence 47).wf = true ∧ (Instr.peerSilence 50).wf = false
    ∧ (Instr.peerSilence 56).wf = true ∧ (Instr.peerSilence 60).wf = false := by decide +kernel

theorem test_wf_collision_bits : (Instr.collision 2).wf = true ∧ (Instr.collision 1).wf = false
    ∧ (Instr.collision 556).wf = true ∧ (Instr.collision 557).wf = false := by decide +kernel

theorem test_wf_codes : (Instr.unknownRequest 10).wf = true ∧ (Instr.unknownRequest 1).wf = false
    ∧ (Instr.unknownRequest 9).wf = false ∧ (Instr.unknownRequest 0).wf = true ∧ (Instr.issueBadKind 10).wf = true
    ∧ (Instr.issueBadKind 14).wf = true ∧ (Instr.issueBadKind 13).wf = false := by decide +kernel

/-- The bytes of a request that select ends may be a known request's code alone where it takes
arguments; a whole request is no part of one (R160 and R163). -/
theorem test_wf_partial_request : (Instr.linkSelectActive []).wf = true
    ∧ (Instr.linkSelectActive [6, 12]).wf = true ∧ (Instr.linkSelectActive [3]).wf = false := by
  decide +kernel

/-- A report of a floor spells the row STATUS_FLOOR and none of the other rows of a whole record. -/
theorem test_wf_floor_report :
    let line := ((floorReport .normal .quiet []).frame 7 20).heard
    (Instr.statusFloor line).wf = true ∧ (Instr.statusLift line).wf = false ∧ (Instr.statusConsole line).wf = false
    ∧ (Instr.mark line).wf = false ∧ (Instr.frameDiscard line).wf = false
    ∧ (Instr.unknownCommandKind line).wf = false := by decide +kernel

/-- A dominant sample alone spells no row; a pulse is a mismatch, seven dominant bits a discard. -/
theorem test_wf_lone_samples :
    let line : Samples := ⟨0, [false], 0⟩
    (Instr.statusFloor line).wf = false ∧ (Instr.frameDiscard line).wf = false ∧ (Instr.general line).wf = false
    ∧ (Instr.syncMismatch line).wf = false ∧ (Instr.unknownCommandKind line).wf = false
    ∧ (Instr.syncMismatch ⟨16, [false, true], 0⟩).wf = true
    ∧ (Instr.frameDiscard ⟨16, syncOctet ++ List.replicate 7 false, 0⟩).wf = true := by decide +kernel

/-- Each COMMAND spells its own row alone; kinds 0 and 14 spell UNKNOWN_COMMAND_KIND. -/
theorem test_wf_commands :
    let line (c : Command) : Samples := (Command.frame 7 63 c).heard
    let rows (l : Samples) : List Bool := [.general l, .hold l, .resume l, .silence l, .resound l, .allClear l,
      .zoneDisable l, .zoneEnable l, .take l, .keep l, .give l, .testAnnounce l, .liftRestore l,
      .unknownCommandKind l].map Instr.wf
    let only (n : Nat) : List Bool := (List.range 14).map (fun i => i == n)
    [Command.general, .hold 1, .resume 2, .silence 1, .resound 2, .allClear, .zoneDisable 1, .zoneEnable 1, .take 1 1,
      .keep 1, .give 1, .testAnnounce 1 1, .liftRestore 48].map (fun c => rows (line c)) = (List.range 13).map only
    ∧ rows (Frame.heard ⟨56, .command, 63, 4, 7, [0]⟩) = only 13
    ∧ rows (Frame.heard ⟨56, .command, 63, 4, 7, [14]⟩) = only 13 := by decide +kernel

theorem test_wf_mark : (Instr.mark (MarkRecord.frame 16 ⟨.evacuate, 1, 400⟩).heard).wf = true
    ∧ (Instr.mark (Command.frame 7 63 .general).heard).wf = false := by decide +kernel

/-! ## Lifecycle and time -/

/-- A station of the tower of 1-9 in LISTEN, with the zone kinds of `kinds` in every pair of zones. -/
def towerListening (straps : BitVec 6) (role kinds : Nat) : State :=
  (loading straps).does (.configLoadComplete (recordOf (towerBytes role 1 kinds)) restPins)

/-- It in RUN, in generation 7. -/
def tower (straps : BitVec 6) (role kinds : Nat) : State := (towerListening straps role kinds).enterRun.gen 7

/-- A report of floor `a` reaches the station. -/
def State.reported (a : Nat) (r : StatusRecord) (s : State) : State := s.does (.statusFloor (r.frame 7 a).heard)

/-- A zone with four samples of a class behind it. -/
def State.sees (z : Nat) (c : LoopClass) (s : State) : State :=
  s.withZone z (fun x => { x with candidate := some c, run := 4 })

/-- R4: 17 is a floor, 48 a bank, 57 a console; 60 halts (R5). -/
theorem test_straps : (loading 17).station.role = some .floor ∧ (loading 48).station.role = some .lift
    ∧ (loading 57).station.role = some .console ∧ (loading 60).station.lifecycle = .halted
    ∧ (loading 17).station.lifecycle = .load := by decide +kernel

theorem test_pin_reset : (floor17.setGeneral).does .reset = State.reset := by decide +kernel

/-- 1-9: N_up read as 2 with D_up 2 is clamped to 1, CONFIG-CLAMPED 12, digest 128, a LISTEN of 900 ticks. -/
theorem test_startup_17 :
    let s := (loading 17).does (.configLoadComplete (recordOf (towerBytes 1 2 0x22)) restPins)
    s.station.lifecycle = .listen ∧ s.station.loadStatus = .loaded ∧ s.station.digest = 128
    ∧ s.station.listenTimer = some 900 ∧ s.image.up.n = 1
    ∧ s.faults.records.map (fun r => (r.kind, r.subject, r.active, r.count)) = [(.configClamped, 12, true, 1)] := by
  decide +kernel

/-- 1-9, tick 140: (20, 130 s) is taken in LISTEN with two owed ticks, and no frame becomes due. -/
theorem test_listen_adopts :
    let s := (towerListening 17 1 0x22).reported 16 (floorReport .normal .evacuate [(20, 130)])
    s.regime.generation = some 7 ∧ s.regime.origins.map (fun r => (r.origin, r.elapsed, r.applied)) = [(20, 130, 2)]
    ∧ s.station.lifecycle = .listen ∧ s.slots = Slots.empty := by decide +kernel

/-- 1-9, tick 613: the callpoint's alarm ends LISTEN; the ALARM STATUS is due at once, the heartbeat 106 ticks on. -/
theorem test_alarm_ends_listen :
    let s := (((towerListening 17 1 0x22).reported 16 (floorReport .normal .evacuate [(20, 130)])).sees 2 .alarm).does
      (.loopClassAccepted 2)
    s.station.lifecycle = .run ∧ s.regime.originFloors = [20, 17] ∧ s.builder.heartbeat = some 106
    ∧ s.slots.status = some ⟨.alarm, 0, .pending⟩ ∧ (s.zone 2).state = .alarm := by decide +kernel

/-- 3-4: the LISTEN period run out enters RUN; the first heartbeat comes by the address. -/
theorem test_listen_ends : (listening 17).enterRun.station.lifecycle = .run
    ∧ (listening 17).enterRun.station.listenComplete = true ∧ (listening 17).enterRun.builder.heartbeat = some 106
    ∧ (listening 17).does .listenPeriodExpiry = listening 17 := by decide +kernel

/-- R1: the hundredth tick event brings the second event; one tick lowers the timers by one. -/
theorem test_tick :
    let s : State := { floor17 with time := { floor17.time with toSecond := 99, tick := 65535 } }
    let t := s.does (.tick restPins)
    t.time.tick = 0 ∧ t.time.toSecond = 0 ∧ t.time.secondDue = true ∧ t.time.second = s.time.second
    ∧ t.builder.heartbeat = some 105 := by decide +kernel

/-- 6-4, e = 60: the second event that brings the elapsed time to T takes tick 1: u 19, d 15, a_up 0, a_dn 2. -/
theorem test_second_takes_the_spread_tick :
    let s := (tower 16 1 0x11).reported 17 (floorReport .alarm .evacuate [(17, 59)])
    let t := State.does .second { s with time := { s.time with secondDue := true } }
    (s.regime.origins.map (fun r => (r.elapsed, r.applied, r.upEdge, r.downEdge))) = [(59, 0, 18, 16)]
    ∧ t.regime.origins.map (fun r => (r.elapsed, r.applied, r.upEdge, r.downEdge, r.accUp, r.accDown))
        = [(60, 1, 19, 15, 0, 2)] := by decide +kernel

/-- 5-8, second 505: with B = 4 the entry of floor 11 goes SILENT at age 13 and PEER-SILENT 11 is raised. -/
theorem test_peer_silence :
    let heard (n : Nat) : State := { floor17 with
      image := { floor17.image with heartbeat := 4 },
      peers := floor17.peers.updBase 11 (fun b => { b with presence := .live, age := n }) }
    (((heard 13).does (.peerSilence 11)).peers.base 11).presence = .silent
    ∧ ((heard 13).does (.peerSilence 11)).faults.holds .peerSilent 11 = true
    ∧ (heard 12).does (.peerSilence 11) = heard 12 := by decide +kernel

/-- R77: at the silence limit the duplicate age stops and DUPLICATE-ADDRESS becomes inactive. -/
theorem test_duplicate_age :
    let s : State := floor17.reported 17 (floorReport .normal .quiet [])
    let t : State := { s with peers := { s.peers with duplicateAge := some 13 } }
    s.peers.duplicateAge = some 0 ∧ s.faults.holds .duplicateAddress 17 = true
    ∧ (t.does .duplicateAgeLimit).peers.duplicateAge = none
    ∧ (t.does .duplicateAgeLimit).faults.holds .duplicateAddress 17 = false := by decide +kernel

/-- R27: the window ends at its 60th second; 16 bad frames clear LINE-DEGRADED, 17 do not. -/
theorem test_line_window :
    let s (n : Nat) : State := { floor17 with
      line := { floor17.line with windowSeconds := 60, windowCount := n, degraded := true } }
    ((s 16).does .lineWindowEnd).line.degraded = false ∧ ((s 17).does .lineWindowEnd).line.degraded = true
    ∧ ((s 17).does .lineWindowEnd).line.windowCount = 0 := by decide +kernel

/-! ## The riser line -/

/-- 2-3: the header 44 FC 01 07 0F goes onto the line as 43 bits, with stuff bits where the manual puts them. -/
theorem test_stuffing :
    stuff true 0 (bytesBits [0x44, 0xFC, 0x01, 0x07, 0x0F]) =
      [false, true, false, false, false, true, false, false,
       true, true, true, true, true, false, true, false, false,
       false, false, false, true, false, false, false, false, true,
       false, false, false, false, false, true, true, true, true,
       false, false, false, false, true, true, true, true] := by decide +kernel

/-- 2-2: the header of an ALARM STATUS-FLOOR of station 17 in generation 7 begins 44 FC 01 07. -/
theorem test_header : (Frame.header ⟨17, .alarm, 63, 1, 7, List.replicate 15 0⟩) = [0x44, 0xFC, 0x01, 0x07, 0x0F] := by
  decide +kernel

/-- 2-10: what station 5 samples of the two colliding frames is one jam seen, and no bad frame. -/
theorem test_station_5_sees_a_jam :
    let s := (running 5).gen 7
    let t := s.does (.frameDiscard ⟨16, syncOctet ++ [false, true] ++ List.replicate 16 false ++ [true], 0⟩)
    t.line.jamSeen = 1 ∧ t.line.windowCount = 0 ∧ t.line.stuffError = 0 ∧ t.rx.phase = .hunting
    ∧ t.rx.recessiveRun = 1 := by decide +kernel

/-- R21: a pulse on an idle line costs nothing. -/
theorem test_noise_pulse :
    let t := floor17.does (.syncMismatch ⟨16, [false, true], 0⟩)
    t.line = floor17.line ∧ t.rx.phase = .hunting ∧ t.faults = floor17.faults := by decide +kernel

/-- 2-10: after the first collision station 17 waits 106 bit times and station 20 waits 121. -/
theorem test_access_waits :
    let q : Slots := { Slots.empty with status := some ⟨.alarm, 1, .pending⟩ }
    q.candidate.map (accessWait 17) = some 106 ∧ q.candidate.map (accessWait 20) = some 121
    ∧ ({ q with status := some ⟨.alarm, 0, .pending⟩ }).candidate.map (accessWait 17) = some 16
    ∧ ({ q with status := some ⟨.status, 0, .pending⟩ }).candidate.map (accessWait 17) = some 28 := by decide +kernel

/-- 2-10, bit time 15 and 16: an ALARM STATUS starts when the run reaches 16. -/
theorem test_frame_start :
    let s : State := { floor17 with slots := { Slots.empty with status := some ⟨.alarm, 0, .pending⟩ },
                                    rx := { floor17.rx with recessiveRun := 0 } }
    ((s.does (.frameStart 15 0)).tx = .idle) ∧ (s.does (.frameStart 16 0)).tx.slot.isSome = true
    ∧ (s.does (.frameStart 16 0)).slots.status = some ⟨.alarm, 0, .inFlight⟩
    ∧ (s.does (.frameStart 16 0)).builder.snapshot.isSome = true := by decide +kernel

/-- 2-10, bit time 29: the collision returns the entry with count 1, jams 12 bits and counts the collision. -/
theorem test_collision :
    let t := (floor17.sends .status).does (.collision 13)
    t.tx = .jamming ∧ t.tx.bits = List.replicate 12 false ∧ t.line.collisions = 1
    ∧ t.slots.status = some ⟨.status, 1, .pending⟩ ∧ t.builder.snapshot = none ∧ t.line.jamSeen = 0
    ∧ (t.does .jamEnd).tx = .idle ∧ (t.does .jamEnd).rx.recessiveRun = 0 := by decide +kernel

/-- R31: a frame that defers on its sync octet goes back PENDING with its count as it was. -/
theorem test_defer :
    let t := (floor17.sends .status).does (.defer 0)
    t.tx = .idle ∧ t.slots.status = some ⟨.status, 0, .pending⟩ ∧ t.line.collisions = 0
    ∧ t.builder.snapshot = none := by decide +kernel

/-- 3-6, tick 4108: the completed report clears the latch of zone 3, keeps that of zone 5, which changed in flight,
reports its origins and starts the spacing of 20 ticks. -/
theorem test_status_completes :
    let s := (((tower 17 1 0x11).withZone 2 (fun z => { z with state := .alarm, latch := true, mark := true, count := 1 })
      ).withZone 4 (fun z => { z with state := .fault, latch := true, count := 2 })).sends .status
    let t := (s.withZone 4 (fun z => { z with state := .normal, count := 3 })).does .frameComplete
    (t.zone 2).latch = false ∧ (t.zone 2).mark = false ∧ (t.zone 4).latch = true ∧ t.builder.spacing = some 20
    ∧ t.slots.status = none ∧ t.line.sent = 1 ∧ t.tx = .idle := by decide +kernel

/-- 3-6, tick 4101: two origins and a floor's body make 7 + 6 + 8 = 21 bytes, and the mask names zones 3 and 5. -/
theorem test_report_of_3_6 :
    let s := (((tower 17 1 0x11).reported 20 (floorReport .normal .evacuate [(20, 0), (17, 0)])).withZone 2 (fun z =>
      { z with latch := true })).withZone 4 (fun z => { z with latch := true })
    s.statusRecord.payload.length = 21 ∧ s.changedMask = 20 ∧ s.statusRecord.origins.map Prod.fst = [20, 17] := by
  decide +kernel

/-- 3-6, ticks 4120 and 4128: the heartbeat owes a report and restarts for 400 ticks; the spacing places it. -/
theorem test_heartbeat_and_spacing :
    let s : State := { tower 17 1 0x11 with builder :=
      { (tower 17 1 0x11).builder with heartbeat := some 0, spacing := some 8, changeDue := false },
                                            slots := Slots.empty }
    let t := s.does .heartbeatTimerExpiry
    let u : State := { t with builder := { t.builder with spacing := some 0 } }
    t.builder.heartbeat = some 400 ∧ t.builder.heartbeatOwed = true ∧ t.slots.status = none
    ∧ (u.does .spacingTimerOpen).slots.status = some ⟨.status, 0, .pending⟩ := by decide +kernel

/-! ## Records taken -/

/-- 5-8, between seconds 500 and 501: floor 2's lobby zone sets both latches, adds its origin and meets EVACUATE. -/
theorem test_lobby_alarm_at_a_bank :
    let s := (tower 48 2 0x11).reported 17 (floorReport .alarm .evacuate [(17, 0)])
    let t := s.reported 2 (floorReport .alarm .evacuate [(17, 0), (2, 0)])
    t.regime.originFloors = [17, 2] ∧ (t.floorEntry 2).alarmLatch = true ∧ (t.floorEntry 2).lobbyLatch = true
    ∧ (t.floorEntry 2).zones.at 0 ZoneReport.quiet = ⟨.alarm, true⟩ ∧ (t.floorEntry 2).disagreements = 0
    ∧ (t.floorEntry 17).lobbyLatch = false := by decide +kernel

/-- 5-8, between seconds 601 and 602: a report of the generation before is STALE and brings no alarm back. -/
theorem test_stale_report :
    let t := (floor17.gen 8).reported 9 (floorReport .alarm .evacuate [(9, 0)])
    (t.floorEntry 9).base.standing = .stale ∧ (t.floorEntry 9).base.presence = .live
    ∧ (t.floorEntry 9).alarmLatch = false ∧ t.regime.origins = [] := by decide +kernel

/-- 6-9: a restarted station takes (17, 250) and (30, 120) and stands where its peers stand. -/
theorem test_catching_up :
    let t := (towerListening 16 1 0x11).reported 20 { floorReport .normal .evacuate [(17, 250), (30, 120)] with silence := 2 }
    t.regime.origins.map (fun r => (r.origin, r.elapsed, r.applied, r.upEdge, r.downEdge, r.accUp, r.accDown))
      = [(17, 250, 4, 24, 13, 1, 2), (30, 120, 2, 34, 28, 1, 0)]
    ∧ t.regime.generation = some 7 ∧ t.regime.silence = 2 ∧ t.ownPhase = .evacuate
    ∧ [0, 10, 11, 13, 24, 25, 27, 28, 34, 35, 37, 41].map t.phaseOf = [.standby, .standby, .alert, .evacuate, .evacuate,
        .alert, .alert, .evacuate, .evacuate, .alert, .standby, .quiet] := by decide +kernel

/-- 6-8: a second origin under a silence epoch of 1 raises it to 2. -/
theorem test_second_origin_ends_silence :
    let s := ((tower 16 1 0x11).reported 17 (floorReport .alarm .evacuate [(17, 130)])).does
      (.silence (Command.frame 7 63 (.silence 1)).heard)
    let t := s.reported 30 { floorReport .alarm .evacuate [(17, 130), (30, 0)] with silence := 2 }
    s.regime.silence = 1 ∧ t.regime.silence = 2 ∧ t.regime.originFloors = [17, 30]
    ∧ [13, 15, 22, 27, 29, 32, 34].map t.phaseOf = [.alert, .evacuate, .alert, .alert, .evacuate, .alert, .standby] := by
  decide +kernel

/-- R79: a bank's car byte and a console's link-alive reach their entries. -/
theorem test_other_reports :
    let lift : StatusRecord := { floorReport .normal .quiet [] with
      body := .lift ((Tab.fill 4 CarReport.rest).upd 1 (fun c => { c with state := .parked, target := .primary })) 3 }
    let panel : StatusRecord := { floorReport .normal .quiet [] with body := .console true }
    let s := floor17.does (.statusLift (lift.frame 7 49).heard)
    let t := floor17.does (.statusConsole (panel.frame 7 59).heard)
    (s.bankEntry 1).restoreRefused = 3 ∧ ((s.bankEntry 1).cars.at 1 CarReport.rest).state = .parked
    ∧ (t.consoleEntry 3).linkAlive = true ∧ (t.consoleEntry 3).base.presence = .live := by decide +kernel

/-- R102: GENERAL puts every floor of the tower in EVACUATE and none above it. -/
theorem test_general :
    let t := (tower 16 1 0x11).does (.general (Command.frame 7 63 .general).heard)
    t.regime.general = true ∧ t.phaseOf 0 = .evacuate ∧ t.phaseOf 40 = .evacuate ∧ t.phaseOf 41 = .quiet := by
  decide +kernel

/-- R104: HOLD takes a larger epoch only; RESUME likewise. -/
theorem test_hold_and_resume :
    let s := floor17.does (.hold (Command.frame 7 63 (.hold 3)).heard)
    s.regime.hold = 3 ∧ (s.does (.hold (Command.frame 7 63 (.hold 1)).heard)).regime.hold = 3
    ∧ (s.does (.resume (Command.frame 7 63 (.resume 4)).heard)).regime.hold = 4
    ∧ (floor17.does (.resound (Command.frame 7 63 (.resound 2)).heard)).regime.silence = 2 := by decide +kernel

/-- 6-12: a SILENCE of the generation before is not taken. -/
theorem test_old_silence :
    (State.does (.silence (Command.frame 7 63 (.silence 3)).heard) (floor17.gen 8)).regime.silence = 0 := by
  decide +kernel

/-- R112, 11-4 second 930: ALL-CLEAR of generation 8 empties the view, and a zone in ALARM is NORMAL. -/
theorem test_all_clear :
    let s := ((tower 17 1 0x22).sees 2 .alarm).does (.loopClassAccepted 2)
    let t := s.does (.allClear (Command.frame 8 63 .allClear).heard)
    s.regime.active = true ∧ t.regime.generation = some 8 ∧ t.regime.origins = [] ∧ (t.zone 2).state = .normal
    ∧ t.ownPhase = .quiet ∧ (t.stair 0).release = false := by decide +kernel

/-- 4-10: ZONE DISABLE switches the loop off, ZONE ENABLE brings the zone back. -/
theorem test_zone_commands :
    let s := floor17.does (.zoneDisable (Command.frame 7 17 (.zoneDisable 3)).heard)
    (s.zone 2).state = .disabled ∧ (s.zone 2).power = false ∧ (s.zone 3).state = .normal
    ∧ ((s.does (.zoneEnable (Command.frame 7 17 (.zoneEnable 3)).heard)).zone 2).state = .normal := by decide +kernel

/-- 10-6: floor 17 takes authority for console 57 with number 5 and 10 s, keeps it, and gives it up. -/
theorem test_authority :
    let f (c : Command) : Samples := (⟨57, .command, 63, 4, 7, c.payload⟩ : Frame).heard
    let s := (tower 17 1 0x11).does (.take (f (.take 0x70000 5)))
    let old : State := { s with authority := ⟨some 57, 5, some 3⟩ }
    s.authority = ⟨some 57, 5, some 1000⟩ ∧ s.speaker.level = .manual ∧ s.speaker.source = .live
    ∧ (old.does (.keep (f (.keep 5)))).authority.keep = some 1000 ∧ (old.does (.keep (f (.keep 6)))).authority.console = none
    ∧ (s.does (.give (f (.give 0x20000)))).authority.console = none := by decide +kernel

/-- 10-6: the keep timer run out ends the authority with AUTHORITY-LAPSED 57. -/
theorem test_authority_lapses :
    let s : State := { floor17 with authority := ⟨some 57, 5, some 0⟩ }
    (s.does .keepTimerExpiry).authority.console = none
    ∧ (s.does .keepTimerExpiry).faults.holds .authorityLapsed 57 = true := by decide +kernel

/-- R152: TEST ANNOUNCE plays its message at the floors of its mask. -/
theorem test_test_announce :
    let f (m : FloorMask) : Samples := (Command.frame 7 63 (.testAnnounce m 9)).heard
    (floor17.does (.testAnnounce (f 0x20000))).speaker.level = .test
    ∧ (floor17.does (.testAnnounce (f 0x20000))).outputs.messageLines = 9
    ∧ (floor17.does (.testAnnounce (f 0x10000))).speaker.level = .idle := by decide +kernel

/-- 8-9, ticks 60000 and 92000: a restore under the regime is refused and counted; after it the parked car is NORMAL
and the one in FIREFIGHTER is noted. -/
theorem test_lift_restore :
    let s := (lift48.withCar 1 (fun c => { c with state := .parked, target := .alternate, late := true })).withCar 0
      (fun c => { c with state := .firefighter, target := .alternate })
    let f : Instr := .liftRestore (Command.frame 7 48 (.liftRestore 48)).heard
    (s.setGeneral.does f).restoreRefused = 1 ∧ ((s.setGeneral.does f).car 1).state = .parked
    ∧ ((s.does f).car 1).state = .normal ∧ ((s.does f).car 1).late = false
    ∧ ((s.does f).car 0).state = .firefighter ∧ ((s.does f).car 0).restorePending = true := by decide +kernel

/-- R44, R26: a COMMAND of no kind is counted as an unknown kind and does nothing. -/
theorem test_unknown_kind :
    let t := floor17.does (.unknownCommandKind (Frame.heard ⟨56, .command, 63, 4, 7, [14]⟩))
    t.line.unknownKind = 1 ∧ t.regime = floor17.regime := by decide +kernel

/-- R78: a COMMAND of a floor raises FOREIGN-COMMAND, inactive at once. -/
theorem test_foreign_command :
    let t := (tower 17 1 0x11).does (.general (Frame.heard ⟨20, .command, 63, 4, 7, [1]⟩))
    t.regime.general = false
    ∧ t.faults.records.map (fun r => (r.kind, r.subject, r.active)) = [(.foreignCommand, 20, false)] := by
  decide +kernel

/-- 9-9: the three MARKs of the worked case give the corrections −25, −5 and none. -/
theorem test_follower_corrections :
    let at_ (start fixed : Nat) (now : Word16) : Cadence :=
      { Cadence.atReset with run := .running, pos := some 0, cycleStart := BitVec.ofNat 16 start,
                             fixed := if fixed = 0 then none else some (-(fixed : Int)), lastLower := some now }
    let p : CadenceParams := (clampRecord (recordOf (towerBytes 1 1 0x11))).value.evacCadence
    let next (start fixed : Nat) (now : Word16) : Option Int :=
      correction p.half ((at_ start fixed now).positionError (p.cycle) now 1)
    p.half = 50 ∧ p.cycle = 400
    ∧ next 50830 0 51201 = some (-25) ∧ next 51230 25 51601 = some (-5) ∧ next 52000 0 52001 = none := by decide +kernel

/-- 9-9: a MARK of station 16 makes station 20's record a follower. -/
theorem test_mark :
    let s := ((running 20).gen 7).setGeneral
    let t := s.does (.mark (MarkRecord.frame 16 ⟨.evacuate, 1, 400⟩).heard)
    t.cadence.evac.follower = true ∧ t.cadence.alert.follower = false ∧ t.line.accepted = 1 := by decide +kernel

/-- R158: station 20's queued MARK is abandoned once a MARK of station 16 has been followed, also when the standing has
lapsed before its frame would start. -/
theorem test_overtaken_mark_is_abandoned :
    let fire := ((running 20).gen 7).setGeneral.finish ((running 20).gen 7)
    let due : State := { fire with cadence := { fire.cadence with evac := { fire.cadence.evac with cycleDue := true } } }
    let queued := { due.does .cadenceCycleStart with slots := { (due.does .cadenceCycleStart).slots with status := none } }
    let heard := queued.does (.mark (MarkRecord.frame 16 ⟨.evacuate, 1, 400⟩).heard)
    let lapsed : State := State.does (.standingLapse .evacuate) { heard with cadence := { heard.cadence with
      evac := { heard.cadence.evac with standing := some 0 } } }
    let start (s : State) : State := State.does (.frameStart 60 0) { s with slots := { s.slots with status := none } }
    (start queued).tx.slot = some .mark ∧ lapsed.cadence.evac.follower = false ∧ lapsed.slots.mark.isSome = true
    ∧ (start lapsed).tx.slot = none ∧ (start lapsed).slots.mark = none := by decide +kernel

/-! ## Field -/

/-- 4-8, ticks 1003, 1203 and 1503: VERIFY-RESET for 200, VERIFY-SETTLE for 300, a window of 6,000. -/
theorem test_verification :
    let out (s : State) : State := s.withZone 4 (fun z => { z with stage := some 0 })
    let a := (((tower 17 1 0x11).withZone 4 (fun z => { z with count := 40, accepted := some .normal })).sees 4 .alarm).does
      (.loopClassAccepted 4)
    let b := (out a).does (.stageTimerExpiry 4)
    let c := (out b).does (.stageTimerExpiry 4)
    ((a.zone 4).state, (a.zone 4).stage, (a.zone 4).count, (a.zone 4).power) = (.verifyReset, some 200, 42, false)
    ∧ ((b.zone 4).state, (b.zone 4).stage, (b.zone 4).count, (b.zone 4).power) = (.verifySettle, some 300, 43, true)
    ∧ ((c.zone 4).state, (c.zone 4).stage, (c.zone 4).count) = (.verifyConfirm, some 6000, 44)
    ∧ ((out c).does (.confirmWindowExpiry 4) |>.zone 4).state = .normal := by decide +kernel

/-- 4-8, tick 2213: confirmed, the zone's count goes from 44 to 47 and origin 17 is added. -/
theorem test_verified_alarm :
    let s := ((tower 17 1 0x11).withZone 4 (fun z =>
      { z with state := .verifyConfirm, stage := some 100, count := 44, accepted := some .normal })).sees 4 .alarm
    let t := s.does (.loopClassAccepted 4)
    (t.zone 4).state = .alarm ∧ (t.zone 4).count = 47 ∧ (t.zone 4).mark = true ∧ (t.zone 4).condition = true
    ∧ t.regime.originFloors = [17] ∧ t.slots.status = some ⟨.alarm, 0, .pending⟩ := by decide +kernel

/-- 4-9: under an active regime a settle stage ends without a window. -/
theorem test_settle_under_a_regime :
    let s := (tower 17 1 0x11).setGeneral.withZone 5 (fun z => { z with state := .verifySettle, stage := some 0 })
    let t := s.does (.stageTimerExpiry 5)
    (t.zone 5).state = .verifyConfirm ∧ (t.zone 5).stage = none ∧ (t.zone 5).run = 0 := by decide +kernel

/-- 7-9: the tenant's key unlocks stair A (mask 0xE) and not stair B (mask 0x0); the mismatch timer starts. -/
theorem test_tenant_key :
    let s := [0, 1].foldl (fun (s : State) i => s.withStair i (fun x => { x with key := ⟨false, some true, 4⟩ }))
      (tower 14 1 0x11)
    let a := s.does (.stairInputChange 0 .key)
    let b := s.does (.stairInputChange 1 .key)
    ((a.stair 0).unlock, (a.stair 0).state, (a.stair 0).mismatch, (a.stair 0).lockPin) = (true, .unlocked, some 200, false)
    ∧ ((b.stair 1).unlock, (b.stair 1).state, (b.stair 1).lockPin) = (false, .locked, true) := by decide +kernel

/-- 7-9, tick 9000: origin 17 releases the stairs of floor 14, on the pattern, and not those of floor 15. -/
theorem test_pattern_floor :
    let hears (a : BitVec 6) : State := (tower a 1 0x11).reported 17 (floorReport .alarm .evacuate [(17, 0)])
    ((hears 14).stair 0).state = .released ∧ ((hears 14).stair 1).state = .released
    ∧ ((hears 15).stair 0).state = .locked ∧ ((hears 15).stair 0).release = false ∧ (hears 14).ownPhase = .alert := by
  decide +kernel

/-- 7-10: the bolt that does not follow raises DOOR-LOCK 3; a door held open raises DOOR-HELD. -/
theorem test_stair_timers :
    let s := (running 22).withStair 2 (fun x =>
      { x with unlock := true, key := ⟨true, some true, 4⟩, mismatch := some 0, heldOpen := some 0 })
    ((s.does (.mismatchTimerExpiry 2)).stair 2).state = .fault
    ∧ (s.does (.mismatchTimerExpiry 2)).faults.holds .doorLock 3 = true
    ∧ (s.does (.heldOpenTimerExpiry 2)).faults.holds .doorHeld 3 = true := by decide +kernel

/-- 8-9, tick 9000: a car away from the floor is RECALLING for 24,000 ticks, one at it is PARKED, one on inspection is
UNAVAILABLE. -/
theorem test_recall :
    let level (b : Bool) : Debounced := ⟨b, some b, 4⟩
    let s := [0, 1, 2, 3].foldl (fun (s : State) c => s.withCar c (fun x =>
      { x with present := true, autoService := level (c != 2), atPrimary := level (c == 3), atAlternate := level false,
               inputFault := false })) lift48
    let t : State := { s with image := { s.image with primary := 2, alternate := 6, recallTimeout := 240 } }
    let u := t.reported 17 (floorReport .alarm .evacuate [(17, 0)])
    (List.range 4).map (fun c => ((u.car c).state, (u.car c).target, (u.car c).recallTimer)) =
      [(.recalling, .primary, some 24000), (.recalling, .primary, some 24000), (.unavailable, .primary, none),
        (.parked, .primary, none)]
    ∧ u.faults.holds .liftUnavailable 3 = true ∧ u.outputs.lock.list = [false, false, false, true] := by decide +kernel

/-- 8-9, tick 44000, expiry before arrival: UNAVAILABLE with the fault, then PARKED late without it. -/
theorem test_late_arrival :
    let s := lift48.setGeneral.withCar 1 (fun x =>
      { x with state := .recalling, target := .alternate, recallTimer := some 0, autoService := ⟨true, some true, 4⟩,
               atPrimary := ⟨false, some false, 4⟩, atAlternate := ⟨false, some true, 4⟩, inputFault := false })
    let a := s.does (.recallTimerExpiry 1)
    let b := a.does (.carInputChange 1 .atAlternate)
    (a.car 1).state = .unavailable ∧ a.faults.holds .liftUnavailable 2 = true
    ∧ (b.car 1).state = .parked ∧ (b.car 1).late = true ∧ b.faults.holds .liftUnavailable 2 = false := by decide +kernel

/-! ## Sound -/

/-- Floor 20 of 9-8 as it stands after tick 9000. -/
def alert20 : State := ((tower 20 1 0x11).reported 17 (floorReport .alarm .evacuate [(17, 0)]))

/-- 9-8, ticks 9000 and 9001: ALERT at step 1 with source TONE; the first cycle start shows the bell and is the tone's
first, three cycle ends to come. -/
theorem test_alert_begins :
    let s : State := { alert20 with cadence := { alert20.cadence with alert := { alert20.cadence.alert with cycleDue := true } } }
    let t := s.does .cadenceCycleStart
    (alert20.speaker.level, alert20.speaker.source, alert20.speaker.step) = (.alert, .tone, some 1)
    ∧ t.cadence.bell = some .alert ∧ t.speaker.waiting = false ∧ t.speaker.cycles = 3 := by decide +kernel

/-- 9-8, ticks 9601 to 11405: message 1 waits for the player, plays, and at its end EVACUATE comes into service. -/
theorem test_message_exchange :
    let busy (b : Bool) (s : State) : State := { s with pins := { s.pins with busy := b },
                                                        speaker := { s.speaker with busyFresh := true } }
    let sp : Speaker := { alert20.speaker with step := some 2, waiting := false, exchange := .starting, message := 1,
                                               lines := 1, exchangeTimer := some 200, source := .message }
    let a := State.does .busyLevel (busy true { alert20 with speaker := sp })
    let b := a.reported 21 (floorReport .alarm .evacuate [(17, 15), (21, 0)])
    let c := State.does .busyLevel (busy false b)
    (a.speaker.exchange, a.speaker.exchangeTimer) = (.playing, some 6000)
    ∧ (b.ownPhase, b.speaker.level, b.speaker.source) = (.evacuate, .alert, .message)
    ∧ (c.speaker.level, c.speaker.step, c.speaker.source) = (.evacuate, some 1, .tone)
    ∧ c.speaker.alertSeq.resume = some 1 ∧ c.speaker.lines = 1 := by decide +kernel

/-- R148: a message that does not end in time raises MESSAGE-TIMEOUT with its number. -/
theorem test_message_timeout :
    let sp : Speaker := { alert20.speaker with step := some 2, waiting := false, exchange := .playing, message := 1,
                                               lines := 1, exchangeTimer := some 0, source := .message }
    (State.does .messageTimerExpiry { alert20 with speaker := sp }).faults.holds .messageTimeout 1 = true := by
  decide +kernel

/-- R147: the play strobe is high for one tick event. -/
theorem test_strobes : ({ alert20 with speaker := { alert20.speaker with play := some 0 } }.does .messageStrobeEnd).speaker.play
    = none := by decide +kernel

/-- R146: a PAUSE that has run out ends its step. -/
theorem test_pause :
    let s : State := { floor17 with speaker := { floor17.speaker with level := .notice, step := some 1, pause := some 0,
                                                                      noticeRequest := true } }
    (s.does .pauseExpiry).speaker.pause = none := by decide +kernel

/-- 9-8, tick 10601: with the bell low for 100 tick events EVACUATE's second pulse is shown; below 25 it is not. -/
theorem test_bell_rests :
    let s := (tower 20 1 0x11).setGeneral.finish (tower 20 1 0x11)
    let at_ (low : Nat) : State := { s with cadence := { s.cadence with bellLow := some low, bell := none, evac :=
      { s.cadence.evac with pos := some 100, boundaryDue := true } } }
    ((at_ 100).does (.cadencePulseBoundary .evacuate)).cadence.bell = some .evacuate
    ∧ ((at_ 24).does (.cadencePulseBoundary .evacuate)).cadence.bell = none := by decide +kernel

/-- R156, R158: the strobe pulse ends; a standing that lapses makes the record a leader again. -/
theorem test_strobe_and_standing :
    let s : State := { alert20 with cadence := { alert20.cadence with strobe := some 0, alert :=
      { alert20.cadence.alert with follower := true, standing := some 0 } } }
    (s.does .strobePulseEnd).cadence.strobe = none ∧ (s.does (.standingLapse .alert)).cadence.alert.follower = false := by
  decide +kernel

/-- R15, R175: the RUN lamp of LISTEN and the LINE lamp turn over when their timers run out. -/
theorem test_lamps :
    let s := listening 17
    let t : State := { s with lamps := { s.lamps with runFlash := some 0, line := some 0 } }
    (t.does (.indicatorFlash .run)).lamps.runLit = !s.lamps.runLit ∧ (t.does .lineLitExpiry).lamps.line = none := by
  decide +kernel

/-! ## Console link -/

/-- 10-6, tick 20000: TAKE of floors 16 to 18 is issue 12, QUEUED, with authority number 5; a GIVE behind it is BUSY. -/
theorem test_take_is_queued :
    let c := tower 57 3 0x11
    let s := State.opened { c with station := { c.station with takeHoldOff := 0 },
                                   link := { c.link with issueCounter := 11, authorityNumber := 4, keep := some 500 } }
    let t := s.does (.issueTake 0x70000)
    let u := (t.does .linkSelectInactive).opened.does (.issueGive 0x40000)
    (t.link.result.number, t.link.result.kind, t.link.result.outcome) = (12, 9, .queued)
    ∧ t.slots.fifo.map (fun e => e.command) = [.take 0x70000 5] ∧ t.link.keeping = false
    ∧ u.link.result = t.link.result ∧ u.slots.fifo = t.slots.fifo := by decide +kernel

/-- 10-6, tick 20003: the TAKE completed sets keeping, the mask and the period of 300 ticks. -/
theorem test_take_completes :
    let c := tower 57 3 0x11
    let s : State := { c.sends .command with link := { c.link with keep := some 500, result := ⟨12, 9, .queued, .none⟩ }, slots :=
      { c.slots with fifo := [⟨true, .take 0x70000 5, 7, 63, 0, .inFlight⟩] } }
    let t := s.does .frameComplete
    t.link.result.outcome = .sent ∧ t.link.keeping = true ∧ t.link.keepMask = 0x70000 ∧ t.link.period = some 300
    ∧ t.slots.fifo = [] := by decide +kernel

/-- 10-6, ticks 20303 and 21500: the period queues a KEEP; the link keep run out ends the keeping. -/
theorem test_keeping :
    let c := tower 57 3 0x11
    let s : State := { c with link := { c.link with keep := some 0, keeping := true, keepMask := 0x30000, period := some 0,
                                                    authorityNumber := 5 } }
    (s.does .keepPeriodExpiry).slots.fifo.map (fun e => e.command) = [.keep 5]
    ∧ (s.does .keepPeriodExpiry).link.period = some 300
    ∧ (s.does .linkKeepExpiry).link.keeping = false ∧ (s.does .linkKeepExpiry).link.keepMask = 0
    ∧ (s.does .linkKeepExpiry).link.authorityNumber = 5 ∧ (s.does .linkKeepExpiry).link.keep = none := by decide +kernel

/-- R162: LINK KEEP starts the 5 s and sets link-alive. -/
theorem test_link_keep : (console57.opened.does .linkKeep).link.keep = some 500
    ∧ (console57.opened.does .linkKeep).link.alive = true ∧ console57.opened.link.alive = false := by decide +kernel

/-- R160: a transaction takes one request; select inactive ends it. -/
theorem test_one_request :
    let s := console57.opened.does .readResult
    s.link.taken = true ∧ (s.does .readFaults).link.buffer = s.link.buffer
    ∧ (s.does .linkSelectInactive).link.selected = false := by decide +kernel

/-- 11-4, second 900: ALL-CLEAR is refused with ALARM-PRESENT while entry 17 shows its condition; once it is NORMAL the
command is formed with header generation 8. -/
theorem test_all_clear_is_checked :
    let s (z : ZoneReport) : State := { console57.opened with peers := console57.peers.updFloor 17 (fun e =>
      { e with base := { e.base with standing := .current }, zones := e.zones.upd 4 (fun _ => z), alarmLatch := true }) }
    let t := (s ⟨.normal, false⟩).does .issueAllClear
    ((s ⟨.alarm, true⟩).does .issueAllClear).link.result.reason = .alarmPresent
    ∧ ((s ⟨.alarm, true⟩).does .issueAllClear).slots.fifo = []
    ∧ t.link.result.outcome = .queued ∧ t.slots.fifo.map (fun e => (e.command, e.generation)) = [(.allClear, 8)]
    ∧ ((s ⟨.alarm, false⟩).does .issueAllClear).link.result.outcome = .queued := by decide +kernel

/-- R167: what each ISSUE forms: its command and its destination. -/
theorem test_issues_form :
    let quiet := console57.opened
    let held (n : Nat) : State := { quiet with regime := { quiet.regime with general := true, hold := n, silence := n } }
    let formed (s : State) (c : Instr) : List (Command × Nat) := (s.does c).slots.fifo.map (fun e => (e.command, e.dest))
    formed quiet .issueGeneral = [(.general, 63)] ∧ formed (held 0) .issueHold = [(.hold 1, 63)]
    ∧ formed (held 1) .issueResume = [(.resume 2, 63)] ∧ formed (held 0) .issueSilence = [(.silence 1, 63)]
    ∧ formed (held 1) .issueResound = [(.resound 2, 63)]
    ∧ formed quiet (.issueZoneDisable 17 5) = [(.zoneDisable 5, 17)]
    ∧ formed quiet (.issueZoneEnable 17 5) = [(.zoneEnable 5, 17)]
    ∧ formed quiet (.issueTestAnnounce 1 15) = [(.testAnnounce 1 15, 63)]
    ∧ formed quiet (.issueLiftRestore 1) = [(.liftRestore 49, 49)]
    ∧ (quiet.does (.issueBadKind 14)).link.result.reason = .argument
    ∧ (quiet.does (.issueTake 1)).link.result.reason = .notReady := by decide +kernel

/-- R65, R88, R102 (log 14): the phase cross-check sees the own alarm of the same event: floor 18 reports EVACUATE, which
origin 17 gives and origin 30 does not. -/
theorem test_cross_check_sees_own_alarm :
    let s (run : Nat) : State := (tower 17 1 0x22).withZone 2 (fun z =>
      { z with state := .verifyConfirm, stage := some 900, candidate := some .alarm, run := run })
    let t (run : Nat) : State := (s run).reported 18 (floorReport .normal .evacuate [(30, 0)])
    ((t 2).zone 2).state = .alarm ∧ ((t 2).floorEntry 18).disagreements = 0
    ∧ ((t 0).zone 2).state = .verifyConfirm ∧ ((t 0).floorEntry 18).disagreements = 1 := by decide +kernel

/-- 10-1: READ ENTRY of a floor above 47, READ BANK above 1, READ CONSOLE above 3 and an unknown request answer 0xFF. -/
theorem test_reads :
    let s := console57.opened
    (s.does (.readEntry 48)).link.response.head? = some 0xFF ∧ (s.does (.readBank 2)).link.response.head? = some 0xFF
    ∧ (s.does (.readConsole 4)).link.response.head? = some 0xFF
    ∧ (s.does (.unknownRequest 10)).link.response.head? = some 0xFF
    ∧ (s.does (.readEntry 17)).link.response.length = 15 ∧ (s.does .readRegime).link.response.length = 74
    ∧ (s.does .readFaults).link.response.length = 100 ∧ (s.does .readCounters).link.response.length = 21 := by
  decide +kernel

/-- The table gives no row bits, so no word spells a command. -/
theorem test_no_word_spells_a_command : decodeTableWord 8 0 = none ∧ State.reset.withFetchWord 8 0 = State.reset :=
  ⟨rfl, rfl⟩

/-- An empty queue idles. -/
theorem test_idle : step State.reset = .next State.reset := rfl

end Sys2Proof.Machine
end

