-- ==== Sys2Proof/Tests/WitnessBlocks.lean ====
section
/-! SUPPORT. States and operands that meet the hypotheses of the statements: field, sound, console link, laws. -/

set_option Elab.async false
set_option synthInstance.maxSize 4000

namespace Sys2Proof.Machine

/-! ## Field -/

/-- Four samples of each class, in each state that is classified. -/
theorem witness_ZoneAcceptanceActs :
    let due (x : ZoneState) (c : LoopClass) (timer : Timer) : State := floor17.withZone 7 (fun z =>
      { z with state := x, candidate := some c, run := 4, stage := timer })
    let ready (s : State) (c : LoopClass) : Prop := s.actsAs .floor = true ∧ s.stationLaw ∧ (s.zone 7).acceptDue = true
      ∧ (s.zone 7).candidate = some c
    ready (due .normal .alarm none) .alarm ∧ ready (due .normal .opened none) .opened ∧ ready (due .fault .short none) .short
    ∧ ready (due .fault .normal none) .normal ∧ ready (due .verifyConfirm .alarm (some 1)) .alarm
    ∧ ready (due .verifyConfirm .normal (some 1)) .normal ∧ ready (due .verifyConfirm .normal none) .normal
    ∧ ready (due .alarm .opened none) .opened ∧ (due .normal .opened none).faults.finds .zoneOpen 8 = true
    ∧ ((due .normal .normal none).does (.loopClassAccepted 7)).regime.active = false
    ∧ (floor17.zone 7).acceptDue = false := by decide +kernel

theorem witness_ZoneAlarmStartsTheRegime :
    let due (k : ZoneKind) (x : ZoneState) : State := floor17.withZone 0 (fun z =>
      { z with kind := k, state := x, candidate := some .alarm, run := 4 })
    let ready (s : State) : Prop := s.actsAs .floor = true ∧ s.stationLaw ∧ s.regimeLaw ∧ (s.zone 0).acceptDue = true
      ∧ (s.zone 0).candidate = some .alarm
    ready (due .callpoint .normal) ∧ ((due .callpoint .normal).zone 0).verified = false
    ∧ ready (due .lobby .verifyConfirm) ∧ ready (due .lobby .fault).setGeneral
    ∧ (due .lobby .fault).setGeneral.regime.active = true
    ∧ ((due .callpoint .normal).floorEntry 17).alarmLatch = false ∧ floor17.image.inUse 17 = true := by decide +kernel

theorem witness_VerificationRunsItsStages :
    let at_ (x : ZoneState) : State := floor17.withZone 7 (fun z => { z with state := x, stage := some 0 })
    let ready (x : ZoneState) : Prop := (at_ x).actsAs .floor = true ∧ ((at_ x).zone 7).stage = some 0
      ∧ ((at_ x).zone 7).state = x
    ready .verifyReset ∧ ready .verifySettle ∧ ready .verifyConfirm ∧ (floor17.zone 7).stage ≠ some 0 := by
  decide +kernel

/-- A door closing and opening, a mismatch that stands and one that has ended, a door held open. -/
theorem witness_StairEventsAct :
    let input (now : Bool) : Debounced := ⟨now, some (!now), 4⟩
    let s : State := floor17.withStair 3 (fun x =>
      { x with door := input false, feedback := input true, key := input false, mismatch := some 0, heldOpen := some 0 })
    let opening : State := floor17.setGeneral.withStair 3 (fun x => { x with door := input true })
    s.actsAs .floor = true ∧ (s.stair 3).present = true ∧ (∀ k ∈ [StairInput.door, .feedback, .key],
      ((s.stair 3).input k).run = 4 ∧ ((s.stair 3).input k).candidate = some (!((s.stair 3).input k).accepted))
    ∧ ((s.does (.stairInputChange 3 .door)).stair 3).door.accepted = true
    ∧ opening.actsAs .floor = true ∧ opening.regime.active = true
    ∧ ((opening.does (.stairInputChange 3 .door)).stair 3).door.accepted = false
    ∧ (s.stair 3).mismatch = some 0 ∧ (s.stair 3).heldOpen = some 0
    ∧ ((s.does (.mismatchTimerExpiry 3)).stair 3).feedbackFault = false
    ∧ (((s.withStair 3 (fun x => { x with feedback := ⟨false, none, 0⟩ })).does
        (.mismatchTimerExpiry 3)).stair 3).feedbackFault = true
    ∧ s.faults.finds .doorLock 4 = true ∧ s.faults.finds .doorHeld 4 = true
    ∧ ((floor17.stair 3).input .key).run = 4 ∧ (floor17.stair 3).mismatch ≠ some 0
    ∧ (floor17.stair 3).heldOpen ≠ some 0 ∧ ((Stair.atReset true 0).input .key).run ≠ 4 := by decide +kernel

/-- For StairEventsAct: at a settled floor a GENERAL parts feedback from the lock and finds a door OPEN, and the all-clear of the fire
brings them together again with its held-open timer running. -/
theorem witness_StairsFollowAnEvent :
    let ajar : State := floor17.withStair 3 (fun x => { x with door := ⟨false, none, 0⟩ })
    let general := Instr.general (Command.frame 7 63 .general).heard
    let fire := ajar.does general
    let clear := Instr.allClear (Command.frame 8 63 .allClear).heard
    (ajar.settled ∧ ajar.actsAs .floor = true ∧ (ajar.stair 3).present = true ∧ (ajar.stair 3).inStep
      ∧ (ajar.fed (Command.frame 7 63 .general).heard).2.length ≤ 1
      ∧ ¬ (fire.stair 3).inStep ∧ (fire.stair 3).mismatch = some 200 ∧ (fire.stair 3).heldOpen = some 12000
      ∧ (fire.stair 3).count = 1)
    ∧ (fire.settled ∧ fire.clearsTo (fire.does clear) ∧ ¬ fire.opensTo (fire.does clear)
      ∧ (fire.fed (Command.frame 8 63 .allClear).heard).2.length ≤ 1
      ∧ ((fire.does clear).stair 3).mismatch = none ∧ ((fire.does clear).stair 3).heldOpen = none) := by
  constructor <;> decide +kernel

/-- Cars in every state with an input at its fourth sample, and a recall timer run out. -/
theorem witness_CarEventsAct :
    let inHand (x : CarState) (t : Target) (pending : Bool) : State := lift48.withCar 3 (fun c =>
      { c with state := x, target := t, recallTimer := some 0, restorePending := pending,
               autoService := ⟨true, some false, 4⟩, atAlternate := ⟨false, some true, 4⟩,
               ffKey := ⟨x == .firefighter, some (x != .firefighter), 4⟩, doorsOpen := ⟨true, none, 0⟩ })
    let ready (s : State) : Prop := s.actsAs .lift = true ∧ (s.car 3).present = true ∧ s.compromised = false
      ∧ ∀ i ∈ [CarInput.autoService, .atAlternate, .ffKey], ((s.car 3).input i).run = 4
        ∧ ((s.car 3).input i).candidate = some (!((s.car 3).input i).accepted)
    ready (inHand .normal .none false) ∧ ready (inHand .recalling .alternate false) ∧ ready (inHand .unavailable .alternate false)
    ∧ ready (inHand .parked .primary false) ∧ ready (inHand .firefighter .primary true)
    ∧ ready (inHand .firefighter .primary false) ∧ ready (inHand .firefighter .alternate true).setGeneral
    ∧ ((inHand .recalling .alternate false).car 3).recallTimer = some 0
    ∧ (((inHand .recalling .alternate false).does (.carInputChange 3 .autoService)).car 3).state = .unavailable
    ∧ (let faulty : State := (inHand .parked .alternate false).withCar 3 (fun c =>
         { c with atPrimary := ⟨true, some true, 4⟩, inputFault := false })
       let mended : State := faulty.withCar 3 (fun c => { c with atAlternate := ⟨true, some false, 4⟩, inputFault := true })
       ((faulty.does (.carInputChange 3 .atAlternate)).car 3).inputFault = true ∧ (faulty.car 3).inputFault = false
       ∧ faulty.faults.finds .liftInput 4 = true ∧ ready faulty
       ∧ ((mended.does (.carInputChange 3 .atAlternate)).car 3).inputFault = false ∧ (mended.car 3).inputFault = true
       ∧ ((mended.car 3).input .atAlternate).run = 4
       ∧ ((mended.car 3).input .atAlternate).candidate = some (!((mended.car 3).input .atAlternate).accepted))
    ∧ lift48.faults.finds .liftUnavailable 4 = true ∧ (lift48.car 3).recallTimer ≠ some 0
    ∧ ((Car.atReset true).input .ffKey).run ≠ 4 := by decide +kernel

/-! ## Sound -/

/-- An ALERT floor at the MESSAGE step of its sequence in each state of the exchange, and at a PAUSE: at steps after
which the walk comes to a step and to none, under MANUAL, and in a TEST. -/
theorem witness_SpeakerStepsAct :
    let alert : Regime := { floor17.regime with origins := [Spread.onset floor17.image 40], phases := Tab.fill 48 .alert }
    let s : State := { floor17 with regime := alert }
    let plays (x : Exchange) (busy : Bool) (timer : Timer) : State :=
      { s with pins := { s.pins with busy := busy },
               speaker := { s.speaker with level := .alert, step := some 2, exchange := x, exchangeTimer := timer,
                                           busyFresh := true, message := 1, noticeRequest := false } }
    let ready (t : State) : Prop := t.actsAs .floor = true ∧ t.speaker.highest t.speakerView = t.speaker.level
      ∧ t.speaker.busyFresh = true
    let paused : State := { s with speaker := { s.speaker with level := .alert, step := some 2, pause := some 0 } }
    ready (plays .clearing false none) ∧ ready (plays .starting true none) ∧ ready (plays .playing false none)
    ∧ ready (plays .starting false (some 0)) ∧ ready (plays .clearing true (some 0))
    ∧ (walkAfter false ((plays .playing false none).speaker.steps (plays .playing false none).speakerView .alert) 2).hand
        = true
    ∧ paused.speaker.highest paused.speakerView = .alert ∧ paused.speaker.pause = some 0
    ∧ paused.faults.finds .messageTimeout 1 = true ∧ floor17.speaker.pause ≠ some 0
    ∧ floor17.speaker.exchangeTimer ≠ some 0 ∧ floor17.speaker.busyFresh = false
    ∧ ({ s.speaker with play := some 0, stop := some 1 } : Speaker).play = some 0
    ∧ (let last : State := { paused with
         image := { paused.image with resumeStep := true }, authority := ⟨some 56, 5, some 100⟩ }
       let ends : State := { paused with image := { paused.image with alertSteps := Tab.ofFn 6 (fun i =>
         if i < 2 then ⟨.pause, 1⟩ else ⟨.stop, 0⟩) } }
       let test : State := { floor17 with speaker := { floor17.speaker with
         level := .test, step := some 1, testRequest := true, noticeRequest := false, exchange := .playing,
         busyFresh := true } }
       let risen : State := { paused with regime := { paused.regime with phases := Tab.fill 48 .evacuate } }
       let hollow : State := { risen with image := { risen.image with evacSteps := Tab.fill 6 ⟨.stop, 0⟩ } }
       risen.speaker.highest risen.speakerView = .evacuate ∧ risen.speaker.level = .alert ∧ risen.speaker.pause = some 0
       ∧ (walkFrom false (risen.speaker.steps risen.speakerView .evacuate) 14 1 false).hand = true
       ∧ hollow.speaker.highest hollow.speakerView = .evacuate
       ∧ (walkFrom false (hollow.speaker.steps hollow.speakerView .evacuate) 14 1 false).hand = false ∧
       last.speaker.highest last.speakerView = .manual ∧ last.speaker.step = some 2 ∧ last.actsAs .floor = true
       ∧ ends.speaker.highest ends.speakerView = .alert
       ∧ (walkAfter false (ends.speaker.steps ends.speakerView .alert) 2).hand = false
       ∧ test.speaker.level = .test ∧ test.pins.busy = false ∧ test.actsAs .floor = true) := by decide +kernel

/-- Cycle starts of the ALERT cadence at a TONE step that waits, one with cycle ends left, one at its last, and a PAUSE
step; and six steps. -/
theorem witness_SequencesWalkTheirSteps :
    let alert : State := { floor17 with
      regime := { floor17.regime with origins := [Spread.onset floor17.image 40], phases := Tab.fill 48 .alert } }
    let s (step : Nat) (waiting : Bool) (cycles : Nat) : State := { alert with
      cadence := { alert.cadence with alert := { alert.cadence.alert with run := .running, cycleDue := true } }
      image := { alert.image with alertSteps := Tab.ofFn 6 (fun i => if i = 2 then ⟨.pause, 1⟩ else ⟨.tone, 2⟩) }
      speaker := { alert.speaker with level := .alert, step := some step, waiting := waiting, cycles := cycles } }
    let ready (x : State) : Prop := x.actsAs .floor = true ∧ x.cadence.alert.cycleDue = true
      ∧ x.cadence.alert.run = .running ∧ x.cadence.evac.cycleDue = false
      ∧ x.speaker.highest x.speakerView = x.speaker.level
    let tone (x : State) : Prop := x.speaker.stepKind x.speakerView = some .tone ∧ x.speaker.level.cadence = some .alert
    ready (s 1 true 2) ∧ tone (s 1 true 2) ∧ ready (s 1 false 2) ∧ tone (s 1 false 2) ∧ ready (s 1 false 1)
    ∧ tone (s 1 false 1) ∧ ready (s 3 false 0) ∧ ¬ tone (s 3 false 0)
    ∧ ((s 1 false 1).does .cadenceCycleStart).speaker.waiting = false
    ∧ ((s 1 false 1).does .cadenceCycleStart).speaker.step = some 2
    ∧ floor17.image.alertSteps.list.length = 6 := by decide +kernel

/-- A message cut by MANUAL and one that goes on under EVACUATE; a SILENCE and a RESOUND at a floor in a fire and at an
ALERT floor. -/
theorem witness_DecisionsFollowTheRequests :
    let view (p : Phase) (manual : Bool) : SpeakerView :=
      { active := true, phase := p, silenced := false, manual := manual, busy := false, resumeStep := true,
        alertSteps := [⟨.message, 1⟩], evacSteps := [⟨.tone, 2⟩], noticeSteps := [], alertPulse := false,
        evacPulse := true }
    let p : Speaker := { Speaker.atReset with level := .alert, step := some 1, exchange := .playing }
    let fire := floor17.setGeneral.finish floor17
    let alert : State := { floor17 with
      regime := { floor17.regime with origins := [Spread.onset floor17.image 40], phases := Tab.fill 48 .alert } }
    p.highest (view .alert true) = .manual ∧ p.stepKind (view .alert true) = some .message
    ∧ p.highest (view .evacuate false) = .evacuate
    ∧ ({ p with level := .evacuate } : Speaker).stepKind (view .evacuate false) = some .tone
    ∧ (walkFrom false [⟨.tone, 2⟩] 14 1 false).hand = true
    ∧ ({ p with exchange := .idle, step := none, level := .idle } : Speaker).highest (view .evacuate false) = .evacuate
    ∧ fire.station.role = some .floor ∧ fire.settled ∧ fire.decided ∧ fire.regime.generation = some 7
    ∧ fire.ownPhase = .evacuate ∧ fire.cadence.alert.cycleDue = false ∧ fire.cadence.evac.cycleDue = false
    ∧ fire.cadence.alert.boundaryDue = false ∧ fire.cadence.evac.boundaryDue = false
    ∧ Taken fire (Command.frame 7 63 (.silence 1)) (.silence 1)
    ∧ Taken fire (Command.frame 7 63 (.resound 2)) (.resound 2)
    ∧ alert.regime.generation = some 7 ∧ alert.ownPhase = .alert ∧ alert.regime.silence = 0
    ∧ Taken alert (Command.frame 7 63 (.silence 1)) (.silence 1) := by decide +kernel

/-- Cycles due to start and to stop, pulses at position 50 (an end), 100 (a beginning) and 250 (the last end), a
strobe and a standing run out, at a floor in EVACUATE. -/
theorem witness_CadenceEventsAct :
    let fire : State := floor17.setGeneral.finish floor17
    let with_ (f : Cadence → Cadence) : State :=
      { fire with cadence := { fire.cadence with evac := f fire.cadence.evac, bellLow := some 25, strobe := some 0 } }
    let due (x : RunState) : State := with_ (fun c => { c with cycleDue := true, run := x })
    let pulse (n : Nat) : State := with_ (fun c => { c with boundaryDue := true, pos := some n, pending := some (-25) })
    (due .running).actsAs .floor = true ∧ ((due .running).cadence.record .evacuate).cycleDue = true
    ∧ ((due .running).cadence.record .evacuate).run = .running ∧ (due .running).station.lifecycle = .run
    ∧ ((due .running).cadence.record .evacuate).follower = false ∧ (due .running).ownPhase = .evacuate
    ∧ (due .running).cadence.bell = none ∧ (due .running).slots.markFlies = false
    ∧ ((due .running).sends .mark).slots.markFlies = true ∧ ((due .stopping).cadence.record .evacuate).run = .stopping
    ∧ ((pulse 250).cadence.record .evacuate).boundaryDue = true ∧ 50 / ((pulse 50).image.cadence .evacuate).half % 2 = 1
    ∧ 100 / ((pulse 100).image.cadence .evacuate).half % 2 = 0
    ∧ 250 = ((pulse 250).image.cadence .evacuate).half * (2 * ((pulse 250).image.cadence .evacuate).k - 1)
    ∧ (due .running).cadence.strobe = some 0
    ∧ ((with_ (fun c => { c with standing := some 0 })).cadence.record .evacuate).standing = some 0
    ∧ floor17.cadence.alert.cycleDue = false ∧ floor17.cadence.evac.cycleDue = false
    ∧ (floor17.cadence.record .alert).boundaryDue = false ∧ floor17.cadence.strobe ≠ some 0
    ∧ (floor17.cadence.record .alert).standing ≠ some 0
    ∧ runCondition .alert (floor17.ownPhase) = false
    ∧ (let alert : State := { floor17 with
         regime := { floor17.regime with origins := [Spread.onset floor17.image 40], phases := Tab.fill 48 .alert } }
       let rings : State := { alert with cadence := { alert.cadence with
         alert := { alert.cadence.alert with run := .running, cycleDue := true, pos := some 0 } } }
       let both : State := with_ (fun c => { c with cycleDue := true })
       let both : State := { both with cadence := { both.cadence with
         alert := { both.cadence.alert with cycleDue := true } } }
       rings.actsAs .floor = true ∧ rings.ownPhase = .alert ∧ rings.regime.silence % 2 = 0 ∧ rings.cadence.bell = none
       ∧ rings.cadence.bellLow = none
       ∧ both.cadence.alert.cycleDue = true ∧ both.cadence.alert.run = .running ∧ both.cadence.evac.run = .running)
        := by decide +kernel

/-! ## Console link -/

theorem witness_ReadsAnswerFromTheState :
    console57.opened.actsAs .console = true ∧ console57.opened.link.selected = true
    ∧ console57.opened.link.taken = false ∧ (47 : Byte).toNat ≤ 47 ∧ 47 < (48 : Byte).toNat ∧ (1 : Byte).toNat ≤ 1
    ∧ 1 < (2 : Byte).toNat ∧ (3 : Byte).toNat ≤ 3 ∧ 3 < (4 : Byte).toNat ∧ (0 : Byte).toNat = 0 ∧ 9 < (10 : Byte).toNat
    ∧ console57.opened.regime.origins.length ≤ 8 ∧ console57.opened.faults.records.length ≤ 16
    ∧ floor17.actsAs .console = false ∧ console57.link.selected = false
    ∧ (console57.opened.does .readResult).link.taken = true
    ∧ console57.opened.link.buffer.isPrefixOf [7] = true
    ∧ (let s := console57.does (.linkSelectActive [1])
       s.link.selected = true ∧ s.link.taken = false ∧ s.link.buffer.isPrefixOf [1, 47] = true
       ∧ s.link.buffer.isPrefixOf [2, 1] = false) := by decide +kernel

theorem witness_LinkTransactionsAndKeeping :
    console57.actsAs .console = true ∧ console57.link.selected = false ∧ console57.opened.link.selected = true
    ∧ partialRequest [] = true ∧ partialRequest [6, 12, 0, 0, 0, 0, 0, 0] = true
    ∧ partialRequest [6, 12, 0, 0, 0, 0, 0, 0, 1] = false ∧ partialRequest [3] = false
    ∧ console57.opened.link.buffer.isPrefixOf [8] = true
    ∧ (console57.does (.linkSelectActive [6])).link.buffer.isPrefixOf [8] = false ∧
    let keeps : State := { console57.opened with
      link := { console57.opened.link with keep := some 0, keeping := true, period := some 0, keepMask := 1 } }
    keeps.actsAs .console = true ∧ keeps.link.selected = true ∧ keeps.link.taken = false ∧ keeps.link.keep = some 0
    ∧ keeps.link.keeping = true ∧ keeps.link.period = some 0 ∧ floor17.actsAs .console = false
    ∧ console57.link.selected = false ∧ (console57.opened.does .readResult).link.taken = true
    ∧ console57.link.keep ≠ some 0 ∧ console57.link.keeping = false := by decide +kernel

/-- An ISSUE for each check: what fails first, and one that passes. -/
theorem witness_IssueIsCheckedInOrder :
    let at_ (f : Regime → Regime) : State :=
      let s := console57.opened
      { s with regime := f s.regime, station := { s.station with takeHoldOff := 0 } }
    let plain := at_ id
    let active := at_ (fun r => { r with general := true })
    let held := at_ (fun r => { r with hold := 255 })
    let burning : State := { plain with peers := plain.peers.updFloor 20 (fun e =>
      { e with base := { e.base with standing := .current }, zones := Tab.fill 8 ⟨.alarm, true⟩, authority := 58 }) }
    let open_ (s : State) : Prop := s.actsAs .console = true ∧ s.link.selected = true ∧ s.link.taken = false
      ∧ s.link.result.outcome ≠ .queued ∧ s.link.buffer = []
    open_ plain ∧ Instr.issueGeneral.asks = some .general ∧ plain.refusal .general = none
    ∧ open_ console57.opened ∧ console57.opened.refusal (.take 1) = some .notReady
    ∧ (at_ (fun r => { r with generation := none })).refusal .general = some .notReady
    ∧ plain.refusal (.zoneDisable 48 1) = some .argument ∧ plain.refusal (.zoneEnable 47 9) = some .argument
    ∧ plain.refusal (.take 0) = some .argument ∧ plain.refusal (.testAnnounce 1 16) = some .argument
    ∧ plain.refusal (.liftRestore 2) = some .argument ∧ plain.refusal (.badKind 10) = some .argument
    ∧ (Instr.issueBadKind 10).asks = some (.badKind 10)
    ∧ open_ active ∧ active.refusal (.liftRestore 1) = some .regimeActive
    ∧ plain.refusal .resume = some .notApplicable ∧ open_ held ∧ held.refusal .hold = some .notApplicable
    ∧ held.refusal .resume = some .epochLimit ∧ open_ burning ∧ burning.refusal .allClear = some .alarmPresent
    ∧ burning.refusal (.take (BitVec.twoPow 48 20)) = some .authority
    ∧ (plain.does .issueGeneral).link.result.outcome = .queued ∧ floor17.actsAs .console = false := by decide +kernel

theorem witness_IssueFormsItsCommand :
    let s := console57.opened
    Instr.issueHold.asks = some .hold ∧ exec .issueHold s = .next (s.does .issueHold)
    ∧ s.link.result.outcome ≠ .queued ∧ (s.does .issueHold).link.result.outcome = .queued :=
  ⟨rfl, rfl, by decide +kernel, by decide +kernel⟩

/-! ## Laws -/

/-- The tower's rates: up 1 + 1/2 with D 2, down 0 + 2/3 with D 3, from the onset of origin 17. -/
theorem witness_SpreadTickStepsBothEdges :
    let i := (clampRecord (recordOf (towerBytes 1 1 0x11))).value
    let r := Spread.onset i 17
    i.up.n < i.up.d ∧ i.down.n < i.down.d ∧ r.accUp < i.up.d ∧ r.accDown < i.down.d
    ∧ r.upEdge + i.up.w * i.up.d + i.up.n ≤ i.high ∧ i.low + i.down.w * i.down.d + i.down.n ≤ r.downEdge := by
  decide +kernel

/-- A floor in a fire, with an origin, a hold, a zone in ALARM, an alarm latch and a released stair. -/
def burning17 : State :=
  let s := (floor17.withZone 0 (fun z => { z with kind := .callpoint, candidate := some .alarm, run := 4 }))
  let t := s.does (.loopClassAccepted 0)
  { t with image := { t.image with zoneKinds := t.image.zoneKinds.upd 0 (fun _ => .callpoint) } }

theorem burning17_lawful : burning17.lawful := by
  apply State.lawful_of_blocks <;> decide +kernel

theorem witness_WithinAGeneration :
    let c := Instr.hold (Command.frame 7 63 (.hold 1)).heard
    burning17.lawful ∧ exec c burning17 = .next (burning17.does c) ∧ c ≠ .reset
    ∧ ((burning17.fed (Command.frame 7 63 (.hold 1)).heard).2.length ≤ 1 ∧ burning17.regime.generation = some 7
      ∧ (burning17.does c).regime.generation = some 7 ∧ (burning17.does c).regime.hold = 1
      ∧ burning17.regime.originFloors = [17] ∧ (burning17.zone 0).state = .alarm
      ∧ (burning17.floorEntry 17).alarmLatch = true ∧ (burning17.stair 0).release = true) :=
  ⟨burning17_lawful, rfl, by decide +kernel, by decide +kernel⟩

/-- In a generation, and at a station with none that adopts its first. -/
theorem witness_RegimeNeverShrinksInAGeneration :
    burning17.hearsOne (.hold (Command.frame 7 63 (.hold 1)).heard)
    ∧ (running 17).lawful ∧ (running 17).hearsOne (.allClear (Command.frame 8 63 .allClear).heard)
    ∧ (running 17).regime.generation = none
    ∧ ((running 17).does (.allClear (Command.frame 8 63 .allClear).heard)).regime.generation = some 8 := by
  refine ⟨?_, ?_, ?_, ?_⟩
  · intro line h; cases h; decide +kernel
  · apply State.lawful_of_blocks <;> decide +kernel
  · intro line h; cases h; decide +kernel
  · decide +kernel

/-- A HOLD and then a report of a higher phase, heard one after the other at a floor in a fire. -/
theorem witness_LatchesHoldUntilTheAllClear :
    let hold : RxEvent := .accepted (Command.frame 7 63 (.hold 1)) 0
    let report : RxEvent := .accepted ((floorReport .alarm .evacuate [(17, 9)]).frame 7 20) 0
    burning17.lawful ∧ burning17.acts = true ∧ burning17.regime.generation ≠ none
    ∧ (burning17.rxEvent State.handOn hold).regime.generation = burning17.regime.generation
    ∧ (burning17.rxEvent State.handOn report).regime.generation = burning17.regime.generation
    ∧ burning17.tx = .idle := by
  refine ⟨burning17_lawful, ?_⟩; decide +kernel

/-- A bank whose cars a fire sent to the alternate, after the all-clear. -/
def recalled48 : State :=
  let s := lift48.does (.statusFloor ((floorReport .alarm .evacuate [(0, 0)]).frame 7 0).heard)
  s.does (.allClear (Command.frame 8 63 .allClear).heard)

theorem recalled48_lawful : recalled48.lawful := by
  apply State.lawful_of_blocks <;> decide +kernel

/-- A LIFT RESTORE heard at a bank whose cars are still recalled to the alternate. -/
theorem witness_LawOfTheCarIsKept :
    let f := Command.frame 8 48 (.liftRestore 48)
    let c := Instr.liftRestore f.heard
    recalled48.lawful ∧ c ≠ .reset ∧ exec c recalled48 = .next (recalled48.does c)
    ∧ recalled48.hearsOne c ∧ RxEvent.restores (.accepted f 0)
    ∧ ((recalled48.fed f.heard).2 = [.accepted f 0] ∧ recalled48.acts = true ∧ (recalled48.car 0).present = true
      ∧ (recalled48.car 0).state = .recalling ∧ (recalled48.car 0).target = .alternate
      ∧ ((recalled48.does c).car 0).state = .normal) :=
  ⟨recalled48_lawful, by decide +kernel, rfl, fun line h => by cases h; decide +kernel,
    ⟨_, _, 48, rfl, by decide +kernel⟩, by decide +kernel⟩

theorem witness_RecordsRoundTrip :
    let r := floorReport .alarm .evacuate [(47, 65535), (0, 0)]
    sourceFits r.body.code 47 = true ∧ sourceFits 2 49 = true ∧ sourceFits 3 59 = true ∧ r.hold ≤ 255
    ∧ r.origins.length ≤ 8 ∧ (∀ o ∈ r.origins, o.1 ≤ 47 ∧ o.2 ≤ 65535)
    ∧ takeCommand 47 (Command.zoneEnable 8).payload = some (.zoneEnable 8)
    ∧ takeCommand 49 (Command.liftRestore 49).payload = some (.liftRestore 49)
    ∧ takeMark 47 (MarkRecord.payload ⟨.alert, 255, 510⟩) = some ⟨.alert, 255, 510⟩ := by decide +kernel

theorem step_front (c : Instr) (rest : List Instr) (s : State) :
    step { s with pending := c :: rest } = exec c { s with pending := rest } := rfl

/-- A floor in a fire is lawful, settled and serves its highest request, and a waiting SECOND answers a next state: for
the statements over steps (DormantBlocksAndCountsStayInBounds, SlotsAndLinkStayInStep, RegimeLawIsKept,
FieldSoundAndPeersStayLawful, EveryEventSettlesTheBlocks). -/
theorem witness_StepsFromLawfulStates :
    burning17.lawful ∧ burning17.lineLaw ∧ burning17.faults.lawful ∧ burning17.settled
    ∧ step { burning17 with pending := [.second] } = exec .second { burning17 with pending := [] }
    ∧ { burning17 with pending := [.second] }.settled ∧ { burning17 with pending := [.second] }.decided :=
  ⟨burning17_lawful, burning17_lawful.2.2.1, burning17_lawful.2.2.2.2.2.1, by decide +kernel, step_front _ _ _,
    by decide +kernel, by decide +kernel⟩

/-- For LawOfTheCarIsKept: a bank whose primary is an origin has recalled its cars to the alternate. -/
theorem witness_carsInAFire :
    let s : State := lift48.does (.statusFloor ((floorReport .alarm .evacuate [(0, 0)]).frame 7 0).heard)
    s.recalled ∧ s.regime.active = true ∧ (s.car 0).present = true ∧ (s.car 0).state = .recalling
    ∧ (s.car 0).target = .alternate ∧ s.image.primary ∈ s.regime.originFloors := by decide +kernel

/-- A floor's zone event that leaves change causes, with the slot empty before and an ALARM entry after; a heartbeat
placed in class STATUS; and a state in which the law holds with an entry. -/
theorem witness_ChangesAreOwedAndPlacedInTheirClass :
    let s := (floor17.withZone 0 (fun z => { z with kind := .callpoint, candidate := some .alarm, run := 4 }))
    let free : State := { s with slots := Slots.empty }
    let beat : State := { free with builder := { free.builder with heartbeat := some 0, changeDue := false,
                                                                   spacing := none } }
    let t := free.does (.loopClassAccepted 0)
    free.acts = true ∧ free.causes t ∧ free.slots.status = none ∧ t.slots.status.any (fun e => e.cls == .alarm) = true
    ∧ t.alarmNews ∧ beat.slots.status = none ∧ ¬ (beat.does .heartbeatTimerExpiry).alarmNews
    ∧ (beat.does .heartbeatTimerExpiry).slots.status.any (fun e => e.cls == .status) = true
    ∧ t.builder.changeDue = true ∧ t.placed ∧ burning17.placed ∧ burning17.slots.status.isSome = true := by
  decide +kernel

/-- Lists with a record of their own behind another, with none and with a place, and full ones of sixteen with the third
inactive and with none; and a floor in RUN at which the silence of peer 20 is due. -/
theorem witness_FaultListTakesRaisesAndClears :
    let listed (active : Nat → Bool) (n : Nat) : FaultList :=
      ⟨(List.range n).map (fun i => ⟨.peerSilent, i, active i, 255, 3⟩), 254⟩
    let full := listed (fun i => i != 2) 16
    let busy := listed (fun _ => true) 16
    let quiet : State := { floor17 with peers := floor17.peers.updBase 20 (fun b =>
      { b with presence := .live, age := 13 }) }
    ((listed (fun _ => false) 3).lawful ∧ (listed (fun _ => false) 3).records.drop 1 = ⟨.peerSilent, 1, false, 255, 3⟩
        :: (listed (fun _ => false) 3).records.drop 2
      ∧ ¬ (∃ r ∈ (listed (fun _ => false) 3).records, r.kind = .zoneOpen ∧ r.subject = 1)
      ∧ full.lawful ∧ full.records.length = 16 ∧ (∀ x ∈ full.records.take 2, x.active = true)
      ∧ full.records.drop 2 = ⟨.peerSilent, 2, false, 255, 3⟩ :: full.records.drop 3
      ∧ ¬ (∃ r ∈ full.records, r.kind = .zoneOpen ∧ r.subject = 1)
      ∧ busy.lawful ∧ busy.records.length = 16 ∧ (∀ x ∈ busy.records, x.active = true)
      ∧ (busy.raise .zoneOpen 1 9).overflow = 255)
    ∧ (quiet.stationLaw ∧ quiet.settled ∧ quiet.acts = true ∧ (∀ n < 4, (quiet.car n).target = .primary → ¬ quiet.primaryLost)
      ∧ isPeerAddress 20 = true ∧ quiet.faults.lawful
      ∧ 20 ≠ quiet.station.address ∧ (quiet.peers.base 20).presence = .live
      ∧ 3 * quiet.image.heartbeat + 1 ≤ (quiet.peers.base 20).age) := by
  constructor <;> decide +kernel

/-- A floor with an ALARM run in hand in VERIFY-CONFIRM and a window without one, which a report of floor 20 lets in; a
bank whose cars a GENERAL sends to the primary, or to the alternate for an origin there, and one on which that origin
comes while they are on their way. -/
theorem witness_AnOpeningRegimeReachesTheField :
    let report (origins : List (Nat × Nat)) : Frame := (floorReport .alarm .evacuate origins).frame 7 20
    let opens (origins : List (Nat × Nat)) : Instr := .statusFloor (report origins).heard
    let confirms : State := (floor17.withZone 6 (fun z =>
        { z with state := .verifyConfirm, stage := some 100, candidate := some .alarm, run := 1 })).withZone 7 (fun z =>
        { z with state := .verifyConfirm, stage := some 100 })
    let one (s : State) (origins : List (Nat × Nat)) : Prop := (s.fed (report origins).heard).2.length ≤ 1
    let away := (lift48.does (opens [])).does (opens [(0, 0)])
    confirms.lawful ∧ (one confirms [] ∧ confirms.actsAs .floor = true ∧ confirms.regime.active = false
      ∧ (confirms.does (opens [])).regime.active = true ∧ (confirms.does (opens [])).regime.generation = some 7
      ∧ ((confirms.does (opens [])).zone 6).state = .alarm ∧ ((confirms.does (opens [])).zone 7).stage = none)
    ∧ (one lift48 [] ∧ one lift48 [(0, 0)] ∧ lift48.recalled ∧ lift48.actsAs .lift = true
      ∧ (lift48.car 3).present = true ∧ (lift48.car 3).state = .normal ∧ lift48.opensTo (lift48.does (opens []))
      ∧ ((lift48.does (opens [])).car 3).target = .primary ∧ ((lift48.does (opens [(0, 0)])).car 3).target = .alternate)
    ∧ (one (lift48.does (opens [])) [(0, 0)] ∧ (lift48.does (opens [])).recalled
      ∧ ((lift48.does (opens [])).car 3).state = .recalling
      ∧ away.primaryLost ∧ (away.car 3).target = .alternate
      ∧ (away.car 3).recallTimer = some (100 * lift48.image.recallTimeout)) := by
  refine ⟨?_, ?_, ?_, ?_⟩
  · apply State.lawful_of_blocks <;> decide +kernel
  all_goals decide +kernel

/-- A floor at rest and one in a fire, a bank at rest and one recalled, and a console. -/
theorem witness_PinsShowTheStation :
    burning17.lawful ∧ recalled48.lawful
    ∧ (floor17.settled ∧ burning17.settled ∧ lift48.settled ∧ recalled48.settled ∧ console57.settled
      ∧ floor17.acts = true ∧ burning17.regime.active = true ∧ lift48.acts = true ∧ console57.acts = true
      ∧ (recalled48.car 0).state = .recalling ∧ floor17.regime.active = false) :=
  ⟨burning17_lawful, recalled48_lawful, by decide +kernel⟩

end Sys2Proof.Machine
end

