-- ==== Sys2Proof/Tests/WitnessLine.lean ====
section
/-! SUPPORT. States and operands that meet the hypotheses of the statements: start-up, time, reception, transmission. -/

set_option Elab.async false
set_option synthInstance.maxSize 16000

namespace Sys2Proof.Machine

theorem running_lawful : floor17.lawful ∧ lift48.lawful ∧ console57.lawful := by
  refine ⟨?_, ?_, ?_⟩ <;> apply State.lawful_of_blocks <;> decide +kernel

theorem witness_EveryCommandCompletesWithinItsParts :
    exec .readRegime State.reset = .next State.reset ∧ Part.zones ∉ Instr.readRegime.touches :=
  ⟨rfl, by decide +kernel⟩

theorem witness_ReleaseFixesAddressAndRole :
    State.reset.station.lifecycle = .reset ∧ floor17.station.lifecycle ≠ .reset
    ∧ (0 : BitVec 6).toNat < 48 ∧ (47 : BitVec 6).toNat < 48 ∧ (48 : BitVec 6).toNat = 48 ∧ (49 : BitVec 6).toNat = 49
    ∧ (50 : BitVec 6).toNat = 50 ∧ (55 : BitVec 6).toNat = 55 ∧ (56 : BitVec 6).toNat = 56
    ∧ (59 : BitVec 6).toNat = 59 ∧ 60 ≤ (60 : BitVec 6).toNat ∧ (63 : BitVec 6).toNat = 63 := by decide +kernel

/-- A whole record, one of another role, one with a wrong sum, and one of another format. -/
theorem witness_RejectedRecordGivesDefaults :
    (loading 17).station.lifecycle = .load ∧ (loading 17).station.role = some .floor ∧ (loading 17).faults.records = []
    ∧ failedCheck .floor (recordOf (towerBytes 1 1 0x11)) = none
    ∧ failedCheck .floor (recordOf (towerBytes 2 1 0x11)) = some 2
    ∧ failedCheck .floor ((recordOf (towerBytes 1 1 0x11)).upd 63 (fun b => b + 1)) = some 3
    ∧ failedCheck .floor (Tab.fill 64 0) = some 1 := by decide +kernel

theorem witness_AcceptedRecordGivesLawfulImage :
    (loading 17).station.lifecycle = .load ∧ (loading 17).station.role = some .floor ∧ (loading 17).faults = ⟨[], 0⟩
    ∧ failedCheck .floor (recordOf (towerBytes 1 1 0x11)) = none
    ∧ (clampRecord (recordOf (towerBytes 1 1 0x11))).faults = []
    ∧ failedCheck .floor (recordOf (towerBytes 1 2 0x11)) = none
    ∧ (clampRecord (recordOf (towerBytes 1 2 0x11))).faults = [12]
    ∧ failedCheck .floor (recordOf (towerBytes 1 1 0x66)) = none
    ∧ 5 < recByte (recordOf (towerBytes 1 1 0x66)) 20 / 16 ∧ 5 < recByte (recordOf (towerBytes 1 1 0x66)) 20 % 16
    ∧ ((loading 17).does (.configLoadComplete (recordOf (towerBytes 1 1 0x66)) restPins)).faults.records.any
        (fun x => x.kind == .configClamped && x.subject == 20 && x.count == 2) = true := by decide +kernel

theorem witness_LoadEndEntersListen :
    (loading 17).station.lifecycle = .load ∧ (loading 17).station.role = some .floor
    ∧ (loading 48).station.role = some .lift ∧ floor17.station.lifecycle ≠ .load
    ∧ ((loading 17).does (.configLoadComplete (Tab.fill 64 0) restPins)).image.stairsPresent.at 3 false = true
    ∧ ((loading 48).does (.configLoadComplete (Tab.fill 64 0) restPins)).image.carsPresent.at 3 false = true := by
  decide +kernel

/-- A LISTEN period run out in LISTEN, at a heartbeat offset above 0 and of 0, with and without a report owed; and
in RUN. -/
theorem witness_ListenExpiryEntersRun :
    let out (s : State) : State := { s with station := { s.station with listenTimer := some 0 } }
    (out (listening 17)).station.lifecycle = .listen ∧ (out (listening 17)).station.listenTimer = some 0
    ∧ (out (listening 0)).station.address = 0 ∧ (out (listening 0)).slots.status = none
    ∧ (out (listening 0)).builder.spacing = none ∧ ((out (listening 0)).does .listenPeriodExpiry).reportOwed = true
    ∧ (out floor17).station.lifecycle = .run ∧ (out floor17).station.listenTimer = some 0
    ∧ (listening 17).station.listenTimer ≠ some 0 := by decide +kernel

theorem witness_TickAdvancesTheTimebase :
    floor17.station.lifecycle ≠ .reset ∧ floor17.acts = true ∧ (loading 17).station.lifecycle ≠ .reset
    ∧ (loading 17).acts = false ∧ State.reset.station.lifecycle = .reset ∧ floor17.time.toSecond < 99 := by
  decide +kernel

/-- Stations of each role in RUN at which nothing is due, so that what TICK catches up with is the station itself; a
floor in a fire, a tick event short of the end of an on-pulse; and a halted station, its first half period to start. -/
theorem witness_TickRunsTimersAndSamples :
    let fire := floor17.setGeneral.finish floor17
    let s : State := { fire with cadence := { fire.cadence with evac := { fire.cadence.evac with pos := some 49 } } }
    floor17.acts = true ∧ lift48.acts = true ∧ console57.acts = true
    ∧ (∀ c ∈ timedCommands, floor17.does c = floor17) ∧ (lift48.car 0).present = true
    ∧ (∀ c ∈ timedCommands, s.does c = s) ∧ s.cadence.evac.run = .running ∧ s.cadence.alert.pos = none
    ∧ (s.stair 0).present = true ∧ (s.zone 0).classified = true
    ∧ ((s.does (.tick restPins)).cadence.evac.boundaryDue = true)
    ∧ (loading 60).station.lifecycle = .halted ∧ (loading 60).lamps.haltFlash = some 1 := by decide +kernel

/-- The station in a view that a report has opened: origin 20 at 61 s, one spread tick of 60 s applied. -/
def spreading17 : State := floor17.does (.statusFloor ((floorReport .alarm .evacuate [(20, 61)]).frame 7 20).heard)

theorem witness_SecondAdvancesTheCounts :
    let due (s : State) : State := { s with time := { s.time with secondDue := true } }
    ((due spreading17).regimeLaw ∧ (due spreading17).stationLaw ∧ (due spreading17).acts = true
      ∧ (due spreading17).regime.origins.any (fun r => !r.complete && r.applied == 1) = true) ∧
    (due floor17).stationLaw ∧ (due floor17).time.secondDue = true ∧ (due floor17).acts = true
    ∧ (due (loading 17)).stationLaw ∧ (due (loading 17)).acts = false ∧ floor17.stationLaw
    ∧ floor17.time.secondDue = false := by decide +kernel

/-- A LIVE peer at the silence limit of 13 s and one short of it, a duplicate age at the limit, a window at its 60th
second clean and not, and one short of it. -/
theorem witness_SecondExpiriesAct :
    let heard (n : Nat) : State := { floor17 with peers := floor17.peers.updBase 20 (fun b =>
      { b with presence := .live, age := n }) }
    let window (n : Nat) : State := { floor17 with line := { floor17.line with windowSeconds := 60, windowCount := n,
                                                                               degraded := true } }
    (heard 13).stationLaw ∧ (heard 13).acts = true ∧ isPeerAddress 20 = true ∧ 20 ≠ (heard 13).station.address
    ∧ ((heard 13).peers.base 20).presence = .live
    ∧ 3 * (heard 13).image.heartbeat + 1 = ((heard 13).peers.base 20).age
    ∧ ((heard 12).peers.base 20).age < 3 * (heard 12).image.heartbeat + 1
    ∧ (heard 13).faults.finds .peerSilent 20 = true
    ∧ 60 ≤ (window 16).line.windowSeconds ∧ (window 16).line.windowCount ≤ 16 ∧ (window 16).line.degraded = true
    ∧ 16 < (window 17).line.windowCount ∧ floor17.line.windowSeconds < 60 := by decide +kernel

/-! ## Reception -/

theorem witness_ReceiverAcceptsEveryFrame :
    (Command.frame 7 63 .general).fits = true ∧ Receiver.armed.phase = .hunting ∧ Receiver.armed.recessiveRun = 16 := by
  decide +kernel

theorem witness_SyncIsCheckedBitByBit :
    Receiver.armed.phase = .hunting ∧ Receiver.inSync.phase = .sync ∧ Receiver.inSync.checked = 0
    ∧ true ≠ [false, false, true, false, true].getD Receiver.inSync.checked true
    ∧ floor17.acts = true ∧ floor17.tx = .idle
    ∧ (floor17.fed ⟨16, [false, true], 0⟩).2 = [.syncMismatch] := by decide +kernel

/-- Samples of each kind of discard: a broken CRC, a wrong class, six equal bits, a jam, a length above 48, another's
destination; at a window count of 16. -/
theorem witness_DiscardsAreCounted :
    let s : State := { floor17 with line := { floor17.line with windowCount := 16 } }
    let fed (bits : List Bool) : List RxEvent := (s.fed ⟨16, bits, 0⟩).2
    s.acts = true ∧ s.tx = .idle ∧ s.line.degraded = false ∧ s.faults.finds .lineDegraded 0 = true
    ∧ fed (syncOctet ++ List.replicate 6 true) = [.stuffError]
    ∧ fed (syncOctet ++ List.replicate 7 false) = [.jamSeen]
    ∧ fed (syncOctet ++ stuff true 0 (bytesBits [224, 252, 4, 7, 49])) = [.badLength]
    ∧ fed (syncOctet ++ stuff true 0 (bytesBits [225, 252, 4, 7, 1, 1, 0, 0])) = [.crcError]
    ∧ fed (Frame.lineBits ⟨56, .mark, 63, 4, 7, [1]⟩) = [.unknownKind]
    ∧ fed (Frame.lineBits ⟨56, .command, 20, 4, 7, [7, 1]⟩) = [.abandoned]
    ∧ (loading 17).acts = false ∧ (console57.sends .command).tx ≠ .idle := by decide +kernel

theorem witness_ReceiptChecksStopARecord :
    let own := (floorReport .normal .quiet []).frame 7 17
    let foreign : Frame := ⟨20, .command, 63, 4, 7, [1]⟩
    floor17.receives own.heard own 0 ∧ floor17.stationLaw ∧ own.source = floor17.station.address
    ∧ floor17.peers.duplicateAge = none ∧ floor17.faults.finds .duplicateAddress 17 = true
    ∧ floor17.receives foreign.heard foreign 0 ∧ foreign.source ≠ floor17.station.address ∧ foreign.code = 4
    ∧ foreign.source < 56 ∧ floor17.faults.finds .foreignCommand 20 = true
    ∧ lift48.receives foreign.heard foreign 0 ∧ lift48.stationLaw ∧ foreign.source ≠ lift48.station.address
    ∧ lift48.faults.finds .foreignCommand 20 = true := by decide +kernel

/-- Records that are not whole: a COMMAND of kind 14, a disabled zone 9, a MARK of cycle length 1, a STATUS cut short;
and whole ones at the bounds: zone 8 of floor 47, bank 49, offset 255 in a cycle of 510, floor 47's report. -/
theorem witness_RecordsThatAreNotWholeAreSetAside :
    let admitted (f : Frame) : Prop := floor17.receives f.heard f 0 ∧ floor17.admits f
    let cut (dest : Nat) (bytes : List Byte) : Frame := ⟨56, .command, dest, 4, 7, bytes⟩
    let m := MarkRecord.frame 16 ⟨.evacuate, 0, 1⟩
    let r : Frame := ⟨20, .status, 63, 1, 7, [0]⟩
    floor17.stationLaw
    ∧ (admitted (cut 63 [14]) ∧ ¬ (cut 63 [14]).wholeCommand) ∧ ¬ (cut 47 [7, 9]).wholeCommand
    ∧ (cut 47 [7, 8]).wholeCommand ∧ (cut 49 [13, 49]).wholeCommand ∧ ¬ (cut 49 [13, 48]).wholeCommand
    ∧ (admitted m ∧ ¬ m.wholeMark) ∧ (MarkRecord.frame 47 ⟨.alert, 255, 510⟩).wholeMark
    ∧ (admitted r ∧ ¬ r.wholeStatus)
    ∧ ((floorReport .alarm .evacuate [(47, 65535), (0, 0)]).frame 7 47).wholeStatus
    ∧ admitted (Command.frame 7 63 .general) ∧ (Command.frame 7 63 .general).wholeCommand := by decide +kernel

/-- Reports of a floor, a bank and a console, from a SILENT peer, in the own and in an older generation. -/
theorem witness_StatusRefreshesItsEntry :
    let s : State := { floor17 with peers := floor17.peers.updBase 20 (fun b => { b with presence := .silent }) }
    let lift : StatusRecord := { floorReport .normal .quiet [] with body := .lift (Tab.fill 4 CarReport.rest) 3 }
    let panel : StatusRecord := { floorReport .normal .quiet [] with body := .console true }
    let admitted (g : Byte) (a : Nat) (r : StatusRecord) : Prop := s.receives (r.frame g a).heard (r.frame g a) 0
      ∧ s.admits (r.frame g a) ∧ takeStatus r.body.code a r.payload = some r
    let other : StatusRecord := { floorReport .normal .quiet [] with digest := 77 }
    let differed : State := { s with peers := s.peers.updBase 20 (fun b => { b with paramDisagree := true }) }
    (admitted 7 20 other ∧ other.digest ≠ s.station.digest ∧ (s.peers.base 20).paramDisagree = false
      ∧ s.faults.finds .paramDisagree 20 = true
      ∧ (let f := (floorReport .normal .quiet []).frame 7 20
         differed.receives f.heard f 0 ∧ differed.admits f ∧ (differed.peers.base 20).paramDisagree = true)
      ∧ (floorReport .normal .quiet []).digest = s.station.digest) ∧
    s.stationLaw ∧ admitted 7 20 (floorReport .normal .quiet []) ∧ admitted 6 20 (floorReport .normal .quiet [])
    ∧ s.meetsOlder 6 = true ∧ s.meetsOlder 7 = false ∧ admitted 7 49 lift ∧ admitted 7 59 panel
    ∧ (s.peers.base 20).presence = .silent := by decide +kernel

/-- A floor's report over a stored ALARM: DISABLED, NORMAL and ALARM received, at a station of the same generation, of
an older one and of none; with the regime active and inactive, and a phase that agrees and one that does not; and an
unset record. -/
theorem witness_StatusMergesZones :
    let s : State := { floor17 with peers := floor17.peers.updFloor 20 (fun e =>
      { e with zones := Tab.fill 8 ⟨.alarm, true⟩, alarmLatch := true, disagreements := 2 }) }
    let active : State := s.setGeneral
    let admitted (x : State) (r : StatusRecord) : Prop := x.receives (r.frame 7 20).heard (r.frame 7 20) 0
      ∧ x.admits (r.frame 7 20) ∧ takeStatus 1 20 r.payload = some r ∧ x.stationLaw
    let calm : State := { floor17 with peers := floor17.peers.updFloor 20 (fun e => { e with disagreements := 2 }) }
    let full : State := { calm with regime := { calm.regime with
      origins := (List.range 8).map (Spread.onset calm.image) } }
    (admitted calm (floorReport .alarm .quiet []) ∧ (calm.floorEntry 20).alarmLatch = false
      ∧ calm.image.inUse 20 = true ∧ 20 ∉ calm.regime.originFloors ∧ calm.regime.origins.length < 8
      ∧ calm.faults.finds .phaseDisagree 20 = true
      ∧ (floorReport .alarm .quiet []).digest = calm.station.digest ∧ calm.faults.records.length < 15
      ∧ ((calm.does (.statusFloor ((floorReport .alarm .quiet []).frame 7 20).heard)).floorEntry 20).disagree = true
      ∧ (calm.floorEntry 20).disagree = false
      ∧ admitted full (floorReport .alarm .quiet []) ∧ 20 ∉ full.regime.originFloors
      ∧ 8 ≤ full.regime.origins.length) ∧
    admitted s (floorReport .disabled .quiet []) ∧ admitted s (floorReport .normal .quiet [])
    ∧ admitted s (floorReport .alarm .quiet []) ∧ s.regime.generation = some 7
    ∧ admitted (running 17) (floorReport .alarm .quiet []) ∧ (running 17).regime.generation = none
    ∧ admitted active (floorReport .normal .evacuate []) ∧ admitted active (floorReport .normal .alert [])
    ∧ active.regime.active = true ∧ active.phaseOf 20 = .evacuate
    ∧ admitted s { floorReport .normal .quiet [] with unset := true }
    ∧ admitted (s.gen 6) (floorReport .alarm .quiet []) ∧ (s.gen 6).meetsNewer 7 = true
    ∧ admitted (active.gen 6) (floorReport .normal .alert []) ∧ s.regime.active = false ∧ s.phaseOf 20 = .quiet
    ∧ admitted s (floorReport .normal .alert []) := by decide +kernel

theorem witness_StatusPrefixIsTakenIn :
    let r := floorReport .normal .evacuate [(20, 65535), (47, 0), (0, 61)]
    let admitted (s : State) (g : Byte) : Prop := s.receives (r.frame g 20).heard (r.frame g 20) 0
      ∧ s.admits (r.frame g 20) ∧ takeStatus 1 20 r.payload = some r ∧ s.stationLaw
    let hushed : State := { floor17 with regime := { floor17.regime with silence := 1 } }
    admitted hushed 7 ∧ hushed.regimeLaw ∧ (hushed.floorEntry 20).alarmLatch = false ∧ hushed.image.inUse 20 = true
    ∧ (hushed.does (.statusFloor (r.frame 7 20).heard)).regime.silence = 2
    ∧ floor17.regimeLaw ∧ (floor17.does (.statusFloor (r.frame 7 20).heard)).regime.origins.any (fun x => !x.complete) = true
    ∧ admitted floor17 7 ∧ floor17.meetsOlder 7 = false ∧ floor17.image.inUse 0 = true ∧ floor17.image.inUse 47 = true
    ∧ admitted floor17 8 ∧ floor17.meetsNewer 8 = true ∧ admitted floor17 134 ∧ floor17.meetsNewer 134 = true
    ∧ admitted floor17 135 ∧ floor17.meetsOlder 135 = true ∧ r.unset = false := by decide +kernel

/-- Regime commands of the own generation, of an older one, and the ALL-CLEAR that sets a generation. -/
theorem witness_RegimeCommandsAct :
    (floor17.meetsOlder 7 = false ∧ floor17.regimeLaw ∧ Taken floor17 (Command.frame 7 63 .general) .general
      ∧ Taken floor17 (Command.frame 7 63 (.hold 255)) (.hold 255)
      ∧ Taken floor17 (Command.frame 7 63 (.resume 0)) (.resume 0)
      ∧ Taken floor17 (Command.frame 7 63 (.silence 1)) (.silence 1)
      ∧ Taken floor17 (Command.frame 7 63 (.resound 2)) (.resound 2))
    ∧ (Taken floor17 (Command.frame 135 63 .general) .general ∧ floor17.meetsOlder 135 = true
      ∧ Taken floor17 (Command.frame 6 63 .allClear) .allClear ∧ floor17.meetsOlder 6 = true
      ∧ Taken (running 17) (Command.frame 8 63 .allClear) .allClear ∧ (running 17).regime.generation = none) := by
  constructor <;> decide +kernel

/-- An ALL-CLEAR of the next generation at a floor in a fire, with a zone in ALARM and a released stair. -/
theorem witness_AllClearEndsTheRegime :
    let s : State := (floor17.setGeneral.withZone 0 (fun z => { z with state := .alarm, accepted := some .alarm })).finish
      floor17
    Taken s (Command.frame 8 63 .allClear) .allClear ∧ s.meetsNewer 8 = true ∧ s.stationLaw ∧ s.fieldLaw
    ∧ s.station.role = some .floor ∧ (s.zone 0).supervised = true ∧ (s.zone 0).state = .alarm
    ∧ (s.zone 1).state = .normal ∧ (s.stair 0).present = true ∧ (s.stair 0).release = true := by
  refine ⟨?_, ?_, ?_, ⟨?_, fun _ => ⟨?_, ?_, ?_⟩⟩, ?_⟩ <;> decide +kernel

theorem witness_ZoneCommandsAct :
    let off : State := floor17.withZone 7 (fun z => { z with state := .disabled })
    floor17.station.role = some .floor ∧ Taken floor17 (Command.frame 7 17 (.zoneDisable 1)) (.zoneDisable 1)
    ∧ Taken floor17 (Command.frame 7 17 (.zoneDisable 8)) (.zoneDisable 8) ∧ (floor17.zone 0).supervised = true
    ∧ (floor17.zone 0).state ≠ .disabled ∧ floor17.meetsNewer 7 = false
    ∧ Taken off (Command.frame 7 17 (.zoneDisable 8)) (.zoneDisable 8) ∧ (off.zone 7).state = .disabled
    ∧ Taken off (Command.frame 7 17 (.zoneEnable 8)) (.zoneEnable 8) ∧ (off.zone 7).supervised = true
    ∧ Taken floor17 (Command.frame 7 17 (.zoneEnable 8)) (.zoneEnable 8) := by decide +kernel

/-- TAKE with no authority, with the own and with another console's; KEEP with both numbers and from a console that
holds nothing; GIVE; and a keep timer run out. -/
theorem witness_AuthorityCommandsAct :
    let held (c : Nat) : State := { floor17 with authority := ⟨some c, 5, some 0⟩ }
    let take : Command := .take (BitVec.allOnes 48) 5
    let other : Command := .take 1 5
    floor17.station.role = some .floor ∧ Taken floor17 (Command.frame 7 63 take) take
    ∧ (BitVec.allOnes 48).getLsbD 17 = true ∧ floor17.authority.console = none
    ∧ Taken (held 56) (Command.frame 7 63 take) take ∧ Taken (held 59) (Command.frame 7 63 take) take
    ∧ Taken floor17 (Command.frame 7 63 other) other ∧ (1 : FloorMask).getLsbD 17 = false
    ∧ Taken (held 56) (Command.frame 7 63 (.keep 5)) (.keep 5) ∧ (held 56).authority.console = some 56
    ∧ (held 56).authority.number = 5 ∧ Taken (held 56) (Command.frame 7 63 (.keep 6)) (.keep 6)
    ∧ Taken (held 59) (Command.frame 7 63 (.keep 5)) (.keep 5) ∧ (held 56).faults.finds .authorityLapsed 56 = true
    ∧ Taken (held 56) (Command.frame 7 63 (.give (BitVec.allOnes 48))) (.give (BitVec.allOnes 48))
    ∧ (held 56).acts = true ∧ (held 56).authority.keep = some 0 ∧ floor17.authority.keep ≠ some 0 := by decide +kernel

theorem witness_TestAnnounceAndLiftRestoreAct :
    let test : Command := .testAnnounce (BitVec.allOnes 48) 15
    let restore : Command := .liftRestore 48
    let bank (x : CarState) : State := lift48.withCar 0 (fun c => { c with state := x, target := .primary })
    floor17.station.role = some .floor ∧ Taken floor17 (Command.frame 7 63 test) test
    ∧ (floor17.regime.met 7).active = false ∧ floor17.speaker.testRequest = false
    ∧ Taken floor17.setGeneral (Command.frame 7 63 test) test ∧ (floor17.setGeneral.regime.met 7).active = true
    ∧ lift48.station.role = some .lift ∧ (lift48.regime.met 7).active = false ∧ (lift48.car 0).present = true
    ∧ Taken (bank .recalling) (Command.frame 7 48 restore) restore
    ∧ Taken (bank .firefighter) (Command.frame 7 48 restore) restore
    ∧ Taken (bank .unavailable) (Command.frame 7 48 restore) restore
    ∧ Taken lift48 (Command.frame 7 48 restore) restore
    ∧ Taken lift48.setGeneral (Command.frame 7 48 restore) restore
    ∧ (lift48.setGeneral.regime.met 7).active = true := by decide +kernel

/-- MARKs of the EVACUATE cycle length 400 from below and above, and of another length, at a floor whose record runs, in
RUN and in LISTEN; and the first two at a record in the middle of a cycle, whose own MARK waits. -/
theorem witness_MarkIsFollowed :
    let s := floor17.setGeneral.finish floor17
    let admitted (a : Nat) (m : MarkRecord) : Prop := s.receives (m.frame a).heard (m.frame a) 0 ∧ s.admits (m.frame a)
      ∧ takeMark a m.payload = some m
    s.station.role = some .floor ∧ s.station.lifecycle = .run ∧ s.cadence.evac.run = .running
    ∧ (s.image.cadence .evacuate).cycle = 400 ∧ admitted 16 ⟨.evacuate, 200, 400⟩ ∧ admitted 18 ⟨.evacuate, 1, 400⟩
    ∧ admitted 16 ⟨.evacuate, 1, 2⟩
    ∧ (let hears : State := { s with station := { s.station with lifecycle := .listen } }
       let m := MarkRecord.frame 18 ⟨.evacuate, 1, 400⟩
       hears.receives m.heard m 0 ∧ hears.admits m ∧ hears.cadence.evac.run = .running)
    ∧ (let leads : State := { s with
         slots := { s.slots with mark := some ⟨.evacuate, 400, 0, .pending, false⟩ },
         cadence := { s.cadence with evac := { s.cadence.evac with pos := some 30, cycleStart := s.time.tick - 30 } } }
       let m := MarkRecord.frame 16 ⟨.evacuate, 40, 400⟩
       leads.receives m.heard m 0 ∧ leads.admits m ∧ leads.cadence.evac.run = .running ∧ leads.cadence.evac.pos = some 30
       ∧ (leads.does (.mark m.heard)).cadence.evac.pending = some (-10)
       ∧ (leads.does (.mark m.heard)).slots.mark.any (fun e => e.overtaken) = true) := by decide +kernel

/-! ## Transmission -/

theorem witness_CandidateOrder :
    let e (c : FrameClass) (x : Standing) : StatusEntry := ⟨c, 3, x⟩
    let c (x : Standing) : CommandEntry := ⟨true, .general, 7, 63, 0, x⟩
    let m (x : Standing) : MarkEntry := ⟨.alert, 200, 0, x, false⟩
    (e .alarm .pending).standing = .pending ∧ (e .alarm .pending).cls = .alarm
    ∧ (⟨some (e .status .pending), [c .pending], some (m .pending), none⟩ : Slots).candidate.isSome = true
    ∧ (⟨some (e .status .pending), [c .inFlight], some (m .pending), none⟩ : Slots).candidate.isSome = true
    ∧ (⟨some (e .status .pending), [], some (m .inFlight), none⟩ : Slots).candidate.isSome = true
    ∧ (⟨some (e .status .inFlight), [], none, none⟩ : Slots).candidate = none := by decide +kernel

/-- A STATUS, a COMMAND and a MARK waiting, and how much quiet each still needs. -/
theorem witness_FrameStartsWhenTheWaitIsMet :
    let status : State := { floor17 with slots := { floor17.slots with status := some ⟨.alarm, 1, .pending⟩ } }
    let command : State := { console57 with slots := ⟨none, [⟨true, .general, 7, 63, 0, .pending⟩], none, none⟩ }
    let leads (n : Word16) : Cadence :=
      { floor17.cadence.evac with run := .running, pos := some 0, cycleStart := floor17.time.tick - n }
    let mark (n : Word16) : State :=
      { floor17 with slots := ⟨none, [], some ⟨.evacuate, 400, 0, .pending, n == 7⟩, none⟩,
                     cadence := { floor17.cadence with evac := leads n } }
    let ready (s : State) (k : SlotId) : Prop := s.station.lifecycle = .run ∧ s.tx = .idle ∧ s.rx.phase = .hunting
      ∧ s.rx.recessiveRun = 0 ∧ s.slots.candidate.map (fun c => c.slot) = some k
    ready status .status ∧ ready command .command ∧ ready (mark 200) .mark ∧ ready (mark 201) .mark
    ∧ (status.slots.candidate.map (fun c => (c.cls, c.collisions))) = some (.alarm, 1)
    ∧ status.station.address = 17 := by decide +kernel

/-- Lawful stations of each role with a STATUS waiting, the floor with an active fault. -/
def reporting (s : State) : State :=
  { s with slots := { s.slots with status := some ⟨.status, 0, .pending⟩ } }.raise .zoneOpen 3

theorem witness_reporting_lawful :
    (reporting floor17).lawful ∧ (reporting lift48).lawful ∧ (reporting console57).lawful
    ∧ (reporting floor17).slots.candidate.map (fun c => c.slot) = some .status
    ∧ (reporting floor17).faults.records.any (fun x => x.active) = true := by
  refine ⟨?_, ?_, ?_, ?_⟩
  iterate 3 · apply State.lawful_of_blocks <;> decide +kernel
  decide +kernel

theorem witness_FlightsThatEndUnsentReturn :
    let quiet (s : State) : State := { s with rx := { s.rx with recessiveRun := 16 } }
    let ready (s : State) (k : SlotId) : Prop := s.acts = true ∧ s.tx.slot = some k ∧ s.rx.phase = .hunting
      ∧ s.rx.recessiveRun = 16
    ready (quiet (floor17.sends .status)) .status ∧ ready (quiet (console57.sends .command)) .command
    ∧ ready (quiet (floor17.sends .mark)) .mark ∧ floor17.tx.slot = none
    ∧ (floor17.sends .status).slots.status.isSome = true ∧ (console57.sends .command).slots.fifo.length = 1
    ∧ (floor17.sends .mark).slots.mark.isSome = true ∧ floor17.tx ≠ .jamming
    ∧ ({ floor17 with tx := .jamming } : State).acts = true := by decide +kernel

/-- Frames in flight at collision counts 0, 14 and 15, and bits 2 and the last. -/
theorem witness_CollisionReturnsOrDrops :
    let worn (n : Nat) (s : State) : State := { s with slots :=
      { s.slots with status := s.slots.status.map (fun e => { e with collisions := n }),
                     fifo := s.slots.fifo.map (fun e => { e with collisions := n }),
                     mark := s.slots.mark.map (fun e => { e with collisions := n }) } }
    let sending (s : State) (k : SlotId) (n : Nat) : Prop := s.acts = true ∧ s.tx.slot = some k
      ∧ s.slots.collisionsOf k = n ∧ 2 < s.tx.bits.length
    sending (worn 14 (floor17.sends .status)) .status 14 ∧ sending (worn 15 (floor17.sends .status)) .status 15
    ∧ sending (worn 14 (console57.sends .command)) .command 14 ∧ sending (worn 15 (console57.sends .command)) .command 15
    ∧ sending (worn 14 (floor17.sends .mark)) .mark 14 ∧ sending (worn 15 (floor17.sends .mark)) .mark 15
    ∧ (console57.sends .command).faults.finds .frameDropped 4 = true
    ∧ floor17.tx = .idle := by decide +kernel

/-- A STATUS, a COMMAND and a MARK in flight; a stair and a car with a latch that the snapshot has. -/
theorem witness_CompletionFreesTheSlot :
    let floor := (floor17.withStair 0 (fun x => { x with latch := true })).sends .status
    let bank := (lift48.withCar 0 (fun c => { c with latch := true })).sends .status
    (floor17.sends .status).acts = true ∧ (floor17.sends .status).tx.slot = some .status
    ∧ (floor17.sends .status).builder.snapshot.isSome = true ∧ (console57.sends .command).tx.slot = some .command
    ∧ (console57.sends .command).slots.fifo.head?.isSome = true ∧ (floor17.sends .mark).tx.slot = some .mark
    ∧ floor17.tx.slot = none ∧ floor.acts = true ∧ floor.tx.slot = some .status ∧ floor.settled
    ∧ floor.builder.snapshot.any (fun k => (k.stairs.at 0 Kept.none).latch) = true
    ∧ bank.acts = true ∧ bank.tx.slot = some .status ∧ bank.compromised = false
    ∧ bank.builder.snapshot.any (fun k => (k.cars.at 0 Kept.none).latch) = true := by decide +kernel

/-- A console's own commands in flight, with the link alive and not, and a HOLD and a TAKE of an older generation. -/
theorem witness_OwnCommandsAct :
    let own (c : Command) (keep : Timer) : State :=
      let s := console57.sends .command
      { s with slots := { s.slots with fifo := [⟨true, c, 7, 63, 0, .inFlight⟩] }, link := { s.link with keep := keep } }
    let ready (s : State) : Prop := s.acts = true ∧ s.tx.slot = some .command ∧ s.station.role = some .console
      ∧ s.meetsOlder 7 = false ∧ s.regimeLaw
    ready (own .general none) ∧ ready (own (.hold 1) none) ∧ ready (own (.resume 2) none) ∧ ready (own (.silence 1) none)
    ∧ ready (own (.resound 2) none) ∧ ready (own .allClear none) ∧ ready (own (.take 1 9) (some 500))
    ∧ ready (own (.take 1 9) none) ∧ ready (own (.give 1) (some 500))
    ∧ ((own (.hold 1) none).gen 8).meetsOlder 7 = true ∧ ((own (.hold 1) none).gen 8).regimeLaw
    ∧ ((own (.take 1 9) (some 500)).gen 8).meetsOlder 7 = true
    ∧ ((own (.take 1 9) (some 500)).gen 8).tx.slot = some .command := by decide +kernel

/-- Timers run out and not, of the status builder and of every lamp. -/
theorem witness_BuilderAndLampTimersAct :
    let lit : State := { floor17 with lamps := ⟨true, some 0, true, some 0, true, some 0, some 0⟩ }
    let timed (h x : Timer) : State := { floor17 with
      slots := Slots.empty, builder := { floor17.builder with heartbeat := h, spacing := x, heartbeatOwed := true } }
    (timed (some 0) none).station.lifecycle = .run ∧ (timed (some 0) none).builder.heartbeat = some 0
    ∧ (timed (some 0) none).slots.status = none ∧ (timed (some 0) none).builder.spacing = none
    ∧ (timed none (some 0)).acts = true ∧ (timed none (some 0)).builder.spacing = some 0
    ∧ ((timed none (some 0)).does .spacingTimerOpen).reportOwed = true
    ∧ (timed none none).builder.heartbeat ≠ some 0
    ∧ lit.lamps.runFlash = some 0 ∧ lit.lamps.alarmFlash = some 0 ∧ lit.lamps.haltFlash = some 0 ∧ lit.lamps.line = some 0
    ∧ floor17.lamps.runFlash ≠ some 0 ∧ floor17.lamps.alarmFlash ≠ some 0 ∧ floor17.lamps.haltFlash ≠ some 0
    ∧ floor17.lamps.line ≠ some 0 := by decide +kernel

end Sys2Proof.Machine
end

section
/-! ## The law of the fault list under its operations (R171 to R173) -/

namespace Sys2Proof.Machine

/-- The key that no two records of the list share. -/
def FaultRecord.key (r : FaultRecord) : FaultKind × Nat := (r.kind, r.subject)

/-- A fault that is made inactive in the event that raises it (R173). -/
def FaultKind.clearsAtOnce (k : FaultKind) : Prop := k = .foreignCommand ∨ k = .originOverflow

/-- The law of the list without its clause on the faults that clear at once. -/
def FaultList.sound (l : FaultList) : Prop :=
  l.records.length ≤ 16 ∧ (l.records.map FaultRecord.key).Nodup ∧ (∀ r ∈ l.records, 1 ≤ r.count ∧ r.count ≤ 255)
  ∧ l.overflow ≤ 255

theorem FaultList.lawful_iff (l : FaultList) :
    l.lawful ↔ l.sound ∧ ∀ r ∈ l.records, r.kind.clearsAtOnce → r.active = false :=
  ⟨fun ⟨hlen, hkeys, hcount, hactive, hover⟩ => ⟨⟨hlen, hkeys, hcount, hover⟩, hactive⟩,
    fun ⟨⟨hlen, hkeys, hcount, hover⟩, hactive⟩ => ⟨hlen, hkeys, hcount, hactive, hover⟩⟩

theorem dropOldestInactive_sublist (l : List FaultRecord) : (dropOldestInactive l).Sublist l := by
  induction l with
  | nil => exact .slnil
  | cons r rs ih =>
    unfold dropOldestInactive
    split
    · exact ih.cons_cons r
    · exact List.sublist_cons_self r rs

theorem length_dropOldestInactive {l : List FaultRecord} (h : l.any (fun r => !r.active) = true) :
    (dropOldestInactive l).length + 1 = l.length := by
  induction l with
  | nil => simp at h
  | cons r rs ih =>
    unfold dropOldestInactive
    split
    · rename_i hr
      have hrs : rs.any (fun x => !x.active) = true := by simpa [hr] using h
      simp [← ih hrs]
    · rfl

/-- What a change of one record's count and flags keeps: every key, and the range of the counts. -/
theorem FaultList.sound_map {l : FaultList} (f : FaultRecord → FaultRecord) (hkey : ∀ r, (f r).key = r.key)
    (hcount : ∀ r, 1 ≤ r.count → r.count ≤ 255 → 1 ≤ (f r).count ∧ (f r).count ≤ 255) (h : l.sound) :
    FaultList.sound { l with records := l.records.map f } := by
  obtain ⟨hlen, hkeys, hcounts, hover⟩ := h
  refine ⟨by simpa using hlen, ?_, ?_, hover⟩
  · have : (l.records.map f).map FaultRecord.key = l.records.map FaultRecord.key := by
      simp [Function.comp_def, hkey]
    simpa only [this] using hkeys
  · intro r hr
    obtain ⟨x, hx, rfl⟩ := List.mem_map.1 hr
    exact hcount x (hcounts x hx).1 (hcounts x hx).2

/-- A fresh record at the end of records that do not hold its key. -/
theorem FaultList.sound_append {l : FaultList} {rs : List FaultRecord} (r : FaultRecord) (hsub : rs.Sublist l.records)
    (hlen : rs.length < 16) (hnew : l.records.any (FaultRecord.is r.kind r.subject) = false) (hr : r.count = 1)
    (h : l.sound) : FaultList.sound { l with records := rs ++ [r] } := by
  obtain ⟨-, hkeys, hcounts, hover⟩ := h
  refine ⟨by simpa using hlen, ?_, ?_, hover⟩
  · rw [List.map_append, List.nodup_append]
    refine ⟨(hsub.map _).nodup hkeys, by simp, ?_⟩
    intro a ha b hb hab
    obtain ⟨x, hx, rfl⟩ := List.mem_map.1 ha
    obtain rfl : b = r.key := by simpa using hb
    refine List.any_eq_false.1 hnew x (hsub.subset hx) ((FaultRecord.is_iff _ _ _).2 ?_)
    simpa [FaultRecord.key] using hab
  · intro x hx
    rcases List.mem_append.1 hx with hx | hx
    · exact hcounts x (hsub.subset hx)
    · obtain rfl : x = r := by simpa using hx
      simp [hr]

theorem FaultList.sound_raise (k : FaultKind) (n : Nat) (now : Word16) {l : FaultList} (h : l.sound) :
    (l.raise k n now).sound := by
  unfold FaultList.raise
  dsimp only
  split
  · refine FaultList.sound_map _ (fun r => ?_) (fun r h1 h2 => ?_) h
    · split <;> rfl
    · split
      · exact ⟨by simp, Nat.min_le_left _ _⟩
      · exact ⟨h1, h2⟩
  · rename_i hnew
    have hnew := Bool.eq_false_iff.2 hnew
    split
    · rename_i hlen
      exact FaultList.sound_append _ (List.Sublist.refl _) hlen hnew rfl h
    · split
      · rename_i hinactive
        have hlen := length_dropOldestInactive hinactive
        have h16 := h.1
        exact FaultList.sound_append _ (dropOldestInactive_sublist _) (by omega) hnew rfl h
      · obtain ⟨hlen, hkeys, hcounts, -⟩ := h
        exact ⟨hlen, hkeys, hcounts, Nat.min_le_left _ _⟩

theorem FaultList.sound_clear (k : FaultKind) (n : Nat) {l : FaultList} (h : l.sound) : (l.clear k n).sound :=
  FaultList.sound_map _ (fun r => by split <;> rfl) (fun r h1 h2 => by split <;> exact ⟨h1, h2⟩) h

theorem FaultList.sound_clearKind (k : FaultKind) {l : FaultList} (h : l.sound) : (l.clearKind k).sound :=
  FaultList.sound_map _ (fun r => by split <;> rfl) (fun r h1 h2 => by split <;> exact ⟨h1, h2⟩) h

/-- A raise makes no record active but that of its own kind and subject. -/
theorem FaultList.active_raise {k : FaultKind} {n : Nat} {now : Word16} {l : FaultList} {r : FaultRecord}
    (hr : r ∈ (l.raise k n now).records) : r ∈ l.records ∨ r.kind = k ∧ r.subject = n := by
  unfold FaultList.raise at hr
  dsimp only at hr
  split at hr
  · obtain ⟨x, hx, rfl⟩ := List.mem_map.1 hr
    split
    · rename_i hi; exact .inr ((FaultRecord.is_iff _ _ _).1 hi)
    · exact .inl hx
  · have fresh {rs : List FaultRecord} (hs : rs ⊆ l.records)
        (hr : r ∈ rs ++ [⟨k, n, true, 1, now⟩]) : r ∈ l.records ∨ r.kind = k ∧ r.subject = n := by
      rcases List.mem_append.1 hr with hr | hr
      · exact .inl (hs hr)
      · obtain rfl := List.mem_singleton.1 hr
        exact .inr ⟨rfl, rfl⟩
    split at hr
    · exact fresh (List.Subset.refl _) hr
    · split at hr
      · exact fresh (dropOldestInactive_sublist _).subset hr
      · exact .inl hr

theorem FaultList.active_clear {k : FaultKind} {n : Nat} {l : FaultList} {r : FaultRecord}
    (hr : r ∈ (l.clear k n).records) : r.active = false ∨ r ∈ l.records ∧ ¬ (r.kind = k ∧ r.subject = n) := by
  obtain ⟨x, hx, rfl⟩ := List.mem_map.1 hr
  split
  · exact .inl rfl
  · rename_i hi; exact .inr ⟨hx, fun h => hi ((FaultRecord.is_iff _ _ _).2 h)⟩

theorem FaultList.lawful_raise {k : FaultKind} (hk : ¬ k.clearsAtOnce) (n : Nat) (now : Word16) {l : FaultList}
    (h : l.lawful) : (l.raise k n now).lawful := by
  obtain ⟨hs, ha⟩ := (l.lawful_iff).1 h
  refine (FaultList.lawful_iff _).2 ⟨FaultList.sound_raise k n now hs, fun r hr hc => ?_⟩
  rcases FaultList.active_raise hr with hr | hr
  · exact ha r hr hc
  · exact absurd (hr.1 ▸ hc) hk

theorem FaultList.lawful_clear (k : FaultKind) (n : Nat) {l : FaultList} (h : l.lawful) : (l.clear k n).lawful := by
  obtain ⟨hs, ha⟩ := (l.lawful_iff).1 h
  refine (FaultList.lawful_iff _).2 ⟨FaultList.sound_clear k n hs, fun r hr hc => ?_⟩
  rcases FaultList.active_clear hr with hr | hr
  · exact hr
  · exact ha r hr.1 hc

theorem FaultList.lawful_clearKind (k : FaultKind) {l : FaultList} (h : l.lawful) : (l.clearKind k).lawful := by
  obtain ⟨hs, ha⟩ := (l.lawful_iff).1 h
  refine (FaultList.lawful_iff _).2 ⟨FaultList.sound_clearKind k hs, fun r hr hc => ?_⟩
  obtain ⟨x, hx, rfl⟩ := List.mem_map.1 hr
  split
  · rfl
  · rename_i hk; rw [if_neg hk] at hc; exact ha x hx hc

/-- A raise and its clearing in one event keep the law for every kind (R173). -/
theorem FaultList.lawful_raise_clear (k : FaultKind) (n : Nat) (now : Word16) {l : FaultList} (h : l.lawful) :
    ((l.raise k n now).clear k n).lawful := by
  obtain ⟨hs, ha⟩ := (l.lawful_iff).1 h
  refine (FaultList.lawful_iff _).2 ⟨FaultList.sound_clear k n (FaultList.sound_raise k n now hs), fun r hr hc => ?_⟩
  rcases FaultList.active_clear hr with hr | ⟨hr, hne⟩
  · exact hr
  · exact ha r ((FaultList.active_raise hr).resolve_right hne) hc

end Sys2Proof.Machine
end

section
/-! ## What every operation inside an event keeps: lifecycle, identity, counts, faults, slots and link -/

namespace Sys2Proof.Machine

/-- The laws of the slots and of the link, clause by clause. -/
structure State.InStep (s : State) : Prop where
  status : s.slots.statusFlies = (s.tx.slot == some .status)
  command : s.slots.commandFlies = (s.tx.slot == some .command)
  mark : s.slots.markFlies = (s.tx.slot == some .mark)
  queued : ∀ e ∈ s.slots.fifo.drop 1, e.standing = .pending
  behind : s.slots.successor.isSome = true → s.slots.markFlies = true
  waits : ∀ e ∈ s.slots.successor, e.standing = .pending
  markYields : ∀ e ∈ s.slots.mark, (s.cadence.record e.kind).follower = true → e.overtaken = true
  successorYields : ∀ e ∈ s.slots.successor, (s.cadence.record e.kind).follower = true → e.overtaken = true
  snapshot : s.builder.snapshot.isSome = (s.tx.slot == some .status)
  statusCount : ∀ e ∈ s.slots.status, e.collisions ≤ 15
  fifoCount : ∀ e ∈ s.slots.fifo, e.collisions ≤ 15
  markCount : ∀ e ∈ s.slots.mark, e.collisions ≤ 15
  successorCount : ∀ e ∈ s.slots.successor, e.collisions ≤ 15
  outside : s.station.lifecycle ≠ .run → s.slots = Slots.empty ∧ s.tx = .idle ∧ s.link.keeping = false
  issued : (s.slots.fifo.filter (fun e => e.issued)).length = (if s.link.result.outcome = .queued then 1 else 0)
  keeps : (s.slots.fifo.filter (fun e => !e.issued)).length ≤ 1
  epochs : ∀ e ∈ s.slots.fifo, e.command.epochFits = true
  untaken : s.link.taken = false → partialRequest s.link.buffer = true ∧ s.link.response = []
  unselected : s.link.selected = false → s.link.taken = false ∧ s.link.buffer = []
  period : s.link.period.isSome = s.link.keeping
  alive : s.link.keeping = true → s.link.alive = true
  linkRole : s.station.role ≠ some .console → s.link = Link.atReset ∧ s.slots.fifo = []

theorem State.inStep_iff (s : State) : s.InStep ↔ s.slotsLaw ∧ s.linkLaw := by
  constructor
  · intro h
    exact ⟨⟨h.status, h.command, h.mark, h.queued, h.behind, h.waits, h.markYields, h.successorYields, h.snapshot,
      h.statusCount, h.fifoCount, h.markCount, h.successorCount, h.outside⟩,
      ⟨h.issued, h.keeps, h.epochs, h.untaken, h.unselected, h.period, h.alive, h.linkRole⟩⟩
  · rintro ⟨⟨h1, h2, h3, h4, h5, h6, h7, h8, h9, h10, h11, h12, h13, h14⟩, h15, h16, h17, h18, h19, h20, h21, h22⟩
    exact ⟨h1, h2, h3, h4, h5, h6, h7, h8, h9, h10, h11, h12, h13, h14, h15, h16, h17, h18, h19, h20, h21, h22⟩

/-- A station whose transmitter is not idle is in RUN. -/
theorem State.InStep.run_of_tx {s : State} (h : s.InStep) (hx : s.tx ≠ .idle) : s.station.lifecycle = .run := by
  by_contra hl
  exact hx (h.outside hl).2.1

/-- The laws read slots, transmitter, snapshot, link, role, lifecycle and the followers' standing alone. -/
theorem State.InStep.congr {s t : State} (h : s.InStep) (hslots : t.slots = s.slots) (htx : t.tx = s.tx)
    (hsnapshot : t.builder.snapshot = s.builder.snapshot) (hlink : t.link = s.link)
    (hrole : t.station.role = s.station.role)
    (hfollower : ∀ k, (t.cadence.record k).follower = true → (s.cadence.record k).follower = true)
    (hlife : t.station.lifecycle ≠ .run → s.station.lifecycle ≠ .run) : t.InStep where
  status := by rw [hslots, htx]; exact h.status
  command := by rw [hslots, htx]; exact h.command
  mark := by rw [hslots, htx]; exact h.mark
  queued := by rw [hslots]; exact h.queued
  behind := by rw [hslots]; exact h.behind
  waits := by rw [hslots]; exact h.waits
  markYields := by rw [hslots]; exact fun e he hf => h.markYields e he (hfollower _ hf)
  successorYields := by rw [hslots]; exact fun e he hf => h.successorYields e he (hfollower _ hf)
  snapshot := by rw [hsnapshot, htx]; exact h.snapshot
  statusCount := by rw [hslots]; exact h.statusCount
  fifoCount := by rw [hslots]; exact h.fifoCount
  markCount := by rw [hslots]; exact h.markCount
  successorCount := by rw [hslots]; exact h.successorCount
  outside := by rw [hslots, htx, hlink]; exact fun hr => h.outside (hlife hr)
  issued := by rw [hslots, hlink]; exact h.issued
  keeps := by rw [hslots]; exact h.keeps
  epochs := by rw [hslots]; exact h.epochs
  untaken := by rw [hlink]; exact h.untaken
  unselected := by rw [hlink]; exact h.unselected
  period := by rw [hlink]; exact h.period
  alive := by rw [hlink]; exact h.alive
  linkRole := by rw [hslots, hlink, hrole]; exact h.linkRole

/-- The lifecycle moves from LISTEN to RUN or not at all, address, role, load status, digest and image stand, and the
laws of the line and of the fault list are carried over. -/
structure Carries (s t : State) : Prop where
  lifecycle : t.station.lifecycle = s.station.lifecycle
    ∨ s.station.lifecycle = .listen ∧ t.station.lifecycle = .run
  identity : Part.identity.same s t
  image : t.image = s.image
  line : s.lineLaw → t.lineLaw
  faults : s.faults.lawful → t.faults.lawful

/-- The same, with the laws of the slots and of the link. -/
structure Evolves (s t : State) : Prop extends Carries s t where
  inStep : s.InStep → t.InStep

theorem Carries.refl (s : State) : Carries s s := ⟨.inl rfl, ⟨rfl, rfl, rfl, rfl⟩, rfl, id, id⟩

theorem Carries.trans {s t u : State} (h : Carries s t) (k : Carries t u) : Carries s u where
  lifecycle := by
    rcases k.lifecycle with hk | ⟨hk, hk'⟩
    · rw [hk]; exact h.lifecycle
    · rcases h.lifecycle with hh | ⟨-, hh'⟩
      · exact .inr ⟨hh ▸ hk, hk'⟩
      · rw [hh'] at hk; cases hk
  identity := h.identity.trans k.identity
  image := k.image.trans h.image
  line := k.line ∘ h.line
  faults := k.faults ∘ h.faults

theorem Carries.ite {c : Prop} [Decidable c] {s t u : State} (ht : Carries s t) (hu : Carries s u) :
    Carries s (if c then t else u) := by split <;> assumption

theorem Carries.address {s t : State} (h : Carries s t) : t.station.address = s.station.address := h.identity.1
theorem Carries.role {s t : State} (h : Carries s t) : t.station.role = s.station.role := h.identity.2.1
theorem Carries.digest {s t : State} (h : Carries s t) : t.station.digest = s.station.digest := h.identity.2.2.2

theorem Carries.acts {s t : State} (h : Carries s t) : t.acts = s.acts := by
  rcases h.lifecycle with h | ⟨h, h'⟩
  · simp [State.acts, h]
  · simp [State.acts, h, h']

/-- What an event keeps of the station: an acting one stays lawful. -/
theorem Carries.stationLaw {s t : State} (h : Carries s t) (hs : s.stationLaw) : t.stationLaw := by
  obtain ⟨hacts, hload, hdigest⟩ := hs
  refine ⟨fun ha => ?_, fun hl => ?_, by rw [h.digest]; exact hdigest⟩
  · rw [h.role, h.address, h.image]
    exact hacts (h.acts ▸ ha)
  · rw [h.role, h.address]
    rcases h.lifecycle with h' | ⟨-, h'⟩
    · exact hload (h' ▸ hl)
    · rw [h'] at hl; cases hl

theorem Evolves.refl (s : State) : Evolves s s := ⟨.refl s, id⟩

theorem Evolves.trans {s t u : State} (h : Evolves s t) (k : Evolves t u) : Evolves s u :=
  ⟨h.toCarries.trans k.toCarries, k.inStep ∘ h.inStep⟩

theorem Evolves.ite {c : Prop} [Decidable c] {s t u : State} (ht : Evolves s t) (hu : Evolves s u) :
    Evolves s (if c then t else u) := by split <;> assumption

theorem Evolves.foldl {α : Type} (f : State → α → State) (h : ∀ t x, Evolves t (f t x)) (l : List α) (s : State) :
    Evolves s (l.foldl f s) := by
  induction l generalizing s with
  | nil => exact .refl s
  | cons x xs ih => exact (h s x).trans (ih (f s x))

/-- The parts that `Carries` says nothing of. -/
def Part.beside : List Part :=
  [.pins, .time, .listen, .holdOff, .heartbeat, .changeDue, .spacing, .reported, .zones, .peers, .duplicateAge,
    .generation, .general, .holdEpoch, .silenceEpoch, .origins, .phases, .stairs, .cars, .restoreRefused, .speaker,
    .authority, .runLamp, .alarmLamp, .haltLamp, .lineLamp, .tx, .statusSlot, .fifo, .markSlots, .snapshot, .cadence,
    .link]

/-- The parts that none of these laws speaks of. -/
def Part.silent : List Part :=
  [.pins, .time, .listen, .holdOff, .heartbeat, .changeDue, .spacing, .reported, .zones, .peers, .duplicateAge,
    .generation, .general, .holdEpoch, .silenceEpoch, .origins, .phases, .stairs, .cars, .restoreRefused, .speaker,
    .authority, .runLamp, .alarmLamp, .haltLamp, .lineLamp]

theorem Touches.carries {ps : List Part} {s t : State} (h : Touches ps s t) (hps : ps ⊆ Part.beside) : Carries s t := by
  have h := h.mono hps
  refine ⟨.inl (h.lifecycle_eq (by decide)), h.2 _ (by decide), h.image_eq (by decide), ?_, ?_⟩
  · unfold State.lineLaw
    rw [h.rx_eq (by decide), h.line_eq (by decide)]
    exact id
  · rw [h.faults_eq (by decide)]
    exact id

theorem Touches.slots_eq {ps : List Part} {s t : State} (h : Touches ps s t) (hs : .statusSlot ∉ ps) (hf : .fifo ∉ ps)
    (hm : .markSlots ∉ ps) : t.slots = s.slots := by
  have h1 := h.statusSlot_eq hs
  have h2 := h.fifo_eq hf
  have h3 := h.mark_eq hm
  have h4 := h.successor_eq hm
  cases ht : t.slots
  cases hq : s.slots
  simp_all

theorem Touches.inStep {ps : List Part} {s t : State} (h : Touches ps s t) (hps : ps ⊆ .faults :: .line :: .rx :: Part.silent)
    (hs : s.InStep) : t.InStep := by
  have h := h.mono hps
  have hcadence := h.cadence_eq (by decide)
  have hlife := h.lifecycle_eq (by decide)
  exact hs.congr (h.slots_eq (by decide) (by decide) (by decide)) (h.tx_eq (by decide)) (h.snapshot_eq (by decide))
    (h.link_eq (by decide)) (h.role_eq (by decide)) (fun k => by rw [hcadence]; exact id) (by rw [hlife]; exact id)

theorem Touches.evolves {ps : List Part} {s t : State} (h : Touches ps s t) (hps : ps ⊆ Part.silent) : Evolves s t :=
  ⟨h.carries (fun _ hp => List.mem_append_left [Part.tx, .statusSlot, .fifo, .markSlots, .snapshot, .cadence, .link]
    (hps hp)), h.inStep (fun _ hp => List.mem_append_right [Part.faults, .line, .rx] (hps hp))⟩

/-- A change of slots, transmitter, snapshot, cadences or link evolves as far as it keeps their laws. -/
theorem Touches.evolves_of {ps : List Part} {s t : State} (h : Touches ps s t) (hps : ps ⊆ Part.beside)
    (hs : s.InStep → t.InStep) : Evolves s t := ⟨h.carries hps, hs⟩

/-- A change of the fault list alone. -/
theorem Touches.evolves_faults {s t : State} (h : Touches [.faults] s t) (hf : s.faults.lawful → t.faults.lawful) :
    Evolves s t :=
  ⟨⟨.inl (h.lifecycle_eq (by decide)), h.2 _ (by decide), h.image_eq (by decide), by
    unfold State.lineLaw
    rw [h.rx_eq (by decide), h.line_eq (by decide)]
    exact id, hf⟩, h.inStep (by decide)⟩

/-- A change of the line counters alone. -/
theorem Touches.evolves_line {s t : State} (h : Touches [.line] s t) (hl : s.lineLaw → t.lineLaw) : Evolves s t :=
  ⟨⟨.inl (h.lifecycle_eq (by decide)), h.2 _ (by decide), h.image_eq (by decide), hl, by
    rw [h.faults_eq (by decide)]
    exact id⟩, h.inStep (by decide)⟩

/-! ### Faults and line counters -/

theorem evolves_raise {k : FaultKind} (hk : ¬ k.clearsAtOnce) (n : Nat) (s : State) : Evolves s (s.raise k n) :=
  (touches_raise k n s).evolves_faults (FaultList.lawful_raise hk n _)

theorem evolves_clearFault (k : FaultKind) (n : Nat) (s : State) : Evolves s (s.clearFault k n) :=
  (touches_clearFault k n s).evolves_faults (FaultList.lawful_clear k n)

theorem evolves_clearFaults (k : FaultKind) (s : State) : Evolves s (s.clearFaults k) :=
  (touches_clearFaults k s).evolves_faults (FaultList.lawful_clearKind k)

theorem evolves_raiseAtOnce (k : FaultKind) (n : Nat) (s : State) : Evolves s (s.raiseAtOnce k n) :=
  (touches_raiseAtOnce k n s).evolves_faults (FaultList.lawful_raise_clear k n _)

/-- The counters of the line law. -/
def LineCounters.bounded (l : LineCounters) : Prop :=
  l.accepted ≤ 65535 ∧ l.crcError ≤ 65535 ∧ l.stuffError ≤ 65535 ∧ l.jamSeen ≤ 65535 ∧ l.badLength ≤ 65535
  ∧ l.unknownKind ≤ 65535 ∧ l.sent ≤ 65535 ∧ l.collisions ≤ 65535 ∧ l.dropped ≤ 65535 ∧ l.windowCount ≤ 255

/-- The receiver's part of the line law. -/
def Receiver.bounded (r : Receiver) : Prop :=
  r.recessiveRun ≤ 255 ∧ r.checked ≤ 4 ∧ r.equal ≤ 6 ∧ r.bits.length ≤ 7

theorem State.lineLaw_iff (s : State) : s.lineLaw ↔ s.rx.bounded ∧ s.line.bounded := by
  simp only [State.lineLaw, Receiver.bounded, LineCounters.bounded, and_assoc]

theorem bump16_le (n : Nat) : bump16 n ≤ 65535 := Nat.min_le_left _ _

theorem evolves_line {l : LineCounters} {s : State} (hl : s.line.bounded → l.bounded) :
    Evolves s { s with line := l } :=
  (touches_line l s).evolves_line fun h => (State.lineLaw_iff _).2
    ⟨((State.lineLaw_iff s).1 h).1, hl ((State.lineLaw_iff s).1 h).2⟩

theorem evolves_badFrame (s : State) : Evolves s s.badFrame := by
  have h (d : Bool) : Evolves s { s with line := { s.line with
      windowCount := min 255 (s.line.windowCount + 1), degraded := d } } :=
    evolves_line fun ⟨h1, h2, h3, h4, h5, h6, h7, h8, h9, _⟩ =>
      ⟨h1, h2, h3, h4, h5, h6, h7, h8, h9, Nat.min_le_left _ _⟩
  exact .ite ((h _).trans (evolves_raise (by simp [FaultKind.clearsAtOnce]) _ _)) (h _)

theorem evolves_countUnknownKind (s : State) : Evolves s s.countUnknownKind :=
  (evolves_line fun ⟨h1, h2, h3, h4, h5, _, h7⟩ => ⟨h1, h2, h3, h4, h5, bump16_le _, h7⟩).trans (evolves_badFrame _)

theorem evolves_setAside (s : State) : Evolves s s.setAside := evolves_countUnknownKind s

theorem evolves_countStuffError (s : State) : Evolves s s.countStuffError :=
  (evolves_line fun ⟨h1, h2, _, h4⟩ => ⟨h1, h2, bump16_le _, h4⟩).trans (evolves_badFrame _)

theorem evolves_countCrcError (s : State) : Evolves s s.countCrcError :=
  (evolves_line fun ⟨h1, _, h3⟩ => ⟨h1, bump16_le _, h3⟩).trans (evolves_badFrame _)

theorem evolves_countBadLength (s : State) : Evolves s s.countBadLength :=
  (evolves_line fun ⟨h1, h2, h3, h4, _, h6⟩ => ⟨h1, h2, h3, h4, bump16_le _, h6⟩).trans (evolves_badFrame _)

theorem evolves_countJamSeen (s : State) : Evolves s s.countJamSeen :=
  evolves_line fun ⟨h1, h2, h3, _, h5⟩ => ⟨h1, h2, h3, bump16_le _, h5⟩

theorem touches_lineLamp (t : Timer) (s : State) : Touches [.lineLamp] s { s with lamps := { s.lamps with line := t } } := by
  refine .of rfl fun p => ?_
  cases p <;> first | exact .inl (by decide) | exact .inr rfl | exact .inr ⟨rfl, rfl⟩ | exact .inr ⟨rfl, rfl, rfl⟩ |
    exact .inr ⟨rfl, rfl, rfl, rfl⟩

theorem evolves_countAccepted (s : State) : Evolves s s.countAccepted :=
  (evolves_line (l := { s.line with accepted := bump16 s.line.accepted }) fun ⟨_, h2⟩ => ⟨bump16_le _, h2⟩).trans
    ((touches_lineLamp (Timer.start 5) _).evolves (by decide))

end Sys2Proof.Machine
end

section
/-! ## The shared operations and the reactions evolve -/

namespace Sys2Proof.Machine

/-- An entry to RUN from LISTEN. -/
theorem evolves_runEntry {s : State} (h : s.station.lifecycle = .listen) : Evolves s s.runEntry := by
  have hp := touches_runEntry s
  refine ⟨⟨.inr ⟨h, rfl⟩, hp.2 _ (by decide), hp.image_eq (by decide), id, id⟩, fun hs => ?_⟩
  exact hs.congr rfl rfl rfl rfl rfl (fun _ => id) (fun hl => absurd rfl hl)

/-! ### The regime -/

theorem evolves_recompute (s : State) : Evolves s s.recompute := (touches_recompute s).evolves (by decide)
theorem evolves_setGeneral (s : State) : Evolves s s.setGeneral := (touches_setGeneral s).evolves (by decide)
theorem evolves_adoptHold (e : Nat) (s : State) : Evolves s (s.adoptHold e) := (touches_adoptHold e s).evolves (by decide)
theorem evolves_adoptSilence (e : Nat) (s : State) : Evolves s (s.adoptSilence e) :=
  (touches_adoptSilence e s).evolves (by decide)
theorem evolves_firstAdoption (g : Byte) (s : State) : Evolves s (s.firstAdoption g) :=
  (touches_firstAdoption g s).evolves (by decide)

theorem touches_regimeView (r : Regime) (s : State) :
    Touches [.generation, .general, .holdEpoch, .silenceEpoch, .origins, .phases] s { s with regime := r } := by
  refine .of rfl fun p => ?_
  cases p <;> first | exact .inl (by decide) | exact .inr rfl | exact .inr ⟨rfl, rfl⟩ | exact .inr ⟨rfl, rfl, rfl⟩ |
    exact .inr ⟨rfl, rfl, rfl, rfl⟩

theorem evolves_regime (r : Regime) (s : State) : Evolves s { s with regime := r } :=
  (touches_regimeView r s).evolves (by decide)

theorem evolves_refuseOrigin (f : Nat) (s : State) : Evolves s (s.refuseOrigin f) := by
  refine Evolves.trans ?_ (evolves_setGeneral _)
  exact .ite (.refl s) ((evolves_regime _ s).trans (evolves_raiseAtOnce _ _ _))

theorem evolves_addOrigin (f e : Nat) (s : State) : Evolves s (s.addOrigin f e) :=
  .ite (.refl s) (.ite (evolves_regime _ s) (evolves_refuseOrigin f s))

theorem evolves_latchOrigin (f : Nat) (s : State) : Evolves s (s.latchOrigin f) :=
  (evolves_addOrigin f 0 s).trans (evolves_recompute _)

theorem evolves_takeOrigin (s : State) (o : Nat × Nat) : Evolves s (s.takeOrigin o) :=
  .ite (evolves_regime _ s) (evolves_addOrigin _ _ s)

theorem evolves_intake (r : StatusRecord) (s : State) : Evolves s (s.intake r) := by
  refine Evolves.trans ?_ (evolves_recompute _)
  refine Evolves.trans ?_ (Evolves.foldl _ evolves_takeOrigin _ _)
  refine Evolves.trans ?_ ((evolves_adoptHold _ _).trans (evolves_adoptSilence _ _))
  exact .ite (evolves_setGeneral s) (.refl s)

/-! ### Zones -/

theorem evolves_changeZone (z e : Nat) (f : Zone → Zone) (s : State) : Evolves s (s.changeZone z e f) :=
  (touches_changeZone z e f s).evolves (by decide)

theorem evolves_clearZoneFaults (z : Nat) (s : State) : Evolves s (s.clearZoneFaults z) :=
  (evolves_clearFault _ _ s).trans (evolves_clearFault _ _ _)

theorem evolves_zoneFaults (z : Nat) (c : LoopClass) (s : State) : Evolves s (s.zoneFaults z c) := by
  cases c with
  | opened => exact (evolves_clearFault _ _ s).trans (evolves_raise (by simp [FaultKind.clearsAtOnce]) _ _)
  | short => exact (evolves_clearFault _ _ s).trans (evolves_raise (by simp [FaultKind.clearsAtOnce]) _ _)
  | alarm => exact evolves_clearZoneFaults z s
  | normal => exact evolves_clearZoneFaults z s

/-- Peer entries are no concern of these laws. -/
theorem evolves_peers {q : Peers} (s : State) (h : q.duplicateAge = s.peers.duplicateAge) :
    Evolves s { s with peers := q } := (touches_peers s h).evolves (by decide)

theorem evolves_alarmEntered (z : Nat) (s : State) : Evolves s (s.alarmEntered z) := by
  have hlatches (f : FloorEntry → FloorEntry) :
      Evolves s { s with peers := s.peers.updFloor s.station.address f } := evolves_peers s rfl
  have horigin (c : Prop) [Decidable c] (t : State) :
      Evolves t (if c then t.latchOrigin s.station.address else t) := .ite (evolves_latchOrigin _ t) (.refl t)
  have hrun (t : State) : Evolves t (if t.station.lifecycle == .listen then t.runEntry else t) := by
    split
    · rename_i hl; exact evolves_runEntry (by simpa using hl)
    · exact .refl t
  exact ((hlatches _).trans (horigin _ _)).trans (hrun _)

theorem evolves_acceptClass (z : Nat) (c : LoopClass) (s : State) : Evolves s (s.acceptClass z c) := by
  have h (e : Nat) (f : Zone → Zone) : Evolves s ((s.zoneFaults z c).changeZone z e f) :=
    (evolves_zoneFaults z c s).trans (evolves_changeZone z e f _)
  exact .ite ((h _ _).trans (evolves_alarmEntered z _)) (h _ _)

theorem evolves_disableZone (z : Nat) (s : State) : Evolves s (s.disableZone z) :=
  .ite ((evolves_clearZoneFaults z s).trans (evolves_changeZone _ _ _ _)) (.refl s)

theorem evolves_enableZone (z : Nat) (s : State) : Evolves s (s.enableZone z) :=
  .ite ((evolves_clearZoneFaults z s).trans (evolves_changeZone _ _ _ _)) (.refl s)

theorem evolves_zonesAllClear (s : State) : Evolves s s.zonesAllClear :=
  .ite (.foldl _ (fun t z => .ite ((evolves_clearZoneFaults z t).trans (evolves_changeZone _ _ _ _)) (.refl t)) _ s)
    (.refl s)

theorem evolves_activateZone (s : State) (z : Nat) : Evolves s (s.activateZone z) := by
  have h : Evolves s (s.updZone z (fun x => { x with stage := none })) := (touches_updZone z _ s).evolves (by decide)
  exact .ite (.ite (h.trans (evolves_acceptClass _ _ _)) h) (.refl s)

theorem evolves_zonesActivated (s : State) : Evolves s s.zonesActivated :=
  .ite (.foldl _ evolves_activateZone _ s) (.refl s)

/-! ### Stairs and cars -/

theorem evolves_stairs (x : Tab Stair 4) (s : State) : Evolves s { s with stairs := x } := by
  refine Touches.evolves (ps := [.stairs]) (.of rfl fun p => ?_) (by decide)
  cases p <;> first | exact .inl (by decide) | exact .inr rfl | exact .inr ⟨rfl, rfl⟩ | exact .inr ⟨rfl, rfl, rfl⟩ |
    exact .inr ⟨rfl, rfl, rfl, rfl⟩

theorem evolves_stairsReact (c b : Bool) (s : State) : Evolves s (s.stairsReact c b) := by
  refine .ite ?_ (.refl s)
  refine (evolves_stairs _ s).trans (Evolves.foldl _ (fun t i => ?_) _ _)
  exact .ite (evolves_clearFault _ _ t) (.refl t)

theorem evolves_doorChanged (i : Nat) (s : State) : Evolves s (s.doorChanged i) :=
  .ite ((evolves_stairs _ s).trans (evolves_clearFault _ _ _)) (.ite (evolves_stairs _ s) (.refl s))

theorem evolves_acceptStairInput (i : Nat) (k : StairInput) (s : State) : Evolves s (s.acceptStairInput i k) := by
  cases k with
  | door => exact (evolves_stairs _ s).trans (evolves_doorChanged i _)
  | feedback => exact evolves_stairs _ s
  | key => exact evolves_stairs _ s

theorem evolves_mismatchExpired (i : Nat) (s : State) : Evolves s (s.mismatchExpired i) :=
  (evolves_stairs _ s).trans (evolves_raise (by simp [FaultKind.clearsAtOnce]) _ _)

theorem evolves_heldOpenExpired (i : Nat) (s : State) : Evolves s (s.heldOpenExpired i) :=
  (evolves_stairs _ s).trans (evolves_raise (by simp [FaultKind.clearsAtOnce]) _ _)

theorem evolves_carFaults (c : Nat) (old new : Car) (s : State) : Evolves s (s.carFaults c old new) := by
  have raised (t : State) {k : FaultKind} (hk : ¬ k.clearsAtOnce) : Evolves t (t.raise k (c + 1)) := evolves_raise hk _ t
  have h (p q : Prop) [Decidable p] [Decidable q] : Evolves s (if p then s.raise .liftUnavailable (c + 1)
      else if q then s.clearFault .liftUnavailable (c + 1) else s) :=
    .ite (raised s (by simp [FaultKind.clearsAtOnce])) (.ite (evolves_clearFault _ _ s) (.refl s))
  exact .ite ((h _ _).trans (raised _ (by simp [FaultKind.clearsAtOnce])))
    (.ite ((h _ _).trans (evolves_clearFault _ _ _)) (h _ _))

theorem evolves_changeCar (c : Nat) (f : Car → Car) (s : State) : Evolves s (s.changeCar c f) :=
  .ite (((touches_updCar c f s).evolves (by decide)).trans (evolves_carFaults _ _ _ _)) (.refl s)

theorem evolves_liftsReact (b : Bool) (s : State) : Evolves s (s.liftsReact b) :=
  .ite (.foldl _ (fun t c => evolves_changeCar c _ t) _ s) (.refl s)

theorem evolves_restoreBank (s : State) : Evolves s s.restoreBank := by
  unfold State.restoreBank
  split
  · refine Touches.evolves (ps := [.restoreRefused]) (.of rfl fun p => ?_) (by decide)
    cases p <;> first | exact .inl (by decide) | exact .inr rfl | exact .inr ⟨rfl, rfl⟩ | exact .inr ⟨rfl, rfl, rfl⟩ |
      exact .inr ⟨rfl, rfl, rfl, rfl⟩
  · exact .foldl _ (fun t c => evolves_changeCar c _ t) _ s

/-! ### Speaker and authority -/

theorem evolves_speaker (p : Speaker) (s : State) : Evolves s { s with speaker := p } :=
  (touches_speaker p s).evolves (by decide)

theorem evolves_busyRead (s : State) : Evolves s s.busyRead := by
  unfold State.busyRead
  split
  · exact evolves_speaker _ s
  · exact evolves_speaker _ s
  · exact (evolves_speaker _ s).trans (evolves_clearFault _ _ _)
  · exact .refl s

theorem evolves_messageExpired (s : State) : Evolves s s.messageExpired :=
  (evolves_speaker _ s).trans (evolves_raise (by simp [FaultKind.clearsAtOnce]) _ _)

theorem evolves_authority (a : Authority) (s : State) : Evolves s { s with authority := a } := by
  refine Touches.evolves (ps := [.authority]) (.of rfl fun p => ?_) (by decide)
  cases p <;> first | exact .inl (by decide) | exact .inr rfl | exact .inr ⟨rfl, rfl⟩ | exact .inr ⟨rfl, rfl, rfl⟩ |
    exact .inr ⟨rfl, rfl, rfl, rfl⟩

theorem evolves_takeAuthority (c n : Nat) (s : State) : Evolves s (s.takeAuthority c n) :=
  .ite ((evolves_authority _ s).trans (evolves_clearFaults _ _)) (.refl s)

theorem evolves_lapseAuthority (s : State) : Evolves s s.lapseAuthority := by
  unfold State.lapseAuthority
  split
  · exact (evolves_authority _ s).trans (evolves_raise (by simp [FaultKind.clearsAtOnce]) _ _)
  · exact .refl s

theorem evolves_keepAuthority (c n : Nat) (s : State) : Evolves s (s.keepAuthority c n) :=
  .ite (.ite (evolves_authority _ s) (evolves_lapseAuthority s)) (.refl s)

/-! ### Cadences and MARKs -/

theorem CadenceUnit.record_setRecord (u : CadenceUnit) (k j : CadenceKind) (c : Cadence) :
    (u.setRecord k c).record j = if j = k then c else u.record j := by
  cases k <;> cases j <;> rfl

/-- A change of the cadences that makes no record a FOLLOWER. -/
theorem evolves_cadence {u : CadenceUnit} (s : State)
    (h : ∀ k, (u.record k).follower = true → (s.cadence.record k).follower = true) :
    Evolves s { s with cadence := u } :=
  (touches_cadence u s).evolves_of (by decide) fun hs => hs.congr rfl rfl rfl rfl rfl h id

/-- A change of one record that does not make it a FOLLOWER. -/
theorem evolves_setRecord {k : CadenceKind} {c : Cadence} (s : State)
    (h : c.follower = true → (s.cadence.record k).follower = true) :
    Evolves s { s with cadence := s.cadence.setRecord k c } :=
  evolves_cadence s fun j hj => by
    rw [CadenceUnit.record_setRecord] at hj
    split at hj
    · rename_i hjk; exact hjk ▸ h hj
    · exact hj

theorem Cadence.react_follower (b : Bool) (c : Cadence) : (c.react b).follower = c.follower := by
  unfold Cadence.react
  split
  · rfl
  · split <;> rfl

theorem Cadence.tick_follower (p : CadenceParams) (c : Cadence) : (c.tick p).follower = c.follower := by
  unfold Cadence.tick
  dsimp only
  split
  · rfl
  · split <;> rfl

theorem evolves_cadenceReact (s : State) : Evolves s s.cadenceReact := by
  refine .ite (evolves_cadence s fun k => ?_) (.refl s)
  cases k <;> simp only [CadenceUnit.record, Cadence.react_follower] <;> exact id

theorem evolves_tickCadence (s : State) : Evolves s s.tickCadence := by
  refine .ite (evolves_cadence s fun k => ?_) (.refl s)
  cases k <;> simp only [CadenceUnit.record, Cadence.tick_follower] <;> exact id

theorem evolves_pulseBegins (k : CadenceKind) (s : State) : Evolves s (s.pulseBegins k) :=
  evolves_cadence s fun j => by cases j <;> exact id

theorem Cadence.fix_follower (c : Cadence) : c.fix.follower = c.follower := by
  unfold Cadence.fix
  split <;> rfl

theorem evolves_pulseEnds (k : CadenceKind) (last : Bool) (s : State) : Evolves s (s.pulseEnds k last) := by
  refine evolves_cadence s fun j => ?_
  have hbell : ∀ j, (CadenceUnit.record (if s.cadence.bell = some k then
      { s.cadence with bell := none, bellLow := some 0 } else s.cadence) j) = s.cadence.record j := by
    intro j; split <;> cases j <;> rfl
  cases last with
  | false => simp [hbell]
  | true =>
    simp only [if_true, CadenceUnit.record_setRecord, hbell]
    split
    · rename_i hj; rw [hj, Cadence.fix_follower]; exact id
    · exact id

theorem evolves_pulseBoundary (k : CadenceKind) (s : State) : Evolves s (s.pulseBoundary k) := by
  have h : Evolves s { s with cadence := s.cadence.setRecord k { s.cadence.record k with boundaryDue := false } } :=
    evolves_setRecord s id
  exact .ite (h.trans (evolves_pulseBegins k _)) (h.trans (evolves_pulseEnds k _ _))

theorem evolves_standingLapsed (k : CadenceKind) (s : State) : Evolves s (s.standingLapsed k) :=
  evolves_setRecord s (fun h => by cases h)

/-- A MARK that a LEADER record in RUN queues stands behind the one in flight, or in its place (R28, R158). -/
theorem inStep_queueMark {k : CadenceKind} {s : State} (h : s.InStep) (hrun : s.station.lifecycle = .run)
    (hlead : (s.cadence.record k).follower = false) : (s.queueMark k).InStep := by
  have hout {p : Prop} (hl : s.station.lifecycle ≠ .run) : p := absurd hrun hl
  have hfresh : (s.cadence.record k).follower = true → false = true := fun hf => by rw [hlead] at hf; exact hf
  unfold State.queueMark
  dsimp only
  split
  · rename_i hm
    have hflies : s.slots.markFlies = true := by simp [Slots.markFlies, hm]
    exact { h with
      behind := fun _ => hflies
      waits := by rintro e ⟨⟩; rfl
      successorYields := by rintro e ⟨⟩; exact hfresh
      successorCount := by rintro e ⟨⟩; exact Nat.zero_le _
      outside := hout }
  · rename_i hm
    have hflies : s.slots.markFlies = false := by
      unfold Slots.markFlies
      cases hs : s.slots.mark with
      | none => rfl
      | some e =>
        obtain ⟨_, _, _, st, _⟩ := e
        cases st with
        | pending => rfl
        | inFlight => exact absurd hs (hm _ _ _ _)
    exact { h with
      mark := by rw [← h.mark, hflies]; rfl
      behind := fun hsucc => absurd (h.behind hsucc) (by simp [hflies])
      markYields := by rintro e ⟨⟩; exact hfresh
      markCount := by rintro e ⟨⟩; exact Nat.zero_le _
      outside := hout }

theorem evolves_toneCycle (k : CadenceKind) (s : State) : Evolves s (s.toneCycle k) :=
  (touches_toneCycle k s).evolves (by decide)

theorem evolves_cycleEnd (k : CadenceKind) (s : State) : Evolves s (s.cycleEnd k) := by
  unfold State.cycleEnd
  dsimp only
  split
  · exact .refl s
  · split
    · have h1 : Evolves s { s with cadence := s.cadence.setRecord k ((s.cadence.record k).startCycle s.time.tick) } :=
        evolves_setRecord s id
      generalize hu : ({ s with cadence := s.cadence.setRecord k ((s.cadence.record k).startCycle s.time.tick) } : State)
        = u at h1
      have h2 := (h1.trans (evolves_pulseBegins k u)).trans (evolves_toneCycle k _)
      have hrecord : (((u.pulseBegins k).toneCycle k).cadence.record k).follower = (s.cadence.record k).follower := by
        rw [(touches_toneCycle k _).cadence_eq (by decide)]
        have : (u.pulseBegins k).cadence.record k = u.cadence.record k := by cases k <;> rfl
        rw [this, ← hu]
        simp [CadenceUnit.record_setRecord, Cadence.startCycle]
      split
      · rename_i hc
        obtain ⟨hf, hl⟩ : (s.cadence.record k).follower = false ∧ s.station.lifecycle = .run := by simpa using hc
        have hlife : ((u.pulseBegins k).toneCycle k).station.lifecycle = .run := by
          rw [(touches_toneCycle k _).lifecycle_eq (by decide), (touches_pulseBegins k _).lifecycle_eq (by decide), ← hu]
          exact hl
        exact h2.trans ((touches_queueMark k _).evolves_of (by decide)
          fun hs => inStep_queueMark hs hlife (hrecord.trans hf))
      · exact h2
    · exact evolves_setRecord s id

/-- The MARKs of a record that has become FOLLOWER are to be abandoned (R158). -/
theorem inStep_overtake {k : CadenceKind} {c : Cadence} {s : State} (h : s.InStep) :
    State.InStep { s with cadence := s.cadence.setRecord k c, slots := s.slots.overtake k } := by
  have hflies : (s.slots.overtake k).markFlies = s.slots.markFlies := by
    unfold Slots.markFlies Slots.overtake
    cases s.slots.mark with
    | none => rfl
    | some e => simp only [Option.map_some, Option.any_some]; split <;> rfl
  have hkeeps {o : Option MarkEntry} {e : MarkEntry}
      (he : e ∈ o.map (fun m => if m.kind = k then { m with overtaken := true } else m)) :
      ∃ m ∈ o, e.kind = m.kind ∧ e.standing = m.standing ∧ e.collisions = m.collisions
        ∧ (m.overtaken = true ∨ e.kind = k → e.overtaken = true) := by
    obtain ⟨m, hm, rfl⟩ := Option.mem_map.1 he
    refine ⟨m, hm, ?_⟩
    split
    · exact ⟨rfl, rfl, rfl, fun _ => rfl⟩
    · rename_i hk; exact ⟨rfl, rfl, rfl, fun hor => hor.resolve_right hk⟩
  have hyields {o : Option MarkEntry} {e : MarkEntry}
      (ho : ∀ m ∈ o, (s.cadence.record m.kind).follower = true → m.overtaken = true)
      (he : e ∈ o.map (fun m => if m.kind = k then { m with overtaken := true } else m))
      (hf : ((s.cadence.setRecord k c).record e.kind).follower = true) : e.overtaken = true := by
    obtain ⟨m, hm, hkind, -, -, hover⟩ := hkeeps he
    rw [CadenceUnit.record_setRecord] at hf
    split at hf
    · rename_i hk; exact hover (.inr hk)
    · exact hover (.inl (ho m hm (hkind ▸ hf)))
  exact { h with
    mark := hflies.trans h.mark
    behind := fun hsucc => hflies.trans (h.behind (by simpa [Slots.overtake] using hsucc))
    waits := fun e he => by
      obtain ⟨m, hm, -, hstanding, -⟩ := hkeeps he
      exact hstanding.trans (h.waits m hm)
    markYields := fun e he => hyields h.markYields he
    successorYields := fun e he => hyields h.successorYields he
    markCount := fun e he => by
      obtain ⟨m, hm, -, -, hcount, -⟩ := hkeeps he
      exact hcount ▸ h.markCount m hm
    successorCount := fun e he => by
      obtain ⟨m, hm, -, -, hcount, -⟩ := hkeeps he
      exact hcount ▸ h.successorCount m hm
    outside := fun hl => by
      obtain ⟨hslots, htx, hkeep⟩ := h.outside hl
      exact ⟨by simp only [hslots]; rfl, htx, hkeep⟩ }

theorem Cadence.follow_follower (p : CadenceParams) (listen : Bool) (w : Word16) (since offset : Nat) (c : Cadence) :
    (c.follow p false listen w since offset).follower = c.follower := by
  unfold Cadence.follow
  dsimp only
  split <;> rfl

theorem evolves_followMark (n : Nat) (m : MarkRecord) (w : Word16) (s : State) : Evolves s (s.followMark n m w) := by
  refine (touches_followMark n m w s).evolves_of (by decide) fun hs => ?_
  unfold State.followMark
  dsimp only
  split
  · cases decide (n < s.station.address) with
    | true => exact inStep_overtake hs
    | false => exact (evolves_setRecord s (by rw [Cadence.follow_follower]; exact id)).inStep hs
  · exact hs

/-! ### The peer table and the all-clear -/

theorem evolves_silence (a : Nat) (s : State) : Evolves s (s.silence a) :=
  (evolves_peers s (by simp)).trans (evolves_raise (by simp [FaultKind.clearsAtOnce]) _ _)

theorem evolves_duplicateAge (n : Option Nat) (s : State) :
    Evolves s { s with peers := { s.peers with duplicateAge := n } } := (touches_duplicateAge n s).evolves (by decide)

theorem evolves_endDuplicate (s : State) : Evolves s s.endDuplicate :=
  (evolves_duplicateAge none s).trans (evolves_clearFault _ _ _)

theorem evolves_duplicateHeard (s : State) : Evolves s s.duplicateHeard := by
  have h1 : Evolves s (if s.duplicateDue = true then s.endDuplicate else s) := .ite (evolves_endDuplicate s) (.refl s)
  have h2 (t : State) : Evolves t (if t.peers.duplicateAge.isNone = true then t.raise .duplicateAddress t.station.address
      else t) := .ite (evolves_raise (by simp [FaultKind.clearsAtOnce]) _ t) (.refl t)
  exact (h1.trans (h2 _)).trans (evolves_duplicateAge _ _)

theorem evolves_peersAllClear (s : State) : Evolves s s.peersAllClear :=
  (evolves_peers s (by simp [Peers.allClear])).trans (evolves_clearFaults _ _)

theorem evolves_checkParameters (a d : Nat) (s : State) : Evolves s (s.checkParameters a d) := by
  have h (f : PeerBase → PeerBase) : Evolves s { s with peers := s.peers.updBase a f } := evolves_peers s (by simp)
  exact .ite ((h _).trans (evolves_raise (by simp [FaultKind.clearsAtOnce]) _ _))
    (.ite ((h _).trans (evolves_clearFault _ _ _)) (h _))

theorem evolves_checkPhase (f : Nat) (s : State) : Evolves s (s.checkPhase f) := by
  have h (g : FloorEntry → FloorEntry) : Evolves s { s with peers := s.peers.updFloor f g } := evolves_peers s (by simp)
  exact .ite ((h _).trans (evolves_clearFault _ _ _))
    (.ite ((h _).trans (evolves_raise (by simp [FaultKind.clearsAtOnce]) _ _)) (h _))

theorem evolves_adoptNewer (g : Byte) (s : State) : Evolves s (s.adoptNewer g) := by
  refine Evolves.trans ?_ ((touches_speakerAllClear _).evolves (by decide))
  refine Evolves.trans ?_ ((touches_stairsAllClear _).evolves (by decide))
  refine Evolves.trans ?_ ((touches_builderAllClear _).evolves (by decide))
  refine Evolves.trans ?_ (evolves_zonesAllClear _)
  exact (evolves_regime _ s).trans (evolves_peersAllClear _)

/-! ### The merge of a STATUS -/

theorem evolves_refresh (a : Nat) (r : StatusRecord) (s : State) : Evolves s (s.refresh a r) := by
  have h (f : PeerBase → PeerBase) : Evolves s { s with peers := s.peers.updBase a f } := evolves_peers s (by simp)
  exact .ite ((h _).trans (evolves_clearFault _ _ _)) (h _)

theorem evolves_mergeFloor (f : Nat) (z : Tab ZoneReport 8) (s : State) : Evolves s (s.mergeFloor f z) := by
  have h (g : FloorEntry → FloorEntry) : Evolves s { s with peers := s.peers.updFloor f g } := evolves_peers s (by simp)
  exact .ite ((h _).trans (evolves_latchOrigin _ _)) (h _)

theorem evolves_setStanding (a : Nat) (st : PeerStanding) (s : State) : Evolves s (s.setStanding a st) :=
  (touches_setStanding a st s).evolves (by decide)

theorem evolves_ownAlarms (was : Bool) (s : State) : Evolves s (s.ownAlarms was) :=
  .ite (evolves_zonesActivated s) (.refl s)

theorem evolves_mergeContent (a : Nat) (r : StatusRecord) (s : State) : Evolves s (s.mergeContent a r) := by
  have hstanding := evolves_setStanding a .current s
  unfold State.mergeContent
  split
  · rename_i phase _ _ _ zones _ _ _
    have hprefix := (hstanding.trans (evolves_mergeFloor a zones _)).trans (evolves_intake r _)
    generalize ((s.setStanding a .current).mergeFloor a zones).intake r = u at hprefix
    have hphase : Evolves u { u with peers := u.peers.updFloor a (fun e => { e with phase := phase }) } :=
      evolves_peers u (by simp)
    have h := (hprefix.trans hphase).trans (evolves_ownAlarms s.regime.active _)
    exact .ite h (h.trans (evolves_checkPhase a _))
  · exact hstanding.trans (evolves_intake r _)

theorem evolves_mergeWindow (a : Nat) (g : Byte) (r : StatusRecord) (s : State) : Evolves s (s.mergeWindow a g r) := by
  unfold State.mergeWindow
  refine .ite (evolves_mergeContent a r s) ?_
  split
  · exact (evolves_firstAdoption g s).trans (evolves_mergeContent a r _)
  · exact .ite (evolves_mergeContent a r s) (.ite ((evolves_adoptNewer g s).trans (evolves_mergeContent a r _))
      (evolves_setStanding a _ s))

theorem evolves_merge (a : Nat) (g : Byte) (r : StatusRecord) (s : State) : Evolves s (s.merge a g r) := by
  have hbody (t : State) : Evolves t { t with peers := t.peers.takeBody a r.body } := by
    refine evolves_peers t ?_
    unfold Peers.takeBody
    split <;> simp
  have hsilence : Evolves s (s.settleSilence a) := .ite (evolves_silence a s) (.refl s)
  exact (((hsilence.trans (evolves_refresh a r _)).trans (evolves_checkParameters a _ _)).trans (hbody _)).trans
    (evolves_mergeWindow a g r _)

/-! ### The blocks' reaction to an event -/

/-- Placement writes a PENDING entry of count 0, or raises the class of one. -/
theorem inStep_placeStatus {s : State} (h : s.InStep) : s.placeStatus.InStep := by
  unfold State.placeStatus
  split
  · exact h
  · rename_i hrun
    have hout {p : Prop} (hl : s.station.lifecycle ≠ .run) : p := absurd (by simpa using hrun) hl
    split
    · rename_i hnone
      split
      · exact { h with
          status := by rw [← h.status]; simp [Slots.statusFlies, hnone]
          statusCount := by rintro e ⟨⟩; exact Nat.zero_le _
          outside := hout }
      · exact h
    · rename_i e he
      split
      · exact { h with
          status := by rw [← h.status]; simp [Slots.statusFlies, he]
          statusCount := by rintro _ ⟨⟩; exact h.statusCount e he
          outside := hout }
      · exact h

theorem evolves_builderReact (old s : State) : Evolves s (s.builderReact old) := by
  refine (touches_builderReact old s).evolves_of (by decide) fun hs => inStep_placeStatus ?_
  exact hs.congr rfl rfl rfl rfl rfl (fun _ => id) id

theorem evolves_finish (s old : State) : Evolves s (s.finish old) := by
  refine .ite (.refl s) ?_
  refine Evolves.trans ?_ (evolves_builderReact old _)
  refine Evolves.trans ?_ ((touches_loopback _).evolves (by decide))
  refine Evolves.trans ?_ ((touches_alarmLampReact _).evolves (by decide))
  refine Evolves.trans ?_ (evolves_cadenceReact _)
  refine Evolves.trans ?_ ((touches_speakerReact old _ _).evolves (by decide))
  refine Evolves.trans ?_ (evolves_liftsReact _ _)
  refine Evolves.trans ?_ (evolves_stairsReact _ _ _)
  exact .ite (evolves_zonesActivated s) (.refl s)

theorem evolves_event {f : State → State} (due : Bool) (s : State) (h : due = true → Evolves s (f s)) :
    Evolves s (s.event due f) := by
  unfold State.event
  split
  · rename_i hd; exact (h hd).trans (evolves_finish _ s)
  · exact .refl s

/-! ### Reception -/

theorem evolves_window (g : Byte) (s : State) : Evolves s (s.window g) := by
  unfold State.window
  split
  · exact evolves_firstAdoption g s
  · exact .ite (evolves_adoptNewer g s) (.refl s)

theorem evolves_regimeCommand (g : Byte) {f : State → State} (s : State) (h : ∀ t, Evolves t (f t)) :
    Evolves s (s.regimeCommand g f) := .ite (.refl s) ((evolves_window g s).trans (h _))

theorem evolves_obey (n : Nat) (g : Byte) (c : Command) (s : State) : Evolves s (s.obey n g c) := by
  have hw := evolves_window g s
  cases c with
  | general => exact evolves_regimeCommand g s evolves_setGeneral
  | hold e => exact evolves_regimeCommand g s (evolves_adoptHold e)
  | resume e => exact evolves_regimeCommand g s (evolves_adoptHold e)
  | silence e => exact evolves_regimeCommand g s (evolves_adoptSilence e)
  | resound e => exact evolves_regimeCommand g s (evolves_adoptSilence e)
  | allClear => exact hw
  | zoneDisable z => exact .ite (hw.trans (evolves_disableZone _ _)) hw
  | zoneEnable z => exact .ite (hw.trans (evolves_enableZone _ _)) hw
  | take m k => exact .ite (hw.trans (evolves_takeAuthority _ _ _)) hw
  | keep k => exact .ite (hw.trans (evolves_keepAuthority _ _ _)) hw
  | give m => exact .ite (hw.trans ((touches_giveAuthority _ _).evolves (by decide))) hw
  | testAnnounce m k => exact .ite (hw.trans ((touches_takeTest _ _).evolves (by decide))) hw
  | liftRestore b => exact .ite (hw.trans (evolves_restoreBank _)) hw

theorem evolves_handOn (f : Frame) (w : Word16) (s : State) : Evolves s (s.handOn f w) := by
  have hstatus : Evolves s (s.takeStatusFrame f) := by
    unfold State.takeStatusFrame
    split
    · exact evolves_merge _ _ _ s
    · exact evolves_setAside s
  have hcommand : Evolves s (s.takeCommandFrame f) := by
    unfold State.takeCommandFrame
    split
    · exact evolves_obey _ _ _ s
    · exact evolves_setAside s
  have hmark : Evolves s (s.takeMarkFrame f w) := by
    unfold State.takeMarkFrame
    split
    · exact evolves_followMark _ _ w s
    · exact evolves_setAside s
  unfold State.handOn
  split
  · exact hstatus
  · exact hstatus
  · exact hstatus
  · exact hcommand
  · exact hmark
  · exact .refl s

theorem evolves_accept (f : Frame) (w : Word16) (s : State) : Evolves s (s.accept State.handOn f w) := by
  have h := evolves_countAccepted s
  exact .ite (h.trans (evolves_duplicateHeard _))
    (.ite (h.trans (evolves_raiseAtOnce _ _ _)) (h.trans (evolves_handOn f w _)))

theorem evolves_rxAct (e : RxEvent) (s : State) : Evolves s (s.rxAct State.handOn e) := by
  cases e with
  | syncMismatch => exact .refl s
  | stuffError => exact evolves_countStuffError s
  | jamSeen => exact evolves_countJamSeen s
  | badLength => exact evolves_countBadLength s
  | crcError => exact evolves_countCrcError s
  | unknownKind => exact evolves_countUnknownKind s
  | abandoned => exact .refl s
  | accepted f w => exact evolves_accept f w s

/-! ### The receiver's widths (R16, R21, R22) -/

theorem Receiver.bounded.hunt {r : Receiver} (h : r.bounded) : r.hunt.bounded :=
  ⟨h.1, Nat.zero_le _, Nat.zero_le _, Nat.zero_le _⟩

theorem Receiver.bounded.close {r : Receiver} (h : r.bounded) : r.close.1.bounded := by
  unfold Receiver.close
  split
  · exact h.hunt
  · split <;> exact h.hunt

theorem Receiver.bounded.byteDone (mine : Nat → Bool) {r : Receiver} (h : r.bounded) : (r.byteDone mine).1.bounded := by
  unfold Receiver.byteDone
  split
  · exact h.hunt
  · split
    · exact h.hunt
    · split
      · exact h.close
      · exact h

theorem Receiver.bounded.dataBit (mine : Nat → Bool) (b : Bool) {r : Receiver} (h : r.bounded) (he : r.equal ≤ 4) :
    (r.dataBit mine b).1.bounded := by
  obtain ⟨hrun, hchecked, -, hbits⟩ := h
  have hequal : (if b = r.level ∧ r.equal ≠ 0 then r.equal + 1 else 1) ≤ 6 := by split <;> omega
  unfold Receiver.dataBit
  dsimp only
  split
  · exact Receiver.bounded.byteDone mine ⟨hrun, hchecked, hequal, Nat.zero_le _⟩
  · exact ⟨hrun, hchecked, hequal, by simp only [List.length_cons]; omega⟩

theorem Receiver.bounded.assemble (mine : Nat → Bool) (b : Bool) {r : Receiver} (h : r.bounded) :
    (r.assemble mine b).1.bounded := by
  obtain ⟨hrun, hchecked, hequal, hbits⟩ := id h
  unfold Receiver.assemble
  split
  · exact h.hunt
  · split
    · split
      · split
        · exact h.hunt
        · exact ⟨hrun, hchecked, Nat.le_refl _, hbits⟩
      · have h1 : Receiver.bounded { r with level := b, equal := 1 } := ⟨hrun, hchecked, by simp, hbits⟩
        dsimp only
        split
        · exact h1.close
        · exact h1
    · exact h.dataBit mine b (by omega)

theorem Receiver.bounded.sample (mine : Nat → Bool) (now : Word16) (b : Bool) {r : Receiver} (h : r.bounded) :
    (r.sample mine now b).1.bounded := by
  obtain ⟨-, hchecked, hequal, hbits⟩ := h
  have hrun : runAfter r.recessiveRun b ≤ 255 := by unfold runAfter; split <;> omega
  have h1 : Receiver.bounded { r with recessiveRun := runAfter r.recessiveRun b } := ⟨hrun, hchecked, hequal, hbits⟩
  unfold Receiver.sample
  dsimp only
  split
  · split
    · exact ⟨hrun, Nat.zero_le _, hequal, hbits⟩
    · exact h1
  · split
    · exact h1.hunt
    · split
      · exact h1.hunt
      · rename_i hne
        exact ⟨hrun, by simp only at hne ⊢; omega, hequal, hbits⟩
  · exact h1.assemble mine b

theorem Receiver.bounded.feed (mine : Nat → Bool) (now : Word16) (bs : List Bool) {r : Receiver} (h : r.bounded) :
    (r.feed mine now bs).1.bounded := by
  induction bs generalizing r with
  | nil => exact h
  | cons b bs ih => exact ih (h.sample mine now b)

theorem evolves_rx {r : Receiver} {s : State} (h : s.rx.bounded → r.bounded) : Evolves s { s with rx := r } := by
  have ht := touches_rx r s
  refine ⟨⟨.inl rfl, ht.2 _ (by decide), rfl, fun hl => ?_, id⟩, ht.inStep (by decide)⟩
  exact (State.lineLaw_iff _).2 ⟨h ((State.lineLaw_iff s).1 hl).1, ((State.lineLaw_iff s).1 hl).2⟩

theorem evolves_hear (line : Samples) (s : State) : Evolves s (s.hear State.handOn line) := by
  refine .ite ?_ (.refl s)
  refine (evolves_rx (s := s) (fun h => h.feed _ _ _)).trans (Evolves.foldl _ (fun t e => ?_) _ _)
  exact evolves_event true t fun _ => evolves_rxAct e t

end Sys2Proof.Machine
end

section
/-! ## Flights and the link: the slots' laws across starts, ends of flights, requests and completions -/

namespace Sys2Proof.Machine

/-! ### The start of a frame (R29 to R31, R51) -/

/-- With no frame being sent no entry flies, and no snapshot stands. -/
theorem State.InStep.quiet {s : State} (h : s.InStep) (hx : s.tx.slot = none) :
    s.slots.statusFlies = false ∧ s.slots.commandFlies = false ∧ s.slots.markFlies = false
      ∧ s.slots.successor = none ∧ s.builder.snapshot = none := by
  have hmark : s.slots.markFlies = false := by rw [h.mark, hx]; rfl
  refine ⟨by rw [h.status, hx]; rfl, by rw [h.command, hx]; rfl, hmark, ?_, ?_⟩
  · have := h.behind
    cases hsucc : s.slots.successor with
    | none => rfl
    | some e => rw [hsucc, hmark] at this; exact absurd (this rfl) (by decide)
  · have := h.snapshot
    rw [hx] at this
    simpa using this

theorem inStep_startStatus {e : StatusEntry} {s : State} (h : s.InStep) (hx : s.tx = .idle)
    (hrun : s.station.lifecycle = .run) (he : s.slots.status = some e) : (s.startStatus e).InStep := by
  obtain ⟨-, hcommand, hmark, -, -⟩ := h.quiet (by rw [hx]; rfl)
  exact { h with
    status := rfl
    command := hcommand
    mark := hmark
    snapshot := rfl
    statusCount := by rintro _ ⟨⟩; exact h.statusCount e he
    outside := fun hl => absurd hrun hl }

/-- Entries that a filter treats alike count alike. -/
theorem length_filter_cons (p : CommandEntry → Bool) {e e' : CommandEntry} (h : p e' = p e) (rest : List CommandEntry) :
    ((e' :: rest).filter p).length = ((e :: rest).filter p).length := by
  simp only [List.filter_cons, h]
  split <;> rfl

theorem inStep_startCommand {e : CommandEntry} {rest : List CommandEntry} {s : State} (h : s.InStep) (hx : s.tx = .idle)
    (hrun : s.station.lifecycle = .run) (he : s.slots.fifo = e :: rest) : (s.startCommand e rest).InStep := by
  obtain ⟨hstatus, -, hmark, -, hsnapshot⟩ := h.quiet (by rw [hx]; rfl)
  have hissued := h.issued
  have hkeeps := h.keeps
  rw [he] at hissued hkeeps
  have hall {p : CommandEntry → Prop} (hp : ∀ x ∈ s.slots.fifo, p x) (hflies : p e → p { e with standing := .inFlight }) :
      ∀ x ∈ ({ e with standing := .inFlight } :: rest : List CommandEntry), p x := by
    rw [he] at hp
    intro x hx
    rcases List.mem_cons.1 hx with rfl | hx
    · exact hflies (hp e List.mem_cons_self)
    · exact hp x (List.mem_cons_of_mem _ hx)
  exact { h with
    status := hstatus
    command := rfl
    mark := hmark
    queued := by have := h.queued; rw [he] at this; exact this
    snapshot := by show s.builder.snapshot.isSome = _; rw [hsnapshot]; rfl
    fifoCount := hall h.fifoCount id
    outside := fun hl => absurd hrun hl
    issued := (length_filter_cons (e := e) (e' := { e with standing := .inFlight }) _ rfl rest).trans hissued
    keeps := (length_filter_cons (e := e) (e' := { e with standing := .inFlight }) _ rfl rest).trans_le hkeeps
    epochs := hall h.epochs id
    linkRole := fun hr => by have := (h.linkRole hr).2; rw [he] at this; cases this }

theorem inStep_startMark {m : MarkEntry} {s : State} (h : s.InStep) (hx : s.tx = .idle)
    (hrun : s.station.lifecycle = .run) (hm : s.slots.mark = some m) : (s.startMark m).InStep := by
  obtain ⟨hstatus, hcommand, -, -, hsnapshot⟩ := h.quiet (by rw [hx]; rfl)
  exact { h with
    status := hstatus
    command := hcommand
    mark := rfl
    behind := fun _ => rfl
    markYields := by rintro _ ⟨⟩; exact h.markYields m hm
    snapshot := by show s.builder.snapshot.isSome = _; rw [hsnapshot]; rfl
    markCount := by rintro _ ⟨⟩; exact h.markCount m hm
    outside := fun hl => absurd hrun hl }

/-- The MARK slot goes to its successor while no MARK is being sent any more. -/
theorem inStep_nextMark {s : State} (h : s.InStep) (hrun : s.station.lifecycle = .run) (x : Transmitter)
    (hx : x.slot = none) (hslot : s.tx.slot = none ∨ s.tx.slot = some .mark) :
    State.InStep { s with tx := x, slots := s.slots.nextMark } := by
  have hflies : s.slots.statusFlies = false ∧ s.slots.commandFlies = false ∧ s.builder.snapshot.isSome = false := by
    rw [h.status, h.command, h.snapshot]
    rcases hslot with hs | hs <;> rw [hs] <;> exact ⟨rfl, rfl, rfl⟩
  exact { h with
    status := by rw [hx]; exact hflies.1
    command := by rw [hx]; exact hflies.2.1
    mark := by
      rw [hx]
      unfold Slots.markFlies Slots.nextMark
      cases hsucc : s.slots.successor with
      | none => rfl
      | some e => simp [h.waits e hsucc]
    behind := fun hs => by cases hs
    waits := by rintro e ⟨⟩
    markYields := h.successorYields
    successorYields := by rintro e ⟨⟩
    snapshot := by rw [hx]; exact hflies.2.2
    markCount := h.successorCount
    successorCount := by rintro e ⟨⟩
    outside := fun hl => absurd hrun hl }

theorem inStep_tryStart (n : Nat) {s : State} (h : s.InStep) (hx : s.tx = .idle) (hrun : s.station.lifecycle = .run) :
    (State.tryStart n s).InStep := by
  induction n generalizing s with
  | zero => exact h
  | succ n ih =>
    unfold State.tryStart
    split
    · exact h
    · split
      · exact h
      · split
        · rename_i he; exact inStep_startStatus h hx hrun he
        · rename_i he; exact inStep_startCommand h hx hrun he
        · rename_i hm
          split
          · have hnext := inStep_nextMark h hrun .idle rfl (.inl (by rw [hx]; rfl))
            rw [← hx] at hnext
            exact ih hnext hx hrun
          · exact inStep_startMark h hx hrun hm
        · exact h

theorem touches_bitClocks (n : Nat) (s : State) :
    Touches [.time] s { s with time := { s.time with bitClocks := n } } := by
  refine .of rfl fun p => ?_
  cases p <;> first | exact .inl (by decide) | exact .inr rfl | exact .inr ⟨rfl, rfl⟩ | exact .inr ⟨rfl, rfl, rfl⟩ |
    exact .inr ⟨rfl, rfl, rfl, rfl⟩

theorem evolves_transmit (s : State) : Evolves s s.transmit := by
  unfold State.transmit
  split
  · rename_i hc
    exact ((touches_tryStart 3 s).evolves_of (by decide) fun h => inStep_tryStart 3 h hc.2 hc.1).trans
      (evolves_finish _ s)
  · exact .refl s

/-- A frame in flight from the FIFO is that of its head. -/
theorem State.InStep.fifo_head {s : State} (h : s.InStep) (hk : s.tx.slot = some .command) :
    ∃ e rest, s.slots.fifo = e :: rest := by
  have hcommand := h.command
  rw [hk] at hcommand
  cases hq : s.slots.fifo with
  | nil => rw [Slots.commandFlies, hq] at hcommand; cases hcommand
  | cons e rest => exact ⟨e, rest, rfl⟩

/-- A station that has a COMMAND in its FIFO is a console. -/
theorem State.InStep.console_of_fifo {s : State} (h : s.InStep) {e : CommandEntry} {rest : List CommandEntry}
    (he : s.slots.fifo = e :: rest) : s.station.role = some .console := by
  by_contra hr
  have := (h.linkRole hr).2
  rw [he] at this
  cases this

/-! ### Flights that end unsent (R28, R31, R32, R53) -/

/-- The STATUS entry in flight returns to PENDING, and its snapshot goes. -/
theorem inStep_statusReturns {f : Nat → Nat} {s : State} (h : s.InStep) (hk : s.tx.slot = some .status)
    (x : Transmitter) (hx : x.slot = none) (hf : f (s.slots.collisionsOf .status) ≤ 15) :
    State.InStep { s with tx := x, slots := s.slots.unsent f .status,
                          builder := { s.builder with snapshot := none } } := by
  have hrun := h.run_of_tx (fun hi => by rw [hi] at hk; cases hk)
  have hfree (j : SlotId) : (x.slot == some j) = false := by rw [hx]; rfl
  have hcommand := h.command
  have hmark := h.mark
  rw [hk] at hcommand hmark
  have hstatus : (s.slots.unsent f .status).statusFlies = false := by
    unfold Slots.statusFlies Slots.unsent
    cases s.slots.status <;> rfl
  exact { h with
    status := hstatus.trans (hfree _).symm
    command := hcommand.trans (hfree _).symm
    mark := hmark.trans (hfree _).symm
    snapshot := (hfree _).symm
    statusCount := fun e he => by
      obtain ⟨e', he', rfl⟩ := Option.mem_map.1 he
      have he'' : s.slots.status = some e' := he'
      simpa [Slots.collisionsOf, he''] using hf
    outside := fun hl => absurd hrun hl }

/-- The head of the FIFO in flight returns to PENDING. -/
theorem inStep_commandReturns {f : Nat → Nat} {s : State} (h : s.InStep) (hk : s.tx.slot = some .command)
    (x : Transmitter) (hx : x.slot = none) (hf : f (s.slots.collisionsOf .command) ≤ 15) :
    State.InStep { s with tx := x, slots := s.slots.unsent f .command } := by
  have hrun := h.run_of_tx (fun hi => by rw [hi] at hk; cases hk)
  have hfree (j : SlotId) : (x.slot == some j) = false := by rw [hx]; rfl
  have hstatus := h.status
  have hmark := h.mark
  have hsnapshot := h.snapshot
  rw [hk] at hstatus hmark hsnapshot
  obtain ⟨e, rest, he⟩ := h.fifo_head hk
  have hunsent : s.slots.unsent f .command
      = { s.slots with fifo := { e with standing := .pending, collisions := f e.collisions } :: rest } := by
    simp [Slots.unsent, he]
  have hqueued := h.queued
  have hfifo := h.fifoCount
  have hissued := h.issued
  have hkeeps := h.keeps
  have hepochs := h.epochs
  rw [he] at hqueued hfifo hissued hkeeps hepochs
  rw [hunsent]
  have hlength (p : CommandEntry → Bool) (hp) := length_filter_cons
    (e := e) (e' := { e with standing := .pending, collisions := f e.collisions }) p hp rest
  exact { h with
    status := hstatus.trans (hfree _).symm
    command := (hfree _).symm
    mark := hmark.trans (hfree _).symm
    queued := hqueued
    snapshot := hsnapshot.trans (hfree _).symm
    fifoCount := List.forall_mem_cons.2 ⟨by simpa [Slots.collisionsOf, he] using hf, (List.forall_mem_cons.1 hfifo).2⟩
    outside := fun hl => absurd hrun hl
    issued := (hlength _ rfl).trans hissued
    keeps := (hlength _ rfl).trans_le hkeeps
    epochs := List.forall_mem_cons.2 (List.forall_mem_cons.1 hepochs)
    linkRole := fun hr => absurd (h.console_of_fifo he) hr }

/-- The MARK in flight gives way to its successor, or returns to PENDING. -/
theorem inStep_markReturns {f : Nat → Nat} {s : State} (h : s.InStep) (hk : s.tx.slot = some .mark)
    (x : Transmitter) (hx : x.slot = none) (hf : f (s.slots.collisionsOf .mark) ≤ 15) :
    State.InStep { s with tx := x, slots := s.slots.unsent f .mark } := by
  have hrun := h.run_of_tx (fun hi => by rw [hi] at hk; cases hk)
  have hfree (j : SlotId) : (x.slot == some j) = false := by rw [hx]; rfl
  have hstatus := h.status
  have hcommand := h.command
  have hsnapshot := h.snapshot
  rw [hk] at hstatus hcommand hsnapshot
  cases hsucc : s.slots.successor with
  | some e =>
    have hunsent : s.slots.unsent f .mark = s.slots.nextMark := by simp [Slots.unsent, hsucc]
    rw [hunsent]
    exact inStep_nextMark h hrun x hx (.inr hk)
  | none =>
    have hunsent : s.slots.unsent f .mark
        = { s.slots with
            mark := s.slots.mark.map (fun e => { e with standing := .pending, collisions := f e.collisions }) } := by
      simp [Slots.unsent, hsucc]
    have hmark : (s.slots.unsent f .mark).markFlies = false := by
      rw [hunsent]
      unfold Slots.markFlies
      cases s.slots.mark <;> rfl
    rw [hunsent] at hmark ⊢
    exact { h with
      status := hstatus.trans (hfree _).symm
      command := hcommand.trans (hfree _).symm
      mark := hmark.trans (hfree _).symm
      behind := fun hs => by simp [hsucc] at hs
      markYields := fun e he => by
        obtain ⟨m, hm, rfl⟩ := Option.mem_map.1 he
        exact h.markYields m hm
      snapshot := hsnapshot.trans (hfree _).symm
      markCount := fun e he => by
        obtain ⟨m, hm, rfl⟩ := Option.mem_map.1 he
        have hm' : s.slots.mark = some m := hm
        simpa [Slots.collisionsOf, hm'] using hf
      outside := fun hl => absurd hrun hl }

/-- The entry in flight returns to PENDING with a count that still fits, and its owner is told. -/
theorem inStep_unsent {k : SlotId} {f : Nat → Nat} {s : State} (h : s.InStep) (hk : s.tx.slot = some k)
    (x : Transmitter) (hx : x.slot = none) (hf : f (s.slots.collisionsOf k) ≤ 15) :
    (State.ownerUnsent k { s with tx := x, slots := s.slots.unsent f k }).InStep := by
  cases k with
  | status => exact (inStep_statusReturns h hk x hx hf).congr rfl rfl rfl rfl rfl (fun _ => id) id
  | command => exact inStep_commandReturns h hk x hx hf
  | mark => exact inStep_markReturns h hk x hx hf

/-- The count of the entry in flight is below the limit (R34). -/
theorem State.InStep.collisionsOf_le {s : State} (h : s.InStep) (k : SlotId) : s.slots.collisionsOf k ≤ 15 := by
  cases k with
  | status =>
    cases hs : s.slots.status with
    | none => simp [Slots.collisionsOf, hs]
    | some e => simpa [Slots.collisionsOf, hs] using h.statusCount e hs
  | command =>
    cases hs : s.slots.fifo with
    | nil => simp [Slots.collisionsOf, hs]
    | cons e rest => simpa [Slots.collisionsOf, hs] using h.fifoCount e (by rw [hs]; exact List.mem_cons_self)
  | mark =>
    cases hs : s.slots.mark with
    | none => simp [Slots.collisionsOf, hs]
    | some e => simpa [Slots.collisionsOf, hs] using h.markCount e hs

theorem evolves_defer {k : SlotId} {s : State} (hk : s.tx.slot = some k) : Evolves s (s.defer k) :=
  (touches_defer k s).evolves_of (by decide) fun h => inStep_unsent h hk .idle rfl (h.collisionsOf_le k)

/-! ### Flights that end: the entry leaves its slot (R34, R35, R52, R54, R166) -/

/-- The STATUS entry leaves its slot, and its snapshot with it. -/
theorem inStep_statusLeaves {s : State} (h : s.InStep) (hk : s.tx.slot = some .status) (x : Transmitter)
    (hx : x.slot = none) :
    State.InStep { s with tx := x, slots := s.slots.remove .status, builder := { s.builder with snapshot := none } } := by
  have hrun := h.run_of_tx (fun hi => by rw [hi] at hk; cases hk)
  have hcommand := h.command
  have hmark := h.mark
  rw [hk] at hcommand hmark
  exact { h with
    status := by rw [hx]; rfl
    command := by rw [hx]; exact hcommand
    mark := by rw [hx]; exact hmark
    snapshot := by rw [hx]; rfl
    statusCount := by rintro e ⟨⟩
    outside := fun hl => absurd hrun hl }

/-- The head of the FIFO leaves it, and the result of its ISSUE is given (R166, R168). -/
theorem inStep_commandLeaves {e : CommandEntry} {rest : List CommandEntry} {s : State} (h : s.InStep)
    (hk : s.tx.slot = some .command) (he : s.slots.fifo = e :: rest) (x : Transmitter) (hx : x.slot = none)
    (o : IssueOutcome) (ho : o ≠ .queued) :
    State.InStep { s with tx := x, slots := s.slots.remove .command,
                          link := if e.issued then { s.link with result := { s.link.result with outcome := o, reason := .none } }
                                  else s.link } := by
  have hrun := h.run_of_tx (fun hi => by rw [hi] at hk; cases hk)
  have hrest : (s.slots.remove .command).fifo = rest := by simp [Slots.remove, he]
  have hstatus := h.status
  have hmark := h.mark
  have hsnapshot := h.snapshot
  have hqueued := h.queued
  have hissued := h.issued
  have hkeeps := h.keeps
  rw [hk] at hstatus hmark hsnapshot
  rw [he] at hqueued hissued hkeeps
  have hmem : ∀ y ∈ (s.slots.remove .command).fifo, y ∈ s.slots.fifo := fun y hy => by
    rw [hrest] at hy; rw [he]; exact List.mem_cons_of_mem _ hy
  have hlink (p : Link → Prop) (hp : p s.link)
      (hp' : p { s.link with result := { s.link.result with outcome := o, reason := .none } }) :
      p (if e.issued then { s.link with result := { s.link.result with outcome := o, reason := .none } } else s.link) := by
    split <;> assumption
  exact { h with
    status := by rw [hx]; exact hstatus
    command := by
      rw [hx]
      unfold Slots.commandFlies
      rw [hrest]
      cases rest with
      | nil => rfl
      | cons y ys => simp [hqueued y (by simp)]
    mark := by rw [hx]; exact hmark
    queued := fun y hy => hqueued y (by rw [hrest] at hy; exact List.mem_of_mem_drop hy)
    snapshot := by rw [hx]; exact hsnapshot
    fifoCount := fun y hy => h.fifoCount y (hmem y hy)
    outside := fun hl => absurd hrun hl
    issued := by
      show ((s.slots.remove .command).fifo.filter _).length = _
      rw [hrest]
      cases hi : e.issued with
      | true =>
        simp only [List.filter_cons, hi, if_true, List.length_cons] at hissued
        simp only [if_true, if_neg ho]
        split at hissued <;> omega
      | false => simpa [List.filter_cons, hi] using hissued
    keeps := by
      show ((s.slots.remove .command).fifo.filter _).length ≤ 1
      rw [hrest]
      exact Nat.le_trans (((List.sublist_cons_self e rest).filter _).length_le) hkeeps
    epochs := fun y hy => h.epochs y (hmem y hy)
    untaken := hlink (fun l => l.taken = false → partialRequest l.buffer = true ∧ l.response = []) h.untaken h.untaken
    unselected := hlink (fun l => l.selected = false → l.taken = false ∧ l.buffer = []) h.unselected h.unselected
    period := hlink (fun l => l.period.isSome = l.keeping) h.period h.period
    alive := hlink (fun l => l.keeping = true → l.alive = true) h.alive h.alive
    linkRole := fun hr => by have := (h.linkRole hr).2; rw [he] at this; cases this }

theorem inStep_dropFrame {k : SlotId} {f : Frame} {s : State} (h : s.InStep) (hk : s.tx.slot = some k) (x : Transmitter)
    (hx : x.slot = none) : (State.dropFrame k f { s with tx := x }).InStep := by
  have hrun := h.run_of_tx (fun hi => by rw [hi] at hk; cases hk)
  cases k with
  | status => exact (inStep_statusLeaves h hk x hx).congr rfl rfl rfl rfl rfl (fun _ => id) id
  | command =>
    obtain ⟨e, rest, he⟩ := h.fifo_head hk
    have hleaves := inStep_commandLeaves h hk he x hx .dropped (by decide)
    unfold State.dropFrame
    simp only [he, List.head?_cons, State.ownerDropped, State.commandDropped]
    split
    · rename_i hi
      simp only [hi, if_true] at hleaves
      exact hleaves.congr rfl rfl rfl rfl rfl (fun _ => id) id
    · rename_i hi
      simp only [hi] at hleaves
      exact hleaves.congr rfl rfl rfl rfl rfl (fun _ => id) id
  | mark =>
    have hnext := inStep_nextMark h hrun x hx (.inr hk)
    unfold State.dropFrame
    cases s.slots.fifo.head? <;> exact hnext.congr rfl rfl rfl rfl rfl (fun _ => id) id

theorem carries_dropFrame (k : SlotId) (f : Frame) (s : State) : Carries s (s.dropFrame k f) := by
  have hcount : Carries s { s with line := { s.line with dropped := bump16 s.line.dropped } } :=
    (evolves_line fun ⟨h1, h2, h3, h4, h5, h6, h7, h8, _, h10⟩ =>
      ⟨h1, h2, h3, h4, h5, h6, h7, h8, bump16_le _, h10⟩).toCarries
  exact ((hcount.trans ((touches_slots (s.slots.remove k) _).carries (by decide))).trans
    (evolves_raise (by simp [FaultKind.clearsAtOnce]) _ _).toCarries).trans
    ((touches_ownerDropped k _ _).carries (by decide))

theorem carries_collide (k : SlotId) (f : Frame) (s : State) : Carries s (s.collide k f) := by
  have hcount : Carries s { s with line := { s.line with collisions := bump16 s.line.collisions } } :=
    (evolves_line fun ⟨h1, h2, h3, h4, h5, h6, h7, _, h9⟩ =>
      ⟨h1, h2, h3, h4, h5, h6, h7, bump16_le _, h9⟩).toCarries
  have hjam := hcount.trans ((touches_tx .jamming _).carries (by decide))
  exact .ite ((hjam.trans ((touches_slots (s.slots.unsent (fun n => n + 1) k) _).carries (by decide))).trans
    ((touches_ownerUnsent k _).carries (by decide))) (hjam.trans (carries_dropFrame k f _))

theorem evolves_collide {k : SlotId} {f : Frame} {s : State} (hk : s.tx.slot = some k) : Evolves s (s.collide k f) := by
  refine ⟨carries_collide k f s, fun h => ?_⟩
  have hline : State.InStep { s with line := { s.line with collisions := bump16 s.line.collisions } } :=
    h.congr rfl rfl rfl rfl rfl (fun _ => id) id
  unfold State.collide
  dsimp only
  split
  · rename_i hlimit
    exact inStep_unsent hline hk .jamming rfl (Nat.le_of_lt_succ hlimit)
  · exact inStep_dropFrame hline hk .jamming rfl

/-! ### The console's own commands (R166 to R168) -/

/-- A change of the link that keeps its result, and with it what stands in the FIFO. -/
theorem inStep_link {s : State} (h : s.InStep) (l : Link) (hresult : l.result = s.link.result)
    (huntaken : l.taken = false → partialRequest l.buffer = true ∧ l.response = [])
    (hunselected : l.selected = false → l.taken = false ∧ l.buffer = [])
    (hperiod : l.period.isSome = l.keeping) (halive : l.keeping = true → l.alive = true)
    (hkeeping : s.station.lifecycle ≠ .run → l.keeping = false) (hrole : s.station.role = some .console) :
    State.InStep { s with link := l } :=
  { h with
    outside := fun hl => ⟨(h.outside hl).1, (h.outside hl).2.1, hkeeping hl⟩
    issued := by show _ = if l.result.outcome = .queued then 1 else 0; rw [hresult]; exact h.issued
    untaken := huntaken
    unselected := hunselected
    period := hperiod
    alive := halive
    linkRole := fun hr => absurd hrole hr }

theorem inStep_ownTake {m : FloorMask} {n : Nat} {s : State} (h : s.InStep) (hrun : s.station.lifecycle = .run)
    (hrole : s.station.role = some .console) : (s.ownTake m n).InStep := by
  unfold State.ownTake
  split
  · rename_i halive
    refine inStep_link h _ rfl h.untaken h.unselected ?_ (fun _ => halive) (fun hl => absurd hrun hl) hrole
    cases hk : s.link.keeping with
    | true => simpa [hk] using h.period
    | false => simp [Timer.start]
  · exact h

theorem inStep_ownGive {m : FloorMask} {s : State} (h : s.InStep) (hrole : s.station.role = some .console) :
    (s.ownGive m).InStep := by
  unfold State.ownGive
  dsimp only
  split
  · exact inStep_link h _ rfl h.untaken h.unselected rfl (fun hk => by cases hk) (fun _ => rfl) hrole
  · exact inStep_link h _ rfl h.untaken h.unselected h.period h.alive (fun hl => (h.outside hl).2.2) hrole

theorem inStep_applyOwn (e : CommandEntry) {s : State} (h : s.InStep) (hrun : s.station.lifecycle = .run)
    (hrole : s.station.role = some .console) : (s.applyOwn e).InStep := by
  unfold State.applyOwn
  split
  · exact (evolves_obey 0 e.generation .general s).inStep h
  · rename_i n _; exact (evolves_obey 0 e.generation (.hold n) s).inStep h
  · rename_i n _; exact (evolves_obey 0 e.generation (.resume n) s).inStep h
  · rename_i n _; exact (evolves_obey 0 e.generation (.silence n) s).inStep h
  · rename_i n _; exact (evolves_obey 0 e.generation (.resound n) s).inStep h
  · exact (evolves_obey 0 e.generation .allClear s).inStep h
  · exact inStep_ownTake h hrun hrole
  · exact inStep_ownGive h hrole
  · exact h

theorem carries_applyOwn (e : CommandEntry) (s : State) : Carries s (s.applyOwn e) := by
  unfold State.applyOwn
  split
  · exact (evolves_obey 0 e.generation .general s).toCarries
  · rename_i n _; exact (evolves_obey 0 e.generation (.hold n) s).toCarries
  · rename_i n _; exact (evolves_obey 0 e.generation (.resume n) s).toCarries
  · rename_i n _; exact (evolves_obey 0 e.generation (.silence n) s).toCarries
  · rename_i n _; exact (evolves_obey 0 e.generation (.resound n) s).toCarries
  · exact (evolves_obey 0 e.generation .allClear s).toCarries
  · exact (touches_ownTake _ _ s).carries (by decide)
  · exact (touches_ownGive _ s).carries (by decide)
  · exact .refl s

theorem carries_release (s : State) : Carries s s.release :=
  (evolves_rx (s := s) (r := { s.rx.hunt with recessiveRun := 0 }) fun _ =>
    ⟨Nat.zero_le _, Nat.zero_le _, Nat.zero_le _, Nat.zero_le _⟩).toCarries.trans
    ((touches_tx .idle _).carries (by decide))

/-- The end of the jam: nothing was in flight any more. -/
theorem evolves_release {s : State} (hx : s.tx.slot = none) : Evolves s s.release :=
  ⟨carries_release s, fun h => { h with
    status := h.status.trans (by rw [hx]; rfl)
    command := h.command.trans (by rw [hx]; rfl)
    mark := h.mark.trans (by rw [hx]; rfl)
    snapshot := h.snapshot.trans (by rw [hx]; rfl)
    outside := fun hl => ⟨(h.outside hl).1, rfl, (h.outside hl).2.2⟩ }⟩

theorem carries_complete (k : SlotId) (f : Frame) (s : State) : Carries s (s.complete k f) := by
  unfold State.complete
  dsimp only
  have hrelease := carries_release s
  generalize s.release = u at hrelease
  have hsent : Carries u { u with line := { u.line with sent := bump16 u.line.sent }, slots := u.slots.remove k } :=
    (evolves_line (s := u) (l := { u.line with sent := bump16 u.line.sent })
      (fun ⟨h1, h2, h3, h4, h5, h6, _, h8⟩ => ⟨h1, h2, h3, h4, h5, h6, bump16_le _, h8⟩)).toCarries.trans
      ((touches_slots _ _).carries (by decide))
  refine ((hrelease.trans hsent).trans (evolves_clearFault .frameDropped f.code _).toCarries).trans ?_
  unfold State.ownerCompleted
  split
  · exact (touches_statusCompleted _).carries (by decide)
  · rename_i e _
    unfold State.commandCompleted
    split
    · exact ((touches_link _ _).carries (by decide)).trans (carries_applyOwn e _)
    · exact .refl _
  · exact .refl _

theorem inStep_statusCompleted {s : State} (h : State.InStep { s with builder := { s.builder with snapshot := none } }) :
    s.statusCompleted.InStep := by
  unfold State.statusCompleted
  split
  · rename_i hs; exact h.congr rfl rfl hs rfl rfl (fun _ => id) id
  · exact h.congr rfl rfl rfl rfl rfl (fun _ => id) id

theorem evolves_complete {k : SlotId} {f : Frame} {s : State} (hk : s.tx.slot = some k) : Evolves s (s.complete k f) := by
  refine ⟨carries_complete k f s, fun h => ?_⟩
  have hrun := h.run_of_tx (fun hi => by rw [hi] at hk; cases hk)
  cases k with
  | status =>
    exact inStep_statusCompleted ((inStep_statusLeaves h hk .idle rfl).congr rfl rfl rfl rfl rfl (fun _ => id) id)
  | command =>
    obtain ⟨e, rest, he⟩ := h.fifo_head hk
    have hleaves := inStep_commandLeaves h hk he .idle rfl .sent (by decide)
    unfold State.complete
    simp only [he, List.head?_cons, State.ownerCompleted, State.commandCompleted]
    split
    · rename_i hi
      simp only [hi, if_true] at hleaves
      exact inStep_applyOwn e (hleaves.congr rfl rfl rfl rfl rfl (fun _ => id) id) hrun (h.console_of_fifo he)
    · rename_i hi
      simp only [hi] at hleaves
      exact hleaves.congr rfl rfl rfl rfl rfl (fun _ => id) id
  | mark =>
    have hnext := inStep_nextMark h hrun .idle rfl (.inr hk)
    unfold State.complete
    cases s.slots.fifo.head? <;> exact hnext.congr rfl rfl rfl rfl rfl (fun _ => id) id

/-! ### The console link (R160 to R168) -/

theorem State.linkReady_iff (bytes : List Byte) (s : State) :
    s.linkReady bytes = true ↔ s.actsAs .console = true ∧ s.link.selected = true ∧ s.link.taken = false
      ∧ s.link.buffer.isPrefixOf bytes = true := by
  simp [State.linkReady, and_assoc]

theorem State.actsAs_iff (r : Role) (s : State) : s.actsAs r = true ↔ s.acts = true ∧ s.station.role = some r := by
  simp [State.actsAs]

/-- Outside RUN a console keeps nothing. -/
theorem State.InStep.keeping_of_not_run {s : State} (h : s.InStep) (hl : s.station.lifecycle ≠ .run) :
    s.link.keeping = false := (h.outside hl).2.2

theorem evolves_answer (b : List Byte) (r : State → List Byte) (s : State) : Evolves s (s.answer b r) := by
  refine (touches_answer b r s).evolves_of (by decide) fun h => ?_
  unfold State.answer
  split
  · rename_i hr
    obtain ⟨hacts, hsel, -, -⟩ := (s.linkReady_iff b).1 hr
    exact inStep_link h _ rfl (fun ht => by cases ht) (fun hs => by rw [show _ = true from hsel] at hs; cases hs)
      h.period h.alive h.keeping_of_not_run ((s.actsAs_iff .console).1 hacts).2
  · exact h

/-- A request keeps the laws as far as its own work does, at a console with a transaction open, and leaves the
transaction as it found it. -/
theorem inStep_request {b : List Byte} {f : State → State} {r : State → List Byte} {s : State} (h : s.InStep)
    (hf : ∀ l : Link, s.actsAs .console = true → l.taken = true → l.selected = true →
      State.InStep { s with link := l } → l.result = s.link.result →
      (f { s with link := l }).InStep ∧ (f { s with link := l }).station = s.station
        ∧ (f { s with link := l }).link.taken = true ∧ (f { s with link := l }).link.selected = true) :
    (s.request b f r).InStep := by
  unfold State.request
  split
  · rename_i hr
    obtain ⟨hacts, hsel, -, -⟩ := (s.linkReady_iff b).1 hr
    have hrole := ((s.actsAs_iff .console).1 hacts).2
    have htaken : State.InStep { s with link := { s.link with taken := true, buffer := b } } :=
      inStep_link h _ rfl (fun ht => by cases ht) (fun hs => by rw [show _ = true from hsel] at hs; cases hs) h.period
        h.alive h.keeping_of_not_run hrole
    obtain ⟨hwork, hstation, hw1, hw2⟩ := hf { s.link with taken := true, buffer := b } hacts rfl hsel htaken rfl
    dsimp only
    generalize f { s with link := { s.link with taken := true, buffer := b } } = u at hwork hstation hw1 hw2
    have hfinish := evolves_finish u s
    have hin := hfinish.inStep hwork
    have hlink : (u.finish s).link = u.link := (touches_finish u s).link_eq (by decide)
    refine inStep_link hin _ rfl (fun ht => ?_) hin.unselected hin.period hin.alive hin.keeping_of_not_run ?_
    · rw [show _ = true from (hlink ▸ hw1 : (u.finish s).link.taken = true)] at ht; cases ht
    · rw [hfinish.role, hstation]; exact hrole
  · exact h

theorem carries_request (b : List Byte) {f : State → State} (r : State → List Byte) (s : State)
    (hf : ∀ t, Carries t (f t)) : Carries s (s.request b f r) := by
  have hlink (l : Link) (t : State) : Carries t { t with link := l } := (touches_link l t).carries (by decide)
  unfold State.request
  split
  · exact (((hlink _ s).trans (hf _)).trans (evolves_finish _ s).toCarries).trans (hlink _ _)
  · exact .refl s

theorem inStep_linkKeep {s : State} (h : s.InStep) (b : List Byte) (r : State → List Byte) :
    (s.request b State.restartLinkKeep r).InStep := by
  refine inStep_request h fun l hacts htaken hsel hl _ => ⟨?_, rfl, htaken, hsel⟩
  exact inStep_link hl _ rfl hl.untaken hl.unselected hl.period (fun _ => rfl) hl.keeping_of_not_run
    ((s.actsAs_iff .console).1 hacts).2

/-- An entry goes to the end of the FIFO, with the result that its ISSUE gives. -/
theorem inStep_enqueue {s : State} (h : s.InStep) (hrun : s.station.lifecycle = .run)
    (hrole : s.station.role = some .console) (e : CommandEntry) (counter : Nat) (result : IssueResult)
    (hpending : e.standing = .pending) (hcount : e.collisions ≤ 15) (hepoch : e.command.epochFits = true)
    (hissued : ((s.slots.fifo ++ [e]).filter (fun e => e.issued)).length = (if result.outcome = .queued then 1 else 0))
    (hkeeps : ((s.slots.fifo ++ [e]).filter (fun e => !e.issued)).length ≤ 1) :
    State.InStep { s with link := { s.link with issueCounter := counter, result := result },
                          slots := { s.slots with fifo := s.slots.fifo ++ [e] } } := by
  have hall {p : CommandEntry → Prop} (hp : ∀ x ∈ s.slots.fifo, p x) (he : p e) : ∀ x ∈ s.slots.fifo ++ [e], p x := by
    intro x hx
    rcases List.mem_append.1 hx with hx | hx
    · exact hp x hx
    · exact List.mem_singleton.1 hx ▸ he
  exact { h with
    command := by
      rw [← h.command]
      unfold Slots.commandFlies
      cases s.slots.fifo with
      | nil => simp [hpending]
      | cons x xs => rfl
    queued := by
      intro x hx
      have hq := h.queued
      cases hf : s.slots.fifo with
      | nil => simp [hf] at hx
      | cons y ys =>
        rw [hf] at hq
        simp only [hf, List.cons_append, List.drop_succ_cons, List.drop_zero] at hx hq
        rcases List.mem_append.1 hx with hx | hx
        · exact hq x hx
        · exact List.mem_singleton.1 hx ▸ hpending
    fifoCount := hall h.fifoCount hcount
    outside := fun hl => absurd hrun hl
    issued := hissued
    keeps := hkeeps
    epochs := hall h.epochs hepoch
    linkRole := fun hr => absurd hrole hr }

/-- What the checks of R164 have found when none fails. -/
theorem State.refusal_none {i : Issue} {s : State} (h : s.refusal i = none) :
    s.link.result.outcome ≠ .queued ∧ s.notReady i = false ∧ i.notApplicable s.regime = false
      ∧ i.atLimit s.regime = false := by
  unfold State.refusal at h
  split at h; · cases h
  rename_i h1
  split at h; · cases h
  rename_i h2
  split at h; · cases h
  split at h; · cases h
  split at h; · cases h
  rename_i h5
  split at h; · cases h
  rename_i h6
  exact ⟨h1, by simpa using h2, by simpa using h5, by simpa using h6⟩

/-- BUSY is the reason exactly while an ISSUE is queued. -/
theorem State.refusal_queued {i : Issue} {s : State} (h : s.link.result.outcome = .queued) : s.refusal i = some .busy := by
  simp [State.refusal, h]

/-- A checked ISSUE carries an epoch that fits a byte (R104, R164). -/
theorem State.form_epochFits {i : Issue} {s : State} (hhold : s.regime.hold ≤ 255) (hsilence : s.regime.silence ≤ 255)
    (hn : i.notApplicable s.regime = false) (hl : i.atLimit s.regime = false) : (s.form i).epochFits = true := by
  cases i <;> simp only [State.form, Command.epochFits, Issue.notApplicable, Issue.atLimit, decide_eq_true_eq,
    beq_eq_false_iff_ne] at * <;> omega

theorem inStep_issue {i : Issue} {s : State} (h : s.InStep) (hacts : s.actsAs .console = true)
    (hhold : s.regime.hold ≤ 255) (hsilence : s.regime.silence ≤ 255) : (s.issue i).InStep := by
  obtain ⟨hact, hrole⟩ := (s.actsAs_iff .console).1 hacts
  have hissued := h.issued
  unfold State.issue
  dsimp only
  split
  · exact h
  · rename_i reason hne hr
    have hq : s.link.result.outcome ≠ .queued := fun hq => hne (by rw [State.refusal_queued hq] at hr; exact (Option.some.inj hr).symm)
    exact { h with
      issued := by rw [if_neg hq] at hissued; exact hissued
      linkRole := fun hr => absurd hrole hr }
  · rename_i hr
    obtain ⟨hq, hready, happlies, hlimit⟩ := State.refusal_none hr
    have hrun : s.station.lifecycle = .run := by
      simp only [State.notReady, Bool.or_eq_false_iff, beq_eq_false_iff_ne] at hready
      simp only [State.acts, Bool.or_eq_true, beq_iff_eq] at hact
      exact hact.resolve_left hready.1.1
    rw [if_neg hq] at hissued
    refine inStep_enqueue h hrun hrole (s.formEntry i) _ _ rfl (Nat.zero_le _)
      (State.form_epochFits hhold hsilence happlies hlimit) ?_ ?_
    · rw [List.filter_append, List.length_append, hissued]; rfl
    · rw [List.filter_append, List.length_append]; exact h.keeps

/-- An ISSUE leaves the station and the transaction. -/
theorem issue_transaction (i : Issue) (s : State) : (s.issue i).station = s.station
    ∧ (s.issue i).link.taken = s.link.taken ∧ (s.issue i).link.selected = s.link.selected := by
  unfold State.issue
  dsimp only
  split <;> exact ⟨rfl, rfl, rfl⟩

theorem inStep_issueRequest (i : Issue) {s : State} (h : s.InStep) (hhold : s.regime.hold ≤ 255)
    (hsilence : s.regime.silence ≤ 255) : (s.issueRequest i).InStep := by
  refine inStep_request h fun l hacts htaken hsel hl _ => ?_
  obtain ⟨h1, h2, h3⟩ := issue_transaction i { s with link := l }
  exact ⟨inStep_issue hl hacts hhold hsilence, h1, h2.trans htaken, h3.trans hsel⟩

theorem carries_issueRequest (i : Issue) (s : State) : Carries s (s.issueRequest i) :=
  carries_request _ _ s fun t => (touches_issue i t).carries (by decide)

theorem evolves_keepPeriod {s : State} (hacts : s.actsAs .console = true) (hkeeping : s.link.keeping = true) :
    Evolves s s.keepPeriod := by
  refine (touches_keepPeriod s).evolves_of (by decide) fun h => ?_
  have hrole := ((s.actsAs_iff .console).1 hacts).2
  have hrun : s.station.lifecycle = .run := by
    by_contra hl
    rw [h.keeping_of_not_run hl] at hkeeping
    cases hkeeping
  have hperiod : State.InStep { s with link := { s.link with period := Timer.start s.image.keepPeriodTicks } } :=
    inStep_link h _ rfl h.untaken h.unselected hkeeping.symm h.alive h.keeping_of_not_run hrole
  unfold State.keepPeriod
  dsimp only
  split
  · exact hperiod
  · rename_i hnone
    have hno : s.slots.fifo.filter (fun e => !e.issued) = [] := by
      simpa [Slots.holdsKeep] using hnone
    refine inStep_enqueue hperiod hrun hrole (State.keepEntry _) s.link.issueCounter s.link.result rfl (Nat.zero_le _) rfl
      ?_ ?_
    · rw [List.filter_append, List.length_append]; exact h.issued
    · rw [List.filter_append, List.length_append, hno]; exact Nat.le_refl _

theorem evolves_endLinkKeep {s : State} (hacts : s.actsAs .console = true) : Evolves s s.endLinkKeep :=
  (touches_endLinkKeep s).evolves_of (by decide) fun h =>
    inStep_link h _ rfl h.untaken h.unselected rfl (fun hk => by cases hk) (fun _ => rfl)
      ((s.actsAs_iff .console).1 hacts).2

end Sys2Proof.Machine
end

section
/-! ## The timed events and TICK evolve -/

namespace Sys2Proof.Machine

/-! ### Field events -/

theorem evolves_onClassAccepted (z : Nat) (s : State) : Evolves s (s.onClassAccepted z) :=
  evolves_event _ s fun _ => evolves_acceptClass _ _ s

theorem evolves_onStageExpiry (z : Nat) (s : State) : Evolves s (s.onStageExpiry z) :=
  evolves_event _ s fun _ => evolves_changeZone _ _ _ s

theorem evolves_onConfirmExpiry (z : Nat) (s : State) : Evolves s (s.onConfirmExpiry z) :=
  evolves_event _ s fun _ => evolves_changeZone _ _ _ s

theorem evolves_onStairInput (i : Nat) (k : StairInput) (s : State) : Evolves s (s.onStairInput i k) :=
  evolves_event _ s fun _ => evolves_acceptStairInput i k s

theorem evolves_onMismatchExpiry (i : Nat) (s : State) : Evolves s (s.onMismatchExpiry i) :=
  evolves_event _ s fun _ => evolves_mismatchExpired i s

theorem evolves_onHeldOpenExpiry (i : Nat) (s : State) : Evolves s (s.onHeldOpenExpiry i) :=
  evolves_event _ s fun _ => evolves_heldOpenExpired i s

theorem evolves_onCarInput (c : Nat) (i : CarInput) (s : State) : Evolves s (s.onCarInput c i) :=
  evolves_event _ s fun _ => evolves_changeCar c _ s

theorem evolves_onRecallExpiry (c : Nat) (s : State) : Evolves s (s.onRecallExpiry c) :=
  evolves_event _ s fun _ => evolves_changeCar c _ s

theorem evolves_onBusyLevel (s : State) : Evolves s s.onBusyLevel := evolves_event _ s fun _ => evolves_busyRead s

theorem evolves_onMessageExpiry (s : State) : Evolves s s.onMessageExpiry :=
  evolves_event _ s fun _ => evolves_messageExpired s

theorem evolves_onStrobeEnd (s : State) : Evolves s s.onStrobeEnd := evolves_event _ s fun _ => evolves_speaker _ s

theorem evolves_onPauseExpiry (s : State) : Evolves s s.onPauseExpiry := evolves_event _ s fun _ => evolves_speaker _ s

theorem evolves_onKeepExpiry (s : State) : Evolves s s.onKeepExpiry := evolves_event _ s fun _ => evolves_lapseAuthority s

theorem evolves_onCycleStart (s : State) : Evolves s s.onCycleStart :=
  evolves_event _ s fun _ => (evolves_cycleEnd .alert s).trans (evolves_cycleEnd .evacuate _)

theorem evolves_onPulseBoundary (k : CadenceKind) (s : State) : Evolves s (s.onPulseBoundary k) :=
  evolves_event _ s fun _ => evolves_pulseBoundary k s

theorem evolves_onStrobePulseEnd (s : State) : Evolves s s.onStrobePulseEnd :=
  evolves_event _ s fun _ => evolves_cadence s fun k => by cases k <;> exact id

theorem evolves_onStandingLapse (k : CadenceKind) (s : State) : Evolves s (s.onStandingLapse k) :=
  evolves_event _ s fun _ => evolves_standingLapsed k s

theorem evolves_onFlash (l : Lamp) (s : State) : Evolves s (s.onFlash l) :=
  (touches_onFlash l s).evolves (by cases l <;> decide)

theorem evolves_onLineDark (s : State) : Evolves s s.onLineDark := (touches_onLineDark s).evolves (by decide)

theorem evolves_onHeartbeat (s : State) : Evolves s s.onHeartbeat :=
  evolves_event _ s fun _ => (touches_heartbeat s).evolves (by decide)

theorem evolves_onSpacingOpen (s : State) : Evolves s s.onSpacingOpen :=
  evolves_event _ s fun _ => (touches_openSpacing s).evolves (by decide)

theorem evolves_onKeepPeriod (s : State) : Evolves s s.onKeepPeriod :=
  evolves_event _ s fun hd => by
    simp only [Bool.and_eq_true] at hd
    exact evolves_keepPeriod hd.1.1 hd.1.2

theorem evolves_onLinkKeepExpiry (s : State) : Evolves s s.onLinkKeepExpiry :=
  evolves_event _ s fun hd => by
    simp only [Bool.and_eq_true] at hd
    exact evolves_endLinkKeep hd.1

/-! ### Seconds and the LISTEN period -/

theorem evolves_onListenExpiry (s : State) : Evolves s s.onListenExpiry := by
  refine evolves_event _ s fun _ => ?_
  have h : Evolves s { s with station := { s.station with listenTimer := none, listenComplete := true } } := by
    refine Touches.evolves (ps := [.listen]) (.of rfl fun p => ?_) (by decide)
    cases p <;> first | exact .inl (by decide) | exact .inr rfl | exact .inr ⟨rfl, rfl⟩ | exact .inr ⟨rfl, rfl, rfl⟩ |
      exact .inr ⟨rfl, rfl, rfl, rfl⟩
  unfold State.listenExpired
  dsimp only
  split
  · rename_i hl; exact h.trans (evolves_runEntry hl)
  · exact h

theorem evolves_countSecond (s : State) : Evolves s s.countSecond := (touches_countSecond s).evolves (by decide)

theorem evolves_secondWork (s : State) : Evolves s s.secondWork := by
  refine Evolves.trans (t := s.regimeSecond.agePeers.ageDuplicate) ?_ (evolves_line id)
  exact (((touches_regimeSecond s).evolves (by decide)).trans ((touches_agePeers _).evolves (by decide))).trans
    ((touches_ageDuplicate _).evolves (by decide))

theorem evolves_onSecond (s : State) : Evolves s s.onSecond :=
  .ite (.ite (((evolves_countSecond s).trans (evolves_secondWork _)).trans (evolves_finish _ s))
    (evolves_countSecond s)) (.refl s)

theorem evolves_onPeerSilence (a : Nat) (s : State) : Evolves s (s.onPeerSilence a) :=
  evolves_event _ s fun _ => evolves_silence a s

theorem evolves_onDuplicateLimit (s : State) : Evolves s s.onDuplicateLimit :=
  evolves_event _ s fun _ => evolves_endDuplicate s

theorem evolves_endWindow (s : State) : Evolves s s.endWindow := by
  have h : Evolves s { s with line := { s.line with
      windowCount := 0, windowSeconds := 0,
      degraded := s.line.degraded && !decide (s.line.windowCount ≤ 16) } } :=
    evolves_line fun ⟨h1, h2, h3, h4, h5, h6, h7, h8, h9, _⟩ => ⟨h1, h2, h3, h4, h5, h6, h7, h8, h9, Nat.zero_le _⟩
  exact .ite (h.trans (evolves_clearFault _ _ _)) h

theorem evolves_onWindowEnd (s : State) : Evolves s s.onWindowEnd := evolves_event _ s fun _ => evolves_endWindow s

/-! ### TICK -/

theorem evolves_settleSeconds (s : State) : Evolves s s.settleSeconds := by
  refine Evolves.trans ?_ (evolves_onListenExpiry _)
  refine Evolves.trans ?_ (evolves_onWindowEnd _)
  refine Evolves.trans ?_ (evolves_onDuplicateLimit _)
  exact (evolves_onSecond s).trans (Evolves.foldl _ (fun t a => evolves_onPeerSilence a t) _ _)

theorem evolves_settleZones (s : State) : Evolves s s.settleZones :=
  .foldl _ (fun t z => ((evolves_onClassAccepted z t).trans (evolves_onStageExpiry z _)).trans
    (evolves_onConfirmExpiry z _)) _ s

theorem evolves_settleStairs (s : State) : Evolves s s.settleStairs := by
  refine .foldl _ (fun t i => ?_) _ s
  have hinputs := ((evolves_onStairInput i .door t).trans (evolves_onStairInput i .feedback _)).trans
    (evolves_onStairInput i .key _)
  exact (hinputs.trans (evolves_onMismatchExpiry i _)).trans (evolves_onHeldOpenExpiry i _)

theorem evolves_settleCars (s : State) : Evolves s s.settleCars := by
  refine .foldl _ (fun t c => ?_) _ s
  refine Evolves.trans ?_ (evolves_onRecallExpiry c _)
  refine Evolves.trans ?_ (evolves_onCarInput c .autoService _)
  refine Evolves.trans ?_ (evolves_onCarInput c .ffKey _)
  refine Evolves.trans ?_ (evolves_onCarInput c .doorsOpen _)
  exact (evolves_onCarInput c .atPrimary t).trans (evolves_onCarInput c .atAlternate _)

theorem evolves_settleSpeaker (s : State) : Evolves s s.settleSpeaker := by
  refine Evolves.trans ?_ (evolves_onKeepExpiry _)
  refine Evolves.trans ?_ (evolves_onPauseExpiry _)
  refine Evolves.trans ?_ (evolves_onStrobeEnd _)
  exact (evolves_onBusyLevel s).trans (evolves_onMessageExpiry _)

theorem evolves_settleCadences (s : State) : Evolves s s.settleCadences := by
  refine Evolves.trans ?_ (evolves_onStandingLapse .evacuate _)
  refine Evolves.trans ?_ (evolves_onStandingLapse .alert _)
  refine Evolves.trans ?_ (evolves_onStrobePulseEnd _)
  refine Evolves.trans ?_ (evolves_onPulseBoundary .evacuate _)
  exact (evolves_onCycleStart s).trans (evolves_onPulseBoundary .alert _)

theorem evolves_settleRest (s : State) : Evolves s s.settleRest := by
  refine Evolves.trans ?_ (evolves_onLinkKeepExpiry _)
  refine Evolves.trans ?_ (evolves_onKeepPeriod _)
  refine Evolves.trans ?_ (evolves_onSpacingOpen _)
  refine Evolves.trans ?_ (evolves_onHeartbeat _)
  refine Evolves.trans ?_ (evolves_onLineDark _)
  refine Evolves.trans ?_ (evolves_onFlash .haltedFault _)
  exact (evolves_onFlash .run s).trans (evolves_onFlash .alarm _)

theorem evolves_settle (s : State) : Evolves s s.settle := by
  refine Evolves.trans ?_ (evolves_settleRest _)
  refine Evolves.trans ?_ (evolves_settleCadences _)
  refine Evolves.trans ?_ (evolves_settleSpeaker _)
  refine Evolves.trans ?_ (evolves_settleCars _)
  refine Evolves.trans ?_ (evolves_settleStairs _)
  exact (evolves_settleSeconds s).trans (evolves_settleZones _)

theorem Timer.isSome_tick (t : Timer) : t.tick.isSome = t.isSome := by cases t <;> rfl

theorem inStep_runTimers {s : State} (h : s.InStep) : s.runTimers.InStep :=
  { h with
    period := (Timer.isSome_tick _).trans h.period
    alive := fun hk => (Timer.isSome_tick _).trans (h.alive hk)
    linkRole := fun hr => by
      obtain ⟨hl, hf⟩ := h.linkRole hr
      exact ⟨by simp only [State.runTimers, hl]; rfl, hf⟩ }

theorem evolves_tickEvent (pins : Inputs) (s : State) : Evolves s (s.tickEvent pins) := by
  refine (touches_tickEvent pins s).evolves_of (by decide) fun h => ?_
  have h1 : State.InStep { s with pins := pins, time := s.time.tickEvent, lamps := s.lamps.tick } :=
    h.congr rfl rfl rfl rfl rfl (fun _ => id) id
  unfold State.tickEvent
  dsimp only
  split
  · refine (evolves_tickCadence _).inStep ?_
    refine ((touches_sampleCars _).evolves (by decide)).inStep ?_
    refine ((touches_sampleStairs _).evolves (by decide)).inStep ?_
    exact ((touches_sampleZones _).evolves (by decide)).inStep (inStep_runTimers h1)
  · exact h1

end Sys2Proof.Machine
end

section
/-! ## What each command answers, and the parts it touches -/

namespace Sys2Proof.Machine

/-- Every command answers a next state (log 30). -/
theorem exec_eq_after (c : Instr) (s : State) : exec c s = .next (s.after c) := by
  cases c <;> rfl

/-- The samples decide what a line command does, not its name (log 9). -/
theorem after_samples {c : Instr} {line : Samples} (h : c.samples = some line) (s : State) :
    s.after c = s.hear State.handOn line := by
  cases c with
  | frameDiscard l => cases h; rfl
  | syncMismatch l => cases h; rfl
  | statusFloor l => cases h; exact congrArg (fun hand => s.hear hand line) handStatusFloor_eq
  | statusLift l => cases h; exact congrArg (fun hand => s.hear hand line) handStatusLift_eq
  | statusConsole l => cases h; exact congrArg (fun hand => s.hear hand line) handStatusConsole_eq
  | general l => cases h; exact congrArg (fun hand => s.hear hand line) handGeneral_eq
  | hold l => cases h; exact congrArg (fun hand => s.hear hand line) handHold_eq
  | resume l => cases h; exact congrArg (fun hand => s.hear hand line) handResume_eq
  | silence l => cases h; exact congrArg (fun hand => s.hear hand line) handSilence_eq
  | resound l => cases h; exact congrArg (fun hand => s.hear hand line) handResound_eq
  | allClear l => cases h; exact congrArg (fun hand => s.hear hand line) handAllClear_eq
  | zoneDisable l => cases h; exact congrArg (fun hand => s.hear hand line) handZoneDisable_eq
  | zoneEnable l => cases h; exact congrArg (fun hand => s.hear hand line) handZoneEnable_eq
  | take l => cases h; exact congrArg (fun hand => s.hear hand line) handTake_eq
  | keep l => cases h; exact congrArg (fun hand => s.hear hand line) handKeep_eq
  | give l => cases h; exact congrArg (fun hand => s.hear hand line) handGive_eq
  | testAnnounce l => cases h; exact congrArg (fun hand => s.hear hand line) handTestAnnounce_eq
  | liftRestore l => cases h; exact congrArg (fun hand => s.hear hand line) handLiftRestore_eq
  | mark l => cases h; exact congrArg (fun hand => s.hear hand line) handMark_eq
  | unknownCommandKind l => cases h; exact congrArg (fun hand => s.hear hand line) handUnknownCommandKind_eq
  | _ => cases h

/-- An ISSUE command is the request for its ISSUE. -/
theorem after_asks {c : Instr} {i : Issue} (h : c.asks = some i) (s : State) : s.after c = s.issueRequest i := by
  cases c with
  | issueBadKind kind =>
    simp only [Instr.asks] at h
    split at h
    · rename_i hk; cases h; exact if_pos hk
    · cases h
  | _ => cases h <;> rfl

/-- A line command, and no other, touches what the receiver may bring a station to change. -/
theorem touches_of_samples {c : Instr} {line : Samples} (h : c.samples = some line) : c.touches = Part.reception := by
  cases c <;> cases h <;> rfl

theorem touches_of_asks {c : Instr} {i : Issue} (h : c.asks = some i) :
    c.touches = [.link, .fifo] ++ Part.reactions := by
  cases c with
  | issueBadKind kind => rfl
  | _ => cases h <;> rfl

theorem touches_transmit (s : State) : Touches ([.tx, .fifo, .markSlots, .snapshot] ++ Part.activation) s s.transmit :=
  .ite ((touches_tryStart 3 s).andThen (touches_finish _ s) (by decide) (by decide)) (.refl _ s)

theorem touches_frameStart (quiet : Nat) (bitClock : Fin 160) (s : State) :
    Touches (Instr.frameStart quiet bitClock).touches s (s.after (.frameStart quiet bitClock)) := by
  have hhear : Touches (Instr.frameStart quiet bitClock).touches s (s.hear State.handOn ⟨quiet, [], 0⟩) :=
    (touches_hear touches_handOn _ s).mono (List.subset_append_right _ _)
  have hsend (t : State) : Touches ([.time, .tx, .fifo, .markSlots, .snapshot] ++ Part.reception) t
      (State.transmit { t with time := { t.time with bitClocks := bitClock } }) :=
    (touches_bitClocks bitClock t).andThen (touches_transmit _) (by decide) (by decide)
  exact .ite (hhear.trans (hsend _)) hhear

theorem touches_deferral (bit : Fin 2) (s : State) : Touches (Instr.defer bit).touches s (s.after (.defer bit)) := by
  show Touches ([.tx, .fifo, .markSlots, .snapshot] ++ Part.reception) s (match s.tx with
    | .sending slot _ =>
      if s.acts then ((s.defer slot).finish s).hear State.handOn { quiet := bit.val, bits := [false], sinceSync := 0 }
      else s
    | _ => s)
  split
  · rename_i slot _ _
    refine .ite ?_ (.refl _ s)
    exact ((touches_defer slot s).andThen (touches_finish _ s) (by decide) (by decide)).trans
      ((touches_hear touches_handOn _ _).mono (List.subset_append_right _ _))
  · exact .refl _ s

theorem touches_collision (bit : Nat) (s : State) : Touches (Instr.collision bit).touches s (s.after (.collision bit)) := by
  show Touches ([.tx, .line, .fifo, .markSlots, .snapshot, .spacing, .link] ++ Part.reactions) s (match s.tx with
    | .sending slot f => s.event (s.acts && decide (2 ≤ bit) && decide (bit < f.lineBits.length)) (State.collide slot f)
    | _ => s)
  split
  · exact touches_event_quiet _ s (touches_collide _ _ s) (by decide) (by decide) (by decide)
      (by decide) (List.subset_append_right _ _)
  · exact .refl _ s

theorem touches_completion (s : State) : Touches Part.completion s (s.after .frameComplete) := by
  show Touches Part.completion s (match s.tx with
    | .sending slot f => s.event s.acts (State.complete slot f)
    | _ => s)
  split
  · exact touches_event _ s (touches_complete _ _ s) (by decide) (by decide)
  · exact .refl _ s

theorem touches_configLoad (record : Tab Byte 64) (pins : Inputs) (s : State) :
    Touches (Instr.configLoadComplete record pins).touches s (s.after (.configLoadComplete record pins)) := by
  show Touches ([.identity, .lifecycle, .listen, .holdOff, .image, .pins, .zones, .runLamp] ++ Part.reactions) s
    (match s.station.lifecycle, s.station.role with
      | .load, some r => ((s.load r record).listenEntry pins).finish s
      | _, _ => s)
  split
  · have h := ((touches_load ‹_› record s).andThen (touches_listenEntry pins _)
      (rs := [.identity, .lifecycle, .listen, .holdOff, .image, .pins, .zones, .runLamp] ++ Part.reactions)
      (by decide) (by decide))
    exact h.trans ((touches_finish_quiet _ s (becameActive_same (h.active_eq (by decide) (by decide))
      (h.generation_eq (by decide)))).mono (by decide))
  · exact .refl _ s

/-- The frame of every command. -/
theorem touches_after (c : Instr) (s : State) : Touches c.touches s (s.after c) := by
  cases hline : c.samples with
  | some line =>
    rw [touches_of_samples hline, after_samples hline]
    exact touches_hear touches_handOn line s
  | none =>
    cases hasks : c.asks with
    | some i =>
      rw [touches_of_asks hasks, after_asks hasks]
      exact touches_issueRequest i s
    | none =>
      cases c with
      | reset => exact ⟨rfl, fun p hp => absurd (show p ∈ Part.all by cases p <;> decide) hp⟩
      | resetRelease straps => exact .ite (touches_releaseReset _ s) (.refl _ s)
      | configLoadComplete record pins => exact touches_configLoad record pins s
      | listenPeriodExpiry => exact touches_onListenExpiry s
      | tick pins => exact .ite (.refl _ s) ((touches_settle s).trans ((touches_tickEvent pins _).mono (by decide)))
      | second => exact touches_onSecond s
      | peerSilence a => exact touches_onPeerSilence a s
      | duplicateAgeLimit => exact touches_onDuplicateLimit s
      | lineWindowEnd => exact touches_onWindowEnd s
      | frameStart quiet bitClock => exact touches_frameStart quiet bitClock s
      | defer bit => exact touches_deferral bit s
      | collision bit => exact touches_collision bit s
      | jamEnd =>
        exact touches_event_quiet _ s (touches_release s) (by decide) (by decide) (by decide) (by decide)
          (List.subset_append_right _ _)
      | frameComplete => exact touches_completion s
      | heartbeatTimerExpiry => exact touches_onHeartbeat s
      | spacingTimerOpen => exact touches_onSpacingOpen s
      | loopClassAccepted z => exact touches_onClassAccepted z s
      | stageTimerExpiry z => exact touches_onStageExpiry z s
      | confirmWindowExpiry z => exact touches_onConfirmExpiry z s
      | stairInputChange i k => exact touches_onStairInput i k s
      | mismatchTimerExpiry i => exact touches_onMismatchExpiry i s
      | heldOpenTimerExpiry i => exact touches_onHeldOpenExpiry i s
      | carInputChange n i => exact touches_onCarInput n i s
      | recallTimerExpiry n => exact touches_onRecallExpiry n s
      | busyLevel => exact touches_onBusyLevel s
      | messageTimerExpiry => exact touches_onMessageExpiry s
      | messageStrobeEnd => exact touches_onStrobeEnd s
      | pauseExpiry => exact touches_onPauseExpiry s
      | keepTimerExpiry => exact touches_onKeepExpiry s
      | cadenceCycleStart => exact touches_onCycleStart s
      | cadencePulseBoundary k => exact touches_onPulseBoundary k s
      | strobePulseEnd => exact touches_onStrobePulseEnd s
      | standingLapse k => exact touches_onStandingLapse k s
      | indicatorFlash l => exact touches_onFlash l s
      | lineLitExpiry => exact touches_onLineDark s
      | readEntry f => exact touches_answer _ _ s
      | readBank b => exact touches_answer _ _ s
      | readRegime => exact touches_answer _ _ s
      | readFaults => exact touches_answer _ _ s
      | readCounters => exact touches_answer _ _ s
      | readResult => exact touches_answer _ _ s
      | readConsole n => exact touches_answer _ _ s
      | linkKeep =>
        exact touches_request _ _ _ s touches_restartLinkKeep (by decide) (by decide) (by decide) (by decide) (by decide)
          (List.subset_cons_self _ _)
      | unknownRequest code => exact .ite (touches_answer _ _ s) (.refl _ s)
      | linkSelectInactive => exact .ite (touches_link _ s) (.refl _ s)
      | issueBadKind kind =>
        have hk : isBadKind kind = false := by simpa [Instr.asks] using hasks
        have hsame : s.after (.issueBadKind kind) = s := if_neg (by simp [hk])
        rw [hsame]
        exact .refl _ s
      | keepPeriodExpiry => exact touches_onKeepPeriod s
      | linkKeepExpiry => exact touches_onLinkKeepExpiry s
      | linkSelectActive clocked => exact .ite (touches_link _ s) (.refl _ s)
      | _ => first | (cases hasks; done) | (cases hline; done)

/-- Settles O2: each command's own frame, and the reactions' where it is an event. -/
theorem everyCommandCompletesWithinItsParts : Obligations.EveryCommandCompletesWithinItsParts := fun c s =>
  ⟨s.after c, exec_eq_after c s, (touches_after c s).pending_eq, fun p hp => (touches_after c s).2 p hp⟩

end Sys2Proof.Machine
end

section
/-! ## The start-up: the release of reset, the end of LOAD, the entry to LISTEN -/

namespace Sys2Proof.Machine

theorem foldl_raise (k : FaultKind) (subjects : List Nat) (s : State) :
    subjects.foldl (fun t n => t.raise k n) s
      = { s with faults := subjects.foldl (fun l n => l.raise k n s.time.second) s.faults } := by
  induction subjects generalizing s with
  | nil => rfl
  | cons n rest ih => exact ih (s.raise k n)

/-- The end of LOAD with a record that fails check `n` (R7). -/
theorem load_of_failed {r : Role} {record : Tab Byte 64} {n : Nat} (h : failedCheck r record = some n) (s : State) :
    s.load r record = { s with
      image := Image.defaults,
      station := { s.station with loadStatus := .defaulted, digest := Image.defaults.digest },
      faults := s.faults.raise .configDefaulted n s.time.second } := by
  unfold State.load
  rw [h]
  rfl

/-- The end of LOAD with a record that passes (R8, R9). -/
theorem load_of_passed {r : Role} {record : Tab Byte 64} (h : failedCheck r record = none) (s : State) :
    s.load r record = { s with
      image := (clampRecord record).value,
      station := { s.station with loadStatus := .loaded, digest := (clampRecord record).value.digest },
      faults := (clampRecord record).faults.foldl (fun l n => l.raise .configClamped n s.time.second) s.faults } := by
  unfold State.load
  rw [h]
  exact foldl_raise _ _ _

/-- LOAD fixes load status and digest; the rest of the station stands. -/
theorem load_station (r : Role) (record : Tab Byte 64) (s : State) :
    (s.load r record).station = { s.station with
      loadStatus := (s.load r record).station.loadStatus, digest := (s.load r record).station.digest } := by
  cases h : failedCheck r record with
  | some n => rw [load_of_failed h]
  | none => rw [load_of_passed h]

/-- The station in LISTEN before the inputs of stairs and cars are sampled. -/
def State.listening (pins : Inputs) (s : State) : State :=
  { s.takeImage with
    pins := pins,
    station := { s.station with lifecycle := .listen, listenTimer := Timer.start s.image.listenTicks,
                                listenComplete := false, takeHoldOff := takeHoldOffTicks },
    lamps := { s.lamps with runLit := true, runFlash := Timer.start 50 } }

theorem listenEntry_eq (pins : Inputs) (s : State) :
    s.listenEntry pins = (s.listening pins).stairsAtListen.carsAtListen := rfl

theorem touches_sampledAtListen (pins : Inputs) (s : State) :
    Touches [.stairs, .cars, .faults] (s.listening pins) (s.listenEntry pins) :=
  (touches_stairsAtListen _).andThen (touches_carsAtListen _) (by decide) (by decide)

/-- The parts that the end of LOAD sets itself. -/
def Part.atListen : List Part :=
  [.image, .identity, .faults, .lifecycle, .listen, .holdOff, .pins, .zones, .stairs, .cars, .runLamp]

theorem touches_loadEnd (r : Role) (record : Tab Byte 64) (pins : Inputs) (s : State) :
    Touches Part.atListen s ((s.load r record).listenEntry pins) :=
  (touches_load r record s).andThen (touches_listenEntry pins _) (by decide) (by decide)

theorem role_loadEnd (r : Role) (record : Tab Byte 64) (pins : Inputs) (s : State) :
    ((s.load r record).listenEntry pins).station.role = s.station.role := by
  have hload : (s.load r record).station.role = s.station.role := by rw [load_station]
  exact ((touches_sampledAtListen pins _).role_eq (by decide)).trans hload

/-- CONFIG_LOAD_COMPLETE at a station in LOAD. -/
theorem after_configLoad {s : State} {r : Role} (hl : s.station.lifecycle = .load) (hr : s.station.role = some r)
    (record : Tab Byte 64) (pins : Inputs) :
    s.after (.configLoadComplete record pins) = ((s.load r record).listenEntry pins).finish s := by
  show (match s.station.lifecycle, s.station.role with
      | .load, some r => ((s.load r record).listenEntry pins).finish s
      | _, _ => s) = _
  rw [hl, hr]

/-- CONFIG_LOAD_COMPLETE at any other station. -/
theorem after_configLoad_of_not {s : State} (h : s.station.lifecycle = .load → s.station.role = none)
    (record : Tab Byte 64) (pins : Inputs) : s.after (.configLoadComplete record pins) = s := by
  show (match s.station.lifecycle, s.station.role with
      | .load, some r => ((s.load r record).listenEntry pins).finish s
      | _, _ => s) = _
  split
  · rename_i hl hr; rw [h hl] at hr; cases hr
  · rfl

/-- RESET_RELEASE at a station in RESET, and at any other. -/
theorem after_resetRelease {s : State} (h : s.station.lifecycle = .reset) (straps : BitVec 6) :
    s.after (.resetRelease straps) = s.releaseReset straps.toNat := if_pos h

theorem after_resetRelease_of_not {s : State} (h : s.station.lifecycle ≠ .reset) (straps : BitVec 6) :
    s.after (.resetRelease straps) = s := if_neg h

/-- A step takes the front command, with the queue's rest waiting, or finds none and leaves the state. -/
theorem step_next_iff (s t : State) :
    step s = .next t ↔ s.pending = [] ∧ t = s
      ∨ ∃ c rest, s.pending = c :: rest ∧ t = State.after { s with pending := rest } c := by
  unfold step
  split
  · rename_i h
    simp [h, eq_comm]
  · rename_i c rest h
    simp [h, exec_eq_after, eq_comm]

end Sys2Proof.Machine
end

section
/-! ## Every step keeps the laws of the slots and of the link -/

namespace Sys2Proof.Machine

/-- The commands that begin or end the start-up: they set address, role or image. -/
def startsUp : Instr → Bool
  | .reset | .resetRelease _ | .configLoadComplete _ _ => true
  | _ => false

/-- What every command but those of the start-up keeps, the epochs being such as an ISSUE can carry (R104). -/
structure Steps (s t : State) : Prop extends Carries s t where
  inStep : s.InStep → s.regime.hold ≤ 255 → s.regime.silence ≤ 255 → t.InStep

theorem Evolves.steps {s t : State} (h : Evolves s t) : Steps s t := ⟨h.toCarries, fun hs _ _ => h.inStep hs⟩

theorem evolves_execFrameStart (quiet : Nat) (bitClock : Fin 160) (s : State) :
    Evolves s (s.after (.frameStart quiet bitClock)) := by
  have hsend (t : State) : Evolves t (State.transmit { t with time := { t.time with bitClocks := bitClock } }) :=
    ((touches_bitClocks bitClock t).evolves (by decide)).trans (evolves_transmit _)
  exact .ite ((evolves_hear _ s).trans (hsend _)) (evolves_hear _ s)

theorem evolves_execDefer (bit : Fin 2) (s : State) : Evolves s (s.after (.defer bit)) := by
  show Evolves s (match s.tx with
    | .sending slot _ =>
      if s.acts then ((s.defer slot).finish s).hear State.handOn { quiet := bit.val, bits := [false], sinceSync := 0 }
      else s
    | _ => s)
  split
  · rename_i slot _ htx
    have hslot : s.tx.slot = some slot := by rw [htx]; rfl
    exact .ite (((evolves_defer hslot).trans (evolves_finish _ s)).trans (evolves_hear _ _)) (.refl s)
  · exact .refl s

theorem evolves_execCollision (bit : Nat) (s : State) : Evolves s (s.after (.collision bit)) := by
  show Evolves s (match s.tx with
    | .sending slot f => s.event (s.acts && decide (2 ≤ bit) && decide (bit < f.lineBits.length)) (State.collide slot f)
    | _ => s)
  split
  · rename_i slot _ htx
    exact evolves_event _ s fun _ => evolves_collide (by rw [htx]; rfl)
  · exact .refl s

theorem evolves_execFrameComplete (s : State) : Evolves s (s.after .frameComplete) := by
  show Evolves s (match s.tx with
    | .sending slot f => s.event s.acts (State.complete slot f)
    | _ => s)
  split
  · rename_i slot _ htx
    exact evolves_event _ s fun _ => evolves_complete (by rw [htx]; rfl)
  · exact .refl s

theorem evolves_execJamEnd (s : State) : Evolves s (s.after .jamEnd) :=
  evolves_event _ s fun hdue => evolves_release (by
    cases htx : s.tx <;> simp_all [Transmitter.slot])

theorem evolves_selectActive (clocked : List Byte) (s : State) : Evolves s (s.after (.linkSelectActive clocked)) := by
  have ht : Touches [.link] s (s.after (.linkSelectActive clocked)) := touches_after (.linkSelectActive clocked) s
  refine ht.evolves_of (by decide) fun h => ?_
  show State.InStep (if s.actsAs .console ∧ ¬ s.link.selected ∧ partialRequest clocked then _ else s)
  split
  · rename_i hc
    obtain ⟨hacts, -, hpartial⟩ := hc
    exact inStep_link h _ rfl (fun _ => ⟨hpartial, rfl⟩) (fun hs => by cases hs) h.period h.alive h.keeping_of_not_run
      ((s.actsAs_iff .console).1 hacts).2
  · exact h

theorem evolves_selectInactive (s : State) : Evolves s (s.after .linkSelectInactive) := by
  refine ((touches_after .linkSelectInactive s).evolves_of (by decide) fun h => ?_)
  show State.InStep (if s.actsAs .console then _ else s)
  split
  · rename_i hacts
    exact inStep_link h _ rfl (fun _ => ⟨rfl, rfl⟩) (fun _ => ⟨rfl, rfl⟩) h.period h.alive h.keeping_of_not_run
      ((s.actsAs_iff .console).1 hacts).2
  · exact h

theorem steps_linkKeep (s : State) : Steps s (s.after .linkKeep) :=
  ⟨carries_request [byte 8] (fun _ => [byte 8]) s fun t => (touches_restartLinkKeep t).carries (by decide),
    fun h _ _ => inStep_linkKeep h [byte 8] (fun _ => [byte 8])⟩

/-- Every command but those of the start-up. -/
theorem steps_after {c : Instr} (hc : startsUp c = false) (s : State) : Steps s (s.after c) := by
  cases hline : c.samples with
  | some line => rw [after_samples hline]; exact (evolves_hear line s).steps
  | none =>
    cases hasks : c.asks with
    | some i => rw [after_asks hasks]; exact ⟨carries_issueRequest i s, inStep_issueRequest i⟩
    | none =>
      cases c with
      | reset => cases hc
      | resetRelease straps => cases hc
      | configLoadComplete record pins => cases hc
      | listenPeriodExpiry => exact (evolves_onListenExpiry s).steps
      | tick pins => exact (Evolves.ite (.refl s) ((evolves_settle s).trans (evolves_tickEvent pins _))).steps
      | second => exact (evolves_onSecond s).steps
      | peerSilence a => exact (evolves_onPeerSilence a s).steps
      | duplicateAgeLimit => exact (evolves_onDuplicateLimit s).steps
      | lineWindowEnd => exact (evolves_onWindowEnd s).steps
      | frameStart quiet bitClock => exact (evolves_execFrameStart quiet bitClock s).steps
      | defer bit => exact (evolves_execDefer bit s).steps
      | collision bit => exact (evolves_execCollision bit s).steps
      | jamEnd => exact (evolves_execJamEnd s).steps
      | frameComplete => exact (evolves_execFrameComplete s).steps
      | heartbeatTimerExpiry => exact (evolves_onHeartbeat s).steps
      | spacingTimerOpen => exact (evolves_onSpacingOpen s).steps
      | loopClassAccepted z => exact (evolves_onClassAccepted z s).steps
      | stageTimerExpiry z => exact (evolves_onStageExpiry z s).steps
      | confirmWindowExpiry z => exact (evolves_onConfirmExpiry z s).steps
      | stairInputChange i k => exact (evolves_onStairInput i k s).steps
      | mismatchTimerExpiry i => exact (evolves_onMismatchExpiry i s).steps
      | heldOpenTimerExpiry i => exact (evolves_onHeldOpenExpiry i s).steps
      | carInputChange n i => exact (evolves_onCarInput n i s).steps
      | recallTimerExpiry n => exact (evolves_onRecallExpiry n s).steps
      | busyLevel => exact (evolves_onBusyLevel s).steps
      | messageTimerExpiry => exact (evolves_onMessageExpiry s).steps
      | messageStrobeEnd => exact (evolves_onStrobeEnd s).steps
      | pauseExpiry => exact (evolves_onPauseExpiry s).steps
      | keepTimerExpiry => exact (evolves_onKeepExpiry s).steps
      | cadenceCycleStart => exact (evolves_onCycleStart s).steps
      | cadencePulseBoundary k => exact (evolves_onPulseBoundary k s).steps
      | strobePulseEnd => exact (evolves_onStrobePulseEnd s).steps
      | standingLapse k => exact (evolves_onStandingLapse k s).steps
      | indicatorFlash l => exact (evolves_onFlash l s).steps
      | lineLitExpiry => exact (evolves_onLineDark s).steps
      | readEntry f =>
        exact (evolves_answer [byte 1, f] (fun t =>
          if f.toNat ≤ 47 then (t.floorEntry f.toNat).response f.toNat else refusedRead 15) s).steps
      | readBank b =>
        exact (evolves_answer [byte 2, b] (fun t =>
          if b.toNat ≤ 1 then (t.bankEntry b.toNat).response b.toNat else refusedRead 12) s).steps
      | readRegime => exact (evolves_answer _ _ s).steps
      | readFaults => exact (evolves_answer _ _ s).steps
      | readCounters => exact (evolves_answer _ _ s).steps
      | readResult => exact (evolves_answer _ _ s).steps
      | readConsole n =>
        exact (evolves_answer [byte 9, n] (fun t =>
          if n.toNat ≤ 3 then (t.consoleEntry n.toNat).response n.toNat else refusedRead 8) s).steps
      | linkKeep => exact steps_linkKeep s
      | unknownRequest code => exact (Evolves.ite (evolves_answer _ _ s) (.refl s)).steps
      | linkSelectInactive => exact (evolves_selectInactive s).steps
      | linkSelectActive clocked => exact (evolves_selectActive clocked s).steps
      | issueBadKind kind =>
        have hk : isBadKind kind = false := by simpa [Instr.asks] using hasks
        have hsame : s.after (.issueBadKind kind) = s := if_neg (by simp [hk])
        rw [hsame]
        exact (Evolves.refl s).steps
      | keepPeriodExpiry => exact (evolves_onKeepPeriod s).steps
      | linkKeepExpiry => exact (evolves_onLinkKeepExpiry s).steps
      | _ => first | (cases hasks; done) | (cases hline; done)

/-! ### The start-up -/

theorem inStep_reset (q : List Instr) : State.InStep { State.reset with pending := q } :=
  (State.inStep_iff _).2 ⟨(by decide : State.reset.slotsLaw), (by decide : State.reset.linkLaw)⟩

/-- A station that does not act has its link as after pin reset, and its slots empty (R10). -/
theorem State.dormantLaw.link_eq {s : State} (h : s.dormantLaw) (ha : s.acts = false) :
    s.link = Link.atReset ∧ s.slots = Slots.empty := by
  rw [h ha]
  exact ⟨(touches_loopback _).link_eq (by decide), (touches_loopback _).slots_eq (by decide) (by decide) (by decide)⟩

theorem loopback_pending (q : List Instr) (s : State) :
    { s.loopback with pending := q } = State.loopback { s with pending := q } := by
  unfold State.loopback
  dsimp only
  cases s.station.role with
  | none => rfl
  | some r => cases r <;> rfl

/-- The law of a station that does not act does not read the queue. -/
theorem State.dormantLaw.withPending {s : State} (h : s.dormantLaw) (q : List Instr) :
    State.dormantLaw { s with pending := q } := fun ha =>
  (congrArg (fun t => { t with pending := q }) (h ha)).trans (loopback_pending q _)

theorem inStep_releaseReset (a : Nat) {s : State} (h : s.InStep) (hd : s.dormantLaw)
    (hl : s.station.lifecycle = .reset) : (s.releaseReset a).InStep := by
  obtain ⟨hlink, hslots⟩ := hd.link_eq (by simp [State.acts, hl])
  have hfifo : s.slots.fifo = [] := by rw [hslots]; rfl
  have hout := h.outside (by simp [hl])
  unfold State.releaseReset
  split
  · refine (touches_loopback _).inStep (by decide) ?_
    exact { h with outside := fun _ => hout, linkRole := fun _ => ⟨hlink, hfifo⟩ }
  · exact { h with outside := fun _ => hout, linkRole := fun _ => ⟨hlink, hfifo⟩ }

theorem inStep_configLoad (record : Tab Byte 64) (pins : Inputs) {s : State} (h : s.InStep) :
    (s.after (.configLoadComplete record pins)).InStep := by
  by_cases hs : s.station.lifecycle = .load → s.station.role = none
  · rwa [after_configLoad_of_not hs]
  · obtain ⟨hl, hr⟩ := Classical.not_imp.1 hs
    obtain ⟨r, hr⟩ := Option.ne_none_iff_exists'.1 hr
    rw [after_configLoad hl hr]
    have ht := touches_loadEnd r record pins s
    have hcadence := ht.cadence_eq (by decide)
    refine (evolves_finish _ s).inStep (h.congr (ht.slots_eq (by decide) (by decide) (by decide)) (ht.tx_eq (by decide))
      (ht.snapshot_eq (by decide)) (ht.link_eq (by decide)) (role_loadEnd r record pins s) ?_ ?_)
    · rw [hcadence]; exact fun _ => id
    · rw [hl]; exact fun _ => nofun

/-- Every command keeps the laws of the slots and of the link of a lawful state. -/
theorem inStep_after (c : Instr) {s : State} (h : s.InStep) (hd : s.dormantLaw) (hhold : s.regime.hold ≤ 255)
    (hsilence : s.regime.silence ≤ 255) : (s.after c).InStep := by
  cases hc : startsUp c with
  | false => exact (steps_after hc s).inStep h hhold hsilence
  | true =>
    cases c with
    | reset => exact inStep_reset s.pending
    | resetRelease straps =>
      by_cases hl : s.station.lifecycle = .reset
      · rw [after_resetRelease hl]; exact inStep_releaseReset _ h hd hl
      · rwa [after_resetRelease_of_not hl]
    | configLoadComplete record pins => exact inStep_configLoad record pins h
    | _ => cases hc

/-- Settles O53: an invariant of every operation, which `Evolves` carries through each event. -/
theorem slotsAndLinkStayInStep : Obligations.SlotsAndLinkStayInStep := by
  intro s t hs hstep
  obtain ⟨hdormant, -, -, hslots, hlink, -, hregime, -⟩ := hs
  have h := (State.inStep_iff s).2 ⟨hslots, hlink⟩
  refine (State.inStep_iff t).1 ?_
  obtain ⟨-, rfl⟩ | ⟨c, rest, -, rfl⟩ := (step_next_iff s t).1 hstep
  · exact h
  · obtain ⟨-, -, -, -, -, -, -, -, hhold, hsilence⟩ := hregime
    exact inStep_after c (s := { s with pending := rest }) { h with } (hdormant.withPending rest) hhold hsilence

end Sys2Proof.Machine
end

section
/-! ## Reset and its release -/

namespace Sys2Proof.Machine

/-! ### The state after pin reset -/

theorem reset_zone (z : Nat) : State.reset.zone z = Zone.atReset .unused := Tab.at_fill z _
theorem reset_stair (i : Nat) : State.reset.stair i = Stair.atReset false 0 := Tab.at_fill i _
theorem reset_car (c : Nat) : State.reset.car c = Car.atReset false := Tab.at_fill c _
theorem reset_phaseOf (f : Nat) : State.reset.phaseOf f = .quiet := Tab.at_fill f _
theorem reset_floorEntry (f : Nat) : State.reset.floorEntry f = FloorEntry.atReset := Tab.at_fill f _

theorem reset_base (a : Nat) : State.reset.peers.base a = PeerBase.atReset := by
  unfold Peers.base
  split
  · exact congrArg FloorEntry.base (Tab.at_fill a _)
  · split
    · exact congrArg BankEntry.base (Tab.at_fill _ _)
    · exact congrArg ConsoleEntry.base (Tab.at_fill _ _)

/-- A quiet view with no origin meets the regime's law. -/
theorem regimeLaw_of_atReset {s : State} (h : s.regime = Regime.atReset) : s.regimeLaw := by
  have hquiet (f : Nat) : s.phaseOf f = .quiet := by unfold State.phaseOf; rw [h]; exact Tab.at_fill f _
  have hinactive : s.regime.active ≠ true := by rw [h]; decide
  have hgeneral : s.regime.general ≠ true := by rw [h]; decide
  have horigins : s.regime.origins = [] := by rw [h]; rfl
  refine ⟨by simp [horigins], by simp [Regime.originFloors, horigins], by simp [horigins], fun _ _ _ ha => absurd ha hinactive,
    fun _ _ _ hg => absurd hg hgeneral, fun _ _ _ ha => absurd ha hinactive, fun f _ _ => hquiet f, ?_, ?_, ?_⟩
  all_goals rw [h]; decide

/-- What does not act has its field blocks bound by no law but the width of a count. -/
theorem fieldLaw_of_dormant {s : State} (h : s.acts = false) (hcount : s.restoreRefused ≤ 255) : s.fieldLaw :=
  ⟨hcount, fun hacts => absurd hacts (by simp [h])⟩

theorem reset_lawful : State.reset.lawful := by
  refine ⟨fun _ => rfl, ?_, ?_, ?_, ?_, ?_, regimeLaw_of_atReset rfl, fieldLaw_of_dormant rfl (by decide), ?_, ?_⟩
    <;> decide +kernel

/-- The queue is no part of a law. -/
theorem reset_lawful_withPending (q : List Instr) : State.lawful { State.reset with pending := q } := by
  obtain ⟨-, hrest⟩ := reset_lawful
  exact ⟨fun _ => rfl, hrest⟩

/-- Settles O3: but for its queue the state after RESET is a constant. -/
theorem resetReturnsEveryBlock : Obligations.ResetReturnsEveryBlock := by
  intro s
  refine ⟨_, rfl, rfl, rfl, rfl, rfl, rfl, rfl, rfl, rfl, rfl, rfl, rfl, rfl, rfl, rfl, rfl, rfl, fun z _ => ?zone,
    fun a _ => reset_base a, fun f _ => ?floor, rfl, rfl, rfl, rfl, rfl, rfl, rfl, fun f _ => reset_phaseOf f,
    fun i _ => ?stair, fun c _ => ?car, rfl, rfl, rfl, rfl, rfl, rfl, rfl, rfl, rfl, rfl, rfl, rfl, rfl, rfl, rfl, rfl,
    rfl, rfl, rfl, reset_lawful, reset_lawful_withPending s.pending⟩
  case zone =>
    have h : State.zone { State.reset with pending := s.pending } z = Zone.atReset .unused := reset_zone z
    simp only [h]
    decide
  case floor =>
    have h : State.floorEntry { State.reset with pending := s.pending } f = FloorEntry.atReset := reset_floorEntry f
    simp only [h]
    decide
  case stair =>
    have h : State.stair { State.reset with pending := s.pending } i = Stair.atReset false 0 := reset_stair i
    simp only [h]
    decide
  case car =>
    have h : State.car { State.reset with pending := s.pending } c = Car.atReset false := reset_car c
    simp only [h]
    decide

/-! ### RESET that leaves an address -/

/-- A station in RESET that still has an address and a role: no law says which a station in RESET has. -/
def roleInReset : State :=
  State.loopback { State.reset with
    pending := [.resetRelease 6#6],
    station := { Station.atReset with role := some .floor, address := 5 } }

theorem roleInReset_lawful : roleInReset.lawful := by
  refine ⟨fun _ => rfl, ?_, ?_, ?_, ?_, ?_, regimeLaw_of_atReset rfl, fieldLaw_of_dormant rfl (by decide), ?_, ?_⟩
    <;> decide +kernel

/-- The state that the step leaves, released at address 6. -/
def releasedOnSix : State := State.after { roleInReset with pending := [] } (.resetRelease 6#6)

theorem step_roleInReset : step roleInReset = .next releasedOnSix :=
  exec_eq_after (.resetRelease 6#6) { roleInReset with pending := [] }

/-- Refutes O52: released onto another address, the entry of the address held in RESET stays LIVE. -/
theorem not_dormantBlocksAndCountsStayInBounds : ¬ Obligations.DormantBlocksAndCountsStayInBounds := by
  intro h
  obtain ⟨hdormant, -⟩ := h.1 _ _ roleInReset_lawful step_roleInReset
  have hbase := congrArg (fun t => (t.peers.base 5).presence) (hdormant (by decide +kernel))
  exact absurd hbase (by decide +kernel)

end Sys2Proof.Machine
end

section
/-! ## The release of reset (R4 to R6) -/

namespace Sys2Proof.Machine

/-! ### The own entry (R75) -/

/-- The common fields of the own entry, at every role. -/
theorem loopback_base_own {s : State} {r : Role} (hr : s.station.role = some r) (ha : roleOf s.station.address = some r) :
    s.loopback.peers.base s.station.address = s.ownBase (s.peers.base s.station.address) := by
  unfold State.loopback
  rw [hr]
  cases r with
  | floor =>
    have h := roleOf_floor.1 ha
    simp [Peers.base, Peers.updFloor, State.ownFloor, h, Tab.at_upd_self _ _ _ _ h]
  | lift =>
    have h := roleOf_lift.1 ha
    have h48 : ¬ s.station.address < 48 := by omega
    have h50 : s.station.address < 50 := by omega
    have hb : s.station.address - 48 < 2 := by omega
    simp [Peers.base, Peers.updBank, State.ownBank, h48, h50, Tab.at_upd_self _ _ _ _ hb]
  | console =>
    have h := roleOf_console.1 ha
    have h48 : ¬ s.station.address < 48 := by omega
    have h50 : ¬ s.station.address < 50 := by omega
    have hc : s.station.address - 56 < 4 := by omega
    simp [Peers.base, Peers.updConsole, State.ownConsole, h48, h50, Tab.at_upd_self _ _ _ _ hc]

/-- Loopback writes no entry of another address. -/
theorem loopback_othersKept {s : State} (hr : s.station.role = roleOf s.station.address) :
    s.othersKept s.station.address s.loopback := by
  refine ⟨fun f _ hne => loopback_floorEntry s f fun _ => hne, fun b hb hne => ?_, fun c hc hne => ?_⟩
  · unfold State.loopback
    dsimp only
    split
    case h_2 hlift =>
      have := roleOf_lift.1 (hr.symm.trans hlift)
      exact Tab.at_upd_ne _ _ _ _ _ (by omega)
    all_goals rfl
  · unfold State.loopback
    dsimp only
    split
    case h_3 hconsole =>
      have := roleOf_console.1 (hr.symm.trans hconsole)
      exact Tab.at_upd_ne _ _ _ _ _ (by omega)
    all_goals rfl

/-! ### The memory port (R6) -/

theorem length_memoryClockOut : memoryClockOut.length = 2 * 536 := by simp [memoryClockOut, memoryCycles]

theorem memoryClockOut_getD {i : Nat} (h : i < 2 * 536) : memoryClockOut.getD i false = (i % 2 == 1) := by
  simp [memoryClockOut, memoryCycles, List.getD_eq_getElem?_getD, h]

theorem length_memoryDataOut : memoryDataOut.length = 536 := by
  simp [memoryDataOut, memoryRequest, bytesBits, byteBits]

theorem take_memoryDataOut : memoryDataOut.take 24
    = [false, false, false, false, false, false, true, true] ++ List.replicate 16 false :=
  List.take_left (l₁ := bytesBits memoryRequest)

theorem outputs_of_load {s : State} (h : s.station.lifecycle = .load) : s.outputs = { Outputs.atReset with
    memorySelect := true, memoryClock := memoryClockOut, memoryData := memoryDataOut } := by
  unfold State.outputs
  rw [h]

/-! ### The station after the release -/

theorem roleOf_none {a : Nat} : roleOf a = none ↔ (50 ≤ a ∧ a ≤ 55) ∨ 60 ≤ a := by
  unfold roleOf
  split
  · simp; omega
  · split
    · simp; omega
    · split <;> simp <;> omega

/-- The station in LOAD, before the own entry is written. -/
def State.released (a : Nat) (r : Role) (s : State) : State :=
  { s with station := { s.station with lifecycle := .load, address := a, role := some r } }

theorem releaseReset_of_role {a : Nat} {r : Role} (h : roleOf a = some r) (s : State) :
    s.releaseReset a = (s.released a r).loopback := by
  unfold State.releaseReset
  rw [h]
  rfl

theorem releaseReset_of_noRole {a : Nat} (h : roleOf a = none) (s : State) :
    s.releaseReset a = { s with
      station := { s.station with lifecycle := .halted, address := a, role := none },
      lamps := { s.lamps with haltLit := false, haltFlash := Timer.start 1 } } := by
  unfold State.releaseReset
  rw [h]

/-- Settles O4: by the role that the straps give, or its absence. -/
theorem releaseFixesAddressAndRole : Obligations.ReleaseFixesAddressAndRole := by
  intro straps s
  refine ⟨fun hl => ⟨_, exec_eq_after _ _, ?_⟩, fun hl => ?_⟩
  · rw [after_resetRelease hl]
    have hparts := (touches_releaseReset straps.toNat s).2
    have hlt := straps.isLt
    cases hrole : roleOf straps.toNat with
    | none =>
      rw [releaseReset_of_noRole hrole] at hparts ⊢
      have hnone := roleOf_none.1 hrole
      refine ⟨rfl, ?_, ?_, ?_, fun _ => ⟨rfl, rfl, rfl, rfl, rfl, rfl, rfl⟩, nofun, hparts⟩ <;> omega
    | some r =>
      rw [releaseReset_of_role hrole] at hparts ⊢
      have ht := touches_loopback (s.released straps.toNat r)
      have hlife : (s.released straps.toNat r).loopback.station.lifecycle = .load := ht.lifecycle_eq (by decide)
      have hthere : (s.released straps.toNat r).loopback.station.role = roleOf straps.toNat :=
        (ht.role_eq (by decide)).trans hrole.symm
      refine ⟨ht.address_eq (by decide), fun h => ⟨hlife, hthere.trans (roleOf_floor.2 h)⟩,
        fun h => ⟨hlife, hthere.trans (roleOf_lift.2 h)⟩, fun h => ⟨hlife, hthere.trans (roleOf_console.2 h)⟩,
        fun h => ?_, fun _ => ?_, hparts⟩
      · rw [roleOf_none.2 h] at hrole; cases hrole
      · rw [outputs_of_load hlife]
        refine ⟨loopback_base_own rfl hrole, loopback_othersKept (s := s.released straps.toNat r) hrole.symm, ?_⟩
        dsimp only
        exact ⟨rfl, length_memoryClockOut, fun i hi => memoryClockOut_getD hi, length_memoryDataOut, take_memoryDataOut⟩
  · rw [exec_eq_after, after_resetRelease_of_not hl]

end Sys2Proof.Machine
end

section
/-! ## The end of LOAD (R7, R10, R12, R15) -/

namespace Sys2Proof.Machine

/-! ### What the reactions leave of stairs and cars: their presence, mask and inputs -/

/-- What the image and the pins fix of a stair record. -/
def Stair.lines (x : Stair) : Bool × Nat × Debounced × Debounced × Debounced :=
  (x.present, x.minterm, x.door, x.feedback, x.key)

/-- What the image and the pins fix of a car record. -/
def Car.lines (c : Car) : Bool × Debounced × Debounced × Debounced × Debounced × Debounced :=
  (c.present, c.autoService, c.doorsOpen, c.atPrimary, c.atAlternate, c.ffKey)

theorem Stair.of_lines {x y : Stair} (h : x.lines = y.lines) :
    x.present = y.present ∧ x.minterm = y.minterm ∧ ∀ k, x.input k = y.input k := by
  simp only [Stair.lines, Prod.mk.injEq] at h
  obtain ⟨hpresent, hmask, hdoor, hfeedback, hkey⟩ := h
  exact ⟨hpresent, hmask, fun k => by cases k <;> assumption⟩

theorem Car.of_lines {x y : Car} (h : x.lines = y.lines) : x.present = y.present ∧ ∀ k, x.input k = y.input k := by
  simp only [Car.lines, Prod.mk.injEq] at h
  obtain ⟨hpresent, hauto, hdoors, hprimary, halternate, hkey⟩ := h
  exact ⟨hpresent, fun k => by cases k <;> assumption⟩

/-- No stair and no car has changed in what the image and the pins fix of it. -/
structure SameLines (s t : State) : Prop where
  stair (i : Nat) : (t.stair i).lines = (s.stair i).lines
  car (c : Nat) : (t.car c).lines = (s.car c).lines

theorem SameLines.refl (s : State) : SameLines s s := ⟨fun _ => rfl, fun _ => rfl⟩

theorem SameLines.trans {s t u : State} (h : SameLines s t) (k : SameLines t u) : SameLines s u :=
  ⟨fun i => (k.stair i).trans (h.stair i), fun c => (k.car c).trans (h.car c)⟩

theorem SameLines.ite {p : Prop} [Decidable p] {s t u : State} (ht : SameLines s t) (hu : SameLines s u) :
    SameLines s (if p then t else u) := by split <;> assumption

theorem SameLines.foldl {α : Type} (f : State → α → State) (h : ∀ t x, SameLines t (f t x)) (l : List α) (s : State) :
    SameLines s (l.foldl f s) := by
  induction l generalizing s with
  | nil => exact .refl s
  | cons x xs ih => exact (h s x).trans (ih (f s x))

theorem Touches.sameLines {ps : List Part} {s t : State} (h : Touches ps s t) (hs : .stairs ∉ ps) (hc : .cars ∉ ps) :
    SameLines s t :=
  ⟨fun i => by unfold State.stair; rw [h.stairs_eq hs], fun c => by unfold State.car; rw [h.cars_eq hc]⟩

theorem Stair.lines_drive (demand : Bool) (x : Stair) : (x.drive demand).lines = x.lines := rfl

theorem Stair.lines_check (x : Stair) : x.check.lines = x.lines := by
  unfold Stair.check
  split
  · rfl
  · split <;> rfl

theorem Stair.lines_heldOpenReact (cleared became : Bool) (limit : Nat) (x : Stair) :
    (x.heldOpenReact cleared became limit).lines = x.lines := by
  have hstart (y : Stair) :
      (if became && !y.door.accepted then { y with heldOpen := Timer.start (100 * limit) } else y).lines = y.lines := by
    split <;> rfl
  refine (hstart _).trans ?_
  split <;> rfl

theorem Stair.lines_settle (x : Stair) : x.settle.lines = x.lines := by
  unfold Stair.settle
  split <;> rfl

theorem Stair.lines_react (demand cleared became : Bool) (limit : Nat) (x : Stair) :
    (x.react demand cleared became limit).lines = x.lines := by
  unfold Stair.react
  split
  · rw [lines_settle, lines_heldOpenReact, lines_check, lines_drive]
  · rfl

theorem Car.lines_tryFirefighter (c : Car) : c.tryFirefighter.lines = c.lines := by
  unfold Car.tryFirefighter
  split <;> rfl

theorem Car.lines_park (c : Car) : c.park.lines = c.lines := Car.lines_tryFirefighter _

theorem Car.lines_recall (timeout : Nat) (target : Target) (c : Car) : (c.recall timeout target).lines = c.lines := by
  unfold Car.recall
  dsimp only
  split
  · exact Car.lines_park _
  · split <;> rfl

theorem Car.lines_activate (timeout : Nat) (compromised : Bool) (c : Car) :
    (c.activate timeout compromised).lines = c.lines := by
  unfold Car.activate
  split
  · exact Car.lines_recall _ _ c
  · rfl
  · rfl

theorem Car.lines_retarget (timeout : Nat) (c : Car) : (c.retarget timeout).lines = c.lines := by
  unfold Car.retarget
  dsimp only
  split
  · rfl
  · split
    · split
      · exact Car.lines_park _
      · rfl
    · split
      · exact Car.lines_park _
      · rfl
    · split
      · exact Car.lines_park _
      · rfl
    · rfl
    · rfl

theorem Car.lines_deriveFault (c : Car) : c.deriveFault.lines = c.lines := rfl

theorem sameLines_updCar (c : Nat) (f : Car → Car) (hf : ∀ x, (f x).lines = x.lines) (s : State) :
    SameLines s (s.updCar c f) := by
  refine ⟨fun i => rfl, fun k => ?_⟩
  by_cases hc : c < 4
  · show ((s.cars.upd c f).at k (Car.atReset false)).lines = _
    rw [Tab.at_upd _ _ _ _ _ hc]
    split
    · rename_i hk; rw [hf, hk]; rfl
    · rfl
  · show ((s.cars.upd c f).at k (Car.atReset false)).lines = _
    rw [Tab.upd_out _ _ _ (by omega)]
    rfl

theorem sameLines_changeCar (c : Nat) (f : Car → Car) (hf : ∀ x, (f x).lines = x.lines) (s : State) :
    SameLines s (s.changeCar c f) :=
  .ite ((sameLines_updCar c f hf s).trans ((touches_carFaults _ _ _ _).sameLines (by decide) (by decide))) (.refl s)

theorem sameLines_stairsReact (cleared became : Bool) (s : State) : SameLines s (s.stairsReact cleared became) := by
  refine .ite (SameLines.trans (t := { s with
    stairs := s.stairs.map (Stair.react s.demand cleared became s.image.heldOpenLimit) })
    ⟨fun i => ?_, fun _ => rfl⟩ (.foldl _ (fun t i => ?_) _ _)) (.refl s)
  · show ((s.stairs.map (Stair.react s.demand cleared became s.image.heldOpenLimit)).at i _).lines = _
    rw [Tab.at_map_fix _ _ _ _ rfl]
    exact Stair.lines_react _ _ _ _ _
  · exact .ite ((touches_clearFault _ _ t).sameLines (by decide) (by decide)) (.refl t)

theorem sameLines_liftsReact (became : Bool) (s : State) : SameLines s (s.liftsReact became) := by
  refine .ite (.foldl _ (fun t c => sameLines_changeCar c _ (fun x => ?_) t) _ s) (.refl s)
  dsimp only
  cases became <;> split <;> simp [Car.lines_retarget, Car.lines_activate]

theorem sameLines_finish_quiet (s old : State) (h : becameActive old s = false) : SameLines s (s.finish old) := by
  unfold State.finish
  simp only [h]
  refine .ite (.refl s) ?_
  refine SameLines.trans ?_ ((touches_builderReact _ _).sameLines (by decide) (by decide))
  refine SameLines.trans ?_ ((touches_loopback _).sameLines (by decide) (by decide))
  refine SameLines.trans ?_ ((touches_alarmLampReact _).sameLines (by decide) (by decide))
  refine SameLines.trans ?_ ((touches_cadenceReact _).sameLines (by decide) (by decide))
  refine SameLines.trans ?_ ((touches_speakerReact _ _ _).sameLines (by decide) (by decide))
  exact (sameLines_stairsReact _ _ s).trans (sameLines_liftsReact _ _)

/-! ### The records as the station enters LISTEN -/

theorem loadEnd_quiet (r : Role) (record : Tab Byte 64) (pins : Inputs) (s : State) :
    becameActive s ((s.load r record).listenEntry pins) = false :=
  becameActive_same ((touches_loadEnd r record pins s).active_eq (by decide) (by decide))
    ((touches_loadEnd r record pins s).generation_eq (by decide))

theorem listening_zone (pins : Inputs) (s : State) {z : Nat} (h : z < 8) :
    (s.listening pins).zone z = Zone.atReset (s.image.zoneKinds.at z .unused) :=
  Tab.at_mapIdx _ _ _ (Zone.atReset .unused) _ h

theorem listening_stair (pins : Inputs) (s : State) {i : Nat} (h : i < 4) :
    (s.listening pins).stair i = Stair.atReset (s.image.stairsPresent.at i false) (s.image.minterms.at i 0) :=
  Tab.at_mapIdx _ _ _ (Stair.atReset false 0) _ h

theorem listening_car (pins : Inputs) (s : State) {c : Nat} (h : c < 4) :
    (s.listening pins).car c = Car.atReset (s.image.carsPresent.at c false) :=
  Tab.at_mapIdx _ _ _ (Car.atReset false) _ h

/-- The present stairs of a FLOOR station take their inputs from one sample (R115). -/
theorem stairsAtListen_stair (s : State) {i : Nat} (h : i < 4) : s.stairsAtListen.stair i =
    if s.station.role = some .floor ∧ (s.stair i).present = true then (s.stair i).sampleAtListen s.pins i else s.stair i := by
  unfold State.stairsAtListen
  split
  · rename_i hr
    rw [if_congr (and_iff_right (by simpa using hr)) rfl rfl]
    exact Tab.at_mapIdx _ _ _ (Stair.atReset false 0) _ h
  · rename_i hr
    rw [if_neg (fun hc => hr (by simp [hc.1]))]

/-- The present cars of a LIFT station take their inputs from one sample (R127). -/
theorem carsAtListen_car (s : State) {c : Nat} (h : c < 4) : (s.carsAtListen.car c).lines =
    (if s.station.role = some .lift ∧ (s.car c).present = true then (s.car c).sampleAtListen s.pins c else s.car c).lines := by
  unfold State.carsAtListen
  split
  · rename_i hr
    rw [if_congr (and_iff_right (by simpa using hr)) rfl rfl]
    refine ((SameLines.foldl (fun t c => t.changeCar c Car.deriveFault)
      (fun t c => sameLines_changeCar c _ Car.lines_deriveFault t) (List.range 4) _).car c).trans ?_
    exact congrArg Car.lines (Tab.at_mapIdx _ _ _ (Car.atReset false) _ h)
  · rename_i hr
    rw [if_neg (fun hc => hr (by simp [hc.1]))]

theorem listenEntry_stair (pins : Inputs) (s : State) (i : Nat) :
    (s.listenEntry pins).stair i = (s.listening pins).stairsAtListen.stair i := by
  unfold State.stair
  rw [listenEntry_eq, (touches_carsAtListen _).stairs_eq (by decide)]

theorem listenEntry_car (pins : Inputs) (s : State) {c : Nat} (h : c < 4) : ((s.listenEntry pins).car c).lines =
    (if s.station.role = some .lift ∧ ((s.listening pins).car c).present = true
      then ((s.listening pins).car c).sampleAtListen pins c else (s.listening pins).car c).lines := by
  have ht := touches_stairsAtListen (s.listening pins)
  have hcar : (s.listening pins).stairsAtListen.car c = (s.listening pins).car c := by
    unfold State.car
    rw [ht.cars_eq (by decide)]
  rw [listenEntry_eq, carsAtListen_car _ h, hcar, ht.role_eq (by decide), ht.pins_eq (by decide)]
  rfl

theorem address_load (r : Role) (record : Tab Byte 64) (s : State) :
    (s.load r record).station.address = s.station.address := by
  rw [load_station]

theorem role_load (r : Role) (record : Tab Byte 64) (s : State) : (s.load r record).station.role = s.station.role := by
  rw [load_station]

/-- The stair records of a station whose LOAD has ended. -/
theorem loadEnd_stair (r : Role) (record : Tab Byte 64) (pins : Inputs) (s : State) {i : Nat} (h : i < 4) :
    let image := (s.load r record).image
    let x := (((s.load r record).listenEntry pins).finish s).stair i
    x.present = image.stairsPresent.at i false ∧ x.minterm = image.minterms.at i 0
      ∧ (s.station.role = some .floor → x.present = true → ∀ k, x.input k = Debounced.atListen (pins.stairLine i k)) := by
  have hlines := (sameLines_finish_quiet _ s (loadEnd_quiet r record pins s)).stair i
  rw [listenEntry_stair, stairsAtListen_stair _ h, listening_stair _ _ h] at hlines
  obtain ⟨hpresent, hmask, hinput⟩ := Stair.of_lines hlines
  have hthere := hpresent.trans (apply_ite Stair.present _ _ _ |>.trans (ite_self _))
  refine ⟨hthere, hmask.trans (apply_ite Stair.minterm _ _ _ |>.trans (ite_self _)), fun hrole hx k => ?_⟩
  rw [hinput, if_pos ⟨(role_load r record s).trans hrole, hthere.symm.trans hx⟩]
  cases k <;> rfl

/-- The car records of a station whose LOAD has ended. -/
theorem loadEnd_car (r : Role) (record : Tab Byte 64) (pins : Inputs) (s : State) {c : Nat} (h : c < 4) :
    let image := (s.load r record).image
    let x := (((s.load r record).listenEntry pins).finish s).car c
    x.present = image.carsPresent.at c false
      ∧ (s.station.role = some .lift → x.present = true → ∀ k, x.input k = Debounced.atListen (pins.carLine c k)) := by
  have hlines := (sameLines_finish_quiet _ s (loadEnd_quiet r record pins s)).car c
  rw [listenEntry_car _ _ h, listening_car _ _ h] at hlines
  obtain ⟨hpresent, hinput⟩ := Car.of_lines hlines
  have hthere := hpresent.trans (apply_ite Car.present _ _ _ |>.trans (ite_self _))
  refine ⟨hthere, fun hrole hx k => ?_⟩
  rw [hinput, if_pos ⟨(role_load r record s).trans hrole, hthere.symm.trans hx⟩]
  cases k <;> rfl

/-- The reactions at the end of LOAD, where no regime becomes active. -/
theorem touches_loadFinish (r : Role) (record : Tab Byte 64) (pins : Inputs) (s : State) :
    Touches Part.reactions ((s.load r record).listenEntry pins) (((s.load r record).listenEntry pins).finish s) :=
  touches_finish_quiet _ s (loadEnd_quiet r record pins s)

theorem touches_configEnd (r : Role) (record : Tab Byte 64) (pins : Inputs) (s : State) :
    Touches Part.reactions ((s.load r record).listening pins) (((s.load r record).listenEntry pins).finish s) :=
  ((touches_sampledAtListen pins _).mono (by decide)).trans (touches_loadFinish r record pins s)

/-- Settles O7: what `State.listening` sets, the one sample of stairs and cars, and reactions that leave both. -/
theorem loadEndEntersListen : Obligations.LoadEndEntersListen := by
  refine fun record pins s => ⟨fun r hl hr => ⟨_, exec_eq_after _ _, ?_⟩, fun hl => ?_⟩
  · have hparts := (touches_after (.configLoadComplete record pins) s).2
    rw [after_configLoad hl hr record pins] at hparts ⊢
    have ht := touches_configEnd r record pins s
    have himage := ht.image_eq (by decide)
    refine ⟨ht.lifecycle_eq (by decide), ?_, ht.listenComplete_eq (by decide), ht.holdOff_eq (by decide),
      ht.runLit_eq (by decide), ht.runFlash_eq (by decide), ht.pins_eq (by decide), ?_, ?_, fun z hz => ?_,
      fun i hi => ?_, fun c hc => ?_, hparts⟩
    · rw [himage]
      exact ht.listenTimer_eq (by decide)
    · exact (ht.address_eq (by decide)).trans (address_load r record s)
    · exact (ht.role_eq (by decide)).trans (role_load r record s)
    · unfold State.zone
      rw [himage, ht.zones_eq (by decide)]
      exact listening_zone pins _ hz
    · rw [himage]
      obtain ⟨hpresent, hmask, hinput⟩ := loadEnd_stair r record pins s hi
      exact ⟨hpresent, hmask, fun hf => hinput (hr.trans (congrArg some hf))⟩
    · rw [himage]
      obtain ⟨hpresent, hinput⟩ := loadEnd_car r record pins s hc
      exact ⟨hpresent, fun hf => hinput (hr.trans (congrArg some hf))⟩
  · rw [exec_eq_after, after_configLoad_of_not (fun h => absurd h hl)]

/-! ### The faults of LOAD -/

theorem keepsFaults_sampledAtListen (pins : Inputs) (s : State) :
    KeepsFaults [.liftUnavailable, .liftInput] s (s.listenEntry pins) := by
  have hlistening : KeepsFaults [.liftUnavailable, .liftInput] s (s.listening pins) := fun _ _ _ => rfl
  have hstairs := (touches_stairsAtListen (s.listening pins)).keepsFaults (by decide) [.liftUnavailable, .liftInput]
  refine (hlistening.trans hstairs).trans (.ite (KeepsFaults.trans (fun _ _ _ => rfl) ?_) (.refl _ _))
  exact .foldl _ (fun t c => keepsFaults_changeCar c _ t) _ _

/-- The faults of LOAD stand as the station enters LISTEN. -/
theorem keepsFaults_configEnd (r : Role) (record : Tab Byte 64) (pins : Inputs) (s : State) :
    KeepsFaults FaultKind.reactions (s.load r record) (((s.load r record).listenEntry pins).finish s) :=
  ((keepsFaults_sampledAtListen pins _).mono (by decide)).trans
    (keepsFaults_finish_quiet _ s (loadEnd_quiet r record pins s))

/-- The checks of R7 in their order. -/
theorem failedCheck_eq (r : Role) (record : Tab Byte 64) : failedCheck r record =
    if recByte record 0 = 0x3C ∧ recByte record 1 = r.code
      ∧ ((record.list.take 62).map BitVec.toNat).sum % 65536 = recByte record 62 * 256 + recByte record 63 then none
    else some (if recByte record 0 ≠ 0x3C then 1 else if recByte record 1 ≠ r.code then 2 else 3) := by
  unfold failedCheck recWord
  split
  · simp_all
  · split
    · simp_all
    · split <;> simp_all

/-- Settles O5: the check that fails first decides image, load status and fault, which the entry to LISTEN keeps. -/
theorem rejectedRecordGivesDefaults : Obligations.RejectedRecordGivesDefaults := by
  intro record pins s r hl hr hnone
  refine ⟨_, exec_eq_after _ _, ?_⟩
  rw [after_configLoad hl hr record pins]
  have ht := touches_configEnd r record pins s
  refine ⟨ht.lifecycle_eq (by decide), fun h0 h1 h2 => ?_, fun h => ?_⟩
  · have hpassed : failedCheck r record = none := by rw [failedCheck_eq, if_pos ⟨h0, h1, h2⟩]
    rw [load_of_passed hpassed] at ht ⊢
    exact ⟨ht.image_eq (by decide), ht.loadStatus_eq (by decide)⟩
  · have hfailed := failedCheck_eq r record
    rw [if_neg (by rintro ⟨h0, h1, h2⟩; exact (h.resolve_left (· h0)).elim (· h1) (· h2))] at hfailed
    have hkeeps := keepsFaults_configEnd r record pins s .configDefaulted
      (if recByte record 0 ≠ 0x3C then 1 else if recByte record 1 ≠ r.code then 2 else 3) (by decide)
    rw [load_of_failed hfailed] at ht hkeeps ⊢
    refine ⟨ht.image_eq (by decide), ht.loadStatus_eq (by decide), ht.digest_eq (by decide), hkeeps.trans ?_⟩
    exact FaultList.holds_raise _ _ _ _ (by simp [FaultList.finds, hnone])

end Sys2Proof.Machine
end

section
/-! ## Timers of the start-up, the builder and the lamps; the discards of the receiver -/

namespace Sys2Proof.Machine

theorem Timer.due_iff (t : Timer) : t.due = true ↔ t = some 0 := by
  simp [Timer.due]

/-! ### Events whose own work leaves the view -/

/-- An event that is not due changes nothing (log 2). -/
theorem event_of_not_due {due : Bool} (h : due = false) (f : State → State) (s : State) : s.event due f = s :=
  if_neg (by simp [h])

theorem event_of_due {due : Bool} (h : due = true) (f : State → State) (s : State) :
    s.event due f = (f s).finish s := if_pos h

/-- The work of an event, then the reactions. -/
theorem touches_quietFinish {ps : List Part} {s t : State} (h : Touches ps s t) (ho : .origins ∉ ps) (hg : .general ∉ ps)
    (hn : .generation ∉ ps) : Touches Part.reactions t (t.finish s) :=
  touches_finish_quiet t s (becameActive_same (h.active_eq ho hg) (h.generation_eq hn))

/-! ### Placement at the end of an event (R49) -/

theorem placeStatus_of_owed {s : State} (hrun : s.station.lifecycle = .run) (hfree : s.slots.status = none)
    (hopen : s.builder.spacing = none) (howed : s.reportOwed = true) :
    s.placeStatus.slots.status = some { cls := s.statusClass, collisions := 0, standing := .pending } := by
  simp [State.placeStatus, hrun, hfree, hopen, howed]

theorem placeStatus_reportOwed (s : State) : s.placeStatus.reportOwed = s.reportOwed := by
  unfold State.placeStatus
  split
  · rfl
  · split
    · split <;> rfl
    · split <;> rfl

/-- The reactions before the builder's, in an event that does not make the regime active. -/
theorem finish_quiet_eq {s old : State} (hacts : s.acts = true) (h : becameActive old s = false) :
    ∃ t, Touches [.stairs, .faults, .cars, .speaker, .cadence, .alarmLamp, .peers] s t
      ∧ s.finish old = t.builderReact old := by
  unfold State.finish
  simp only [hacts, h, Bool.not_true, Bool.false_eq_true, if_false]
  refine ⟨_, ?_, rfl⟩
  refine Touches.trans (t := _) ?_ ((touches_loopback _).mono (by decide))
  refine Touches.trans (t := _) ?_ ((touches_alarmLampReact _).mono (by decide))
  refine Touches.trans (t := _) ?_ ((touches_cadenceReact _).mono (by decide))
  refine Touches.trans (t := _) ?_ ((touches_speakerReact _ _ _).mono (by decide))
  refine Touches.trans (t := _) ?_ ((touches_liftsReact _ _).mono (by decide))
  exact (touches_stairsReact _ _ s).mono (by decide)

/-- A station in RUN with the slot empty and the spacing open places an entry at the end of an event in which a report
is owed (R49). -/
theorem finish_places {s old : State} (hrun : s.station.lifecycle = .run) (h : becameActive old s = false)
    (hfree : s.slots.status = none) (hopen : s.builder.spacing = none) (howed : (s.finish old).reportOwed = true) :
    ∃ e, (s.finish old).slots.status = some e ∧ e.standing = .pending ∧ e.collisions = 0 := by
  obtain ⟨t, ht, hfinish⟩ := finish_quiet_eq (by simp [State.acts, hrun]) h
  rw [hfinish] at howed ⊢
  exact ⟨_, placeStatus_of_owed ((ht.lifecycle_eq (by decide)).trans hrun) ((ht.statusSlot_eq (by decide)).trans hfree)
    ((ht.spacing_eq (by decide)).trans hopen) ((placeStatus_reportOwed _).symm.trans howed), rfl, rfl⟩

/-! ### The end of the LISTEN period (R12 to R14) -/

theorem after_listenExpiry (s : State) : s.after .listenPeriodExpiry = s.onListenExpiry := rfl

theorem listenExpired_quiet (s : State) : becameActive s s.listenExpired = false := by
  refine becameActive_same ?_ ?_ <;> unfold State.listenExpired <;> dsimp only <;> split <;> rfl

theorem listenExpired_of_listen {s : State} (h : s.station.lifecycle = .listen) : s.listenExpired
    = State.runEntry { s with station := { s.station with listenTimer := none, listenComplete := true } } := if_pos h

theorem listenExpired_of_run {s : State} (h : s.station.lifecycle = .run) : s.listenExpired
    = { s with station := { s.station with listenTimer := none, listenComplete := true } } := if_neg (by simp [h])

/-- Settles O8: the entry to RUN, and reactions that leave what it sets. -/
theorem listenExpiryEntersRun : Obligations.ListenExpiryEntersRun := by
  refine fun s => ⟨fun hl ht => ⟨_, exec_eq_after _ _, ?_⟩, fun hl ht => ⟨_, exec_eq_after _ _, ?_⟩, fun ht => ?_⟩
  · have hparts := (touches_after .listenPeriodExpiry s).2
    rw [after_listenExpiry, State.onListenExpiry, event_of_due (by simp [State.acts, hl, ht, Timer.due])] at hparts ⊢
    have hquiet := listenExpired_quiet s
    have hr := touches_finish_quiet s.listenExpired s hquiet
    rw [listenExpired_of_listen hl] at hparts hquiet hr ⊢
    refine ⟨hr.lifecycle_eq (by decide), hr.listenComplete_eq (by decide), hr.listenTimer_eq (by decide),
      hr.runLit_eq (by decide), hr.runFlash_eq (by decide), ⟨hr.heartbeat_eq (by decide), hr.heartbeatOwed_eq (by decide)⟩,
      fun hfree hopen howed => ?_, hparts⟩
    obtain ⟨e, he, -⟩ := finish_places rfl hquiet hfree hopen howed
    rw [he]
    rfl
  · rw [after_listenExpiry, State.onListenExpiry, event_of_due (by simp [State.acts, hl, ht, Timer.due])]
    have hr := touches_finish_quiet s.listenExpired s (listenExpired_quiet s)
    rw [listenExpired_of_run hl] at hr ⊢
    exact ⟨(hr.lifecycle_eq (by decide)).trans hl, hr.listenComplete_eq (by decide), hr.heartbeat_eq (by decide)⟩
  · rw [exec_eq_after, after_listenExpiry, State.onListenExpiry, event_of_not_due]
    simp [Timer.due, ht]

/-! ### The builder's timers and the lamps (R47, R49, R15, R175) -/

theorem after_heartbeat {s : State} (hl : s.station.lifecycle = .run) (ht : s.builder.heartbeat = some 0) :
    s.after .heartbeatTimerExpiry = s.heartbeat.finish s := event_of_due (by simp [hl, ht, Timer.due]) _ s

theorem after_spacing {s : State} (hacts : s.acts = true) (ht : s.builder.spacing = some 0) :
    s.after .spacingTimerOpen = s.openSpacing.finish s := event_of_due (by simp [hacts, ht, Timer.due]) _ s

/-- A heartbeat owed is a report owed, whatever the reactions do. -/
theorem reportOwed_of_heartbeat {s : State} (h : s.builder.heartbeatOwed = true) : s.reportOwed = true := by
  simp [State.reportOwed, h]

theorem exec_of_after_eq {c : Instr} {s t : State} (h : s.after c = t) : exec c s = .next t := by
  rw [exec_eq_after, h]

/-- Settles O32: each timer's own work, and the placement that follows from it. -/
theorem builderAndLampTimersAct : Obligations.BuilderAndLampTimersAct := by
  refine ⟨fun s hl ht => ⟨_, exec_of_after_eq (after_heartbeat hl ht), ?_⟩,
    fun s hacts ht => ⟨_, exec_of_after_eq (after_spacing hacts ht), ?_⟩, fun s ht => ?_, fun s ht => ?_, ?_⟩
  · have hwork := touches_heartbeat s
    have hreact := touches_quietFinish hwork (by decide) (by decide) (by decide)
    have hquiet : becameActive s s.heartbeat = false := becameActive_same rfl rfl
    have howed : (s.heartbeat.finish s).builder.heartbeatOwed = true := hreact.heartbeatOwed_eq (by decide)
    exact ⟨howed, hreact.heartbeat_eq (by decide),
      fun hfree hopen => finish_places hl hquiet hfree hopen (reportOwed_of_heartbeat howed),
      (hwork.andThen hreact (rs := .heartbeat :: Part.reactions) (by decide) (by decide)).2⟩
  · have hwork := touches_openSpacing s
    have hreact := touches_quietFinish hwork (by decide) (by decide) (by decide)
    have hquiet : becameActive s s.openSpacing = false := becameActive_same rfl rfl
    exact ⟨hreact.spacing_eq (by decide), fun hl hfree howed => finish_places hl hquiet hfree rfl howed,
      (hwork.andThen hreact (rs := .spacing :: Part.reactions) (by decide) (by decide)).2⟩
  · exact exec_of_after_eq (event_of_not_due (by simp [ht, Timer.due]) _ s)
  · exact exec_of_after_eq (event_of_not_due (by simp [ht, Timer.due]) _ s)
  · intro s
    refine ⟨fun h => ?_, fun h => ?_, fun h => ?_, fun h => ?_, fun h => ?_, fun h => ?_, fun h => ?_, fun h => ?_⟩
    iterate 4 exact exec_of_after_eq (if_pos (by simp [h, Timer.due]))
    iterate 4 exact exec_of_after_eq (if_neg (by simp [h, Timer.due]))

/-! ### Discards (R22 to R27) -/

/-- The receiver came to one thing: its own work, then the reactions. -/
theorem hear_one {line : Samples} {s : State} {e : RxEvent} (hacts : s.acts = true) (htx : s.tx = .idle)
    (hfed : (s.fed line).2 = [e]) : s.hear State.handOn line
      = (State.rxAct State.handOn e { s with rx := (s.fed line).1 }).finish { s with rx := (s.fed line).1 } := by
  unfold State.hear
  rw [if_pos ⟨hacts, htx⟩, hfed]
  rfl

/-- The line counters after a bad frame (R27). -/
theorem badFrame_line (s : State) : s.badFrame.line = { s.line with
    windowCount := min 255 (s.line.windowCount + 1), degraded := s.line.degraded || s.line.windowCount == 16 } := by
  unfold State.badFrame
  have hflag : (s.line.degraded || decide (s.line.windowCount = 16 ∧ ¬ s.line.degraded = true))
      = (s.line.degraded || s.line.windowCount == 16) := by
    cases s.line.degraded <;> simp [beq_eq_decide]
  dsimp only
  rw [hflag]
  split <;> rfl

/-- LINE-DEGRADED as the window count rises from 16 to 17 (R27). -/
theorem badFrame_degrades {s : State} (hcount : s.line.windowCount = 16) (hdegraded : s.line.degraded = false)
    (hfinds : s.faults.finds .lineDegraded 0 = true) : s.badFrame.faults.holds .lineDegraded 0 = true := by
  unfold State.badFrame
  dsimp only
  rw [if_pos ⟨hcount, by simp [hdegraded]⟩]
  exact FaultList.holds_raise _ _ _ _ hfinds

/-- What a discard does to the line counters. -/
def LineCounters.discard (l : LineCounters) (e : RxEvent) : LineCounters :=
  let bad : LineCounters :=
    { l with windowCount := min 255 (l.windowCount + 1), degraded := l.degraded || l.windowCount == 16 }
  match e with
  | .stuffError => { bad with stuffError := min 65535 (l.stuffError + 1) }
  | .badLength => { bad with badLength := min 65535 (l.badLength + 1) }
  | .crcError => { bad with crcError := min 65535 (l.crcError + 1) }
  | .unknownKind => { bad with unknownKind := min 65535 (l.unknownKind + 1) }
  | .jamSeen => { l with jamSeen := min 65535 (l.jamSeen + 1) }
  | _ => l

theorem rxAct_discard {e : RxEvent} (he : ∀ f a, e ≠ .accepted f a) (hand : Frame → Word16 → State → State) (s : State) :
    (State.rxAct hand e s).line = s.line.discard e := by
  cases e with
  | accepted f a => exact absurd rfl (he f a)
  | stuffError => exact badFrame_line _
  | badLength => exact badFrame_line _
  | crcError => exact badFrame_line _
  | unknownKind => exact badFrame_line _
  | jamSeen => rfl
  | syncMismatch => rfl
  | abandoned => rfl

theorem touches_discard {e : RxEvent} (he : ∀ f a, e ≠ .accepted f a) (hand : Frame → Word16 → State → State)
    (s : State) : Touches [.line, .faults] s (State.rxAct hand e s) := by
  have hbad (l : LineCounters) : Touches [.line, .faults] s ({ s with line := l }).badFrame :=
    (touches_line l s).andThen (touches_badFrame _) (by decide) (by decide)
  cases e with
  | accepted f a => exact absurd rfl (he f a)
  | stuffError => exact hbad _
  | badLength => exact hbad _
  | crcError => exact hbad _
  | unknownKind => exact hbad _
  | jamSeen => exact (touches_line _ s).mono (by decide)
  | syncMismatch => exact .refl _ s
  | abandoned => exact .refl _ s

/-- Settles O14: the counters of each discard, which the reactions leave. -/
theorem discardsAreCounted : Obligations.DiscardsAreCounted := by
  refine ⟨fun line s e hacts htx hfed he => ⟨_, exec_of_after_eq (hear_one hacts htx hfed), ?_⟩, fun line s h => ?_⟩
  · have hwork := touches_discard he State.handOn { s with rx := (s.fed line).1 }
    have hline := rxAct_discard he State.handOn { s with rx := (s.fed line).1 }
    have hreact := touches_quietFinish hwork (by decide) (by decide) (by decide)
    have hquiet := becameActive_same (hwork.active_eq (by decide) (by decide)) (hwork.generation_eq (by decide))
    have hall := (touches_rx (s.fed line).1 s).andThen (hwork.andThen hreact (rs := .line :: Part.reactions)
      (by decide) (by decide)) (rs := [.rx, .line] ++ Part.reactions) (by decide) (by decide)
    refine ⟨(hreact.rx_eq (by decide)).trans (hwork.rx_eq (by decide)),
      ((hreact.line_eq (by decide)).trans hline).trans (by cases e <;> rfl), fun hbad hcount hfit hfinds => ?_, hall.2⟩
    refine (keepsFaults_finish_quiet _ _ hquiet .lineDegraded 0 (by decide)).trans ?_
    obtain rfl | rfl | rfl | rfl := hbad <;> exact badFrame_degrades hcount hfit hfinds
  · refine exec_of_after_eq (if_neg fun hc => ?_)
    rcases h with h | h
    · exact absurd hc.1 (by simp [h])
    · exact h hc.2

end Sys2Proof.Machine
end

section
/-! ## The tick event (R1, R2, log 3) -/

namespace Sys2Proof.Machine

/-! ### What is taken before the tick event proper -/

/-- What the timed events but SECOND and the flash of a halted station may change. -/
def Part.settling : List Part :=
  [.listen, .fifo, .markSlots, .line, .spacing, .duplicateAge, .authority, .link, .lineLamp] ++ Part.activation

/-- `settleSeconds` after its second event. -/
theorem touches_settleSeconds (s : State) : Touches Part.settling s.onSecond s.settleSeconds := by
  refine Touches.trans ?_ ((touches_onListenExpiry _).mono (by decide))
  refine Touches.trans ?_ ((touches_onWindowEnd _).mono (by decide))
  refine Touches.trans ?_ ((touches_onDuplicateLimit _).mono (by decide))
  exact .foldl _ (fun t a => (touches_onPeerSilence a t).mono (by decide)) _ _

theorem touches_settleZones (s : State) : Touches Part.settling s s.settleZones := by
  refine .foldl _ (fun t z => ?_) _ s
  refine Touches.trans ?_ ((touches_onConfirmExpiry _ _).mono (by decide))
  exact Touches.trans ((touches_onClassAccepted z t).mono (by decide)) ((touches_onStageExpiry z _).mono (by decide))

theorem touches_settleStairs (s : State) : Touches Part.settling s s.settleStairs := by
  refine .foldl _ (fun t i => ?_) _ s
  have hinput (k : StairInput) (u : State) : Touches Part.settling u (u.onStairInput i k) :=
    (touches_onStairInput i k u).mono (by decide)
  refine Touches.trans ?_ ((touches_onHeldOpenExpiry _ _).mono (by decide))
  refine Touches.trans ?_ ((touches_onMismatchExpiry _ _).mono (by decide))
  exact ((hinput .door t).trans (hinput .feedback _)).trans (hinput .key _)

theorem touches_settleCars (s : State) : Touches Part.settling s s.settleCars := by
  refine .foldl _ (fun t c => ?_) _ s
  have hinput (k : CarInput) (u : State) : Touches Part.settling u (u.onCarInput c k) :=
    (touches_onCarInput c k u).mono (by decide)
  refine Touches.trans ?_ ((touches_onRecallExpiry _ _).mono (by decide))
  exact ((((hinput .atPrimary t).trans (hinput .atAlternate _)).trans (hinput .doorsOpen _)).trans (hinput .ffKey _)).trans
    (hinput .autoService _)

theorem touches_settleSpeaker (s : State) : Touches Part.settling s s.settleSpeaker := by
  refine Touches.trans ?_ ((touches_onKeepExpiry _).mono (by decide))
  refine Touches.trans ?_ ((touches_onPauseExpiry _).mono (by decide))
  refine Touches.trans ?_ ((touches_onStrobeEnd _).mono (by decide))
  exact Touches.trans ((touches_onBusyLevel s).mono (by decide)) ((touches_onMessageExpiry _).mono (by decide))

theorem touches_settleCadences (s : State) : Touches Part.settling s s.settleCadences := by
  refine Touches.trans ?_ ((touches_onStandingLapse _ _).mono (by decide))
  refine Touches.trans ?_ ((touches_onStandingLapse _ _).mono (by decide))
  refine Touches.trans ?_ ((touches_onStrobePulseEnd _).mono (by decide))
  refine Touches.trans ?_ ((touches_onPulseBoundary _ _).mono (by decide))
  exact Touches.trans ((touches_onCycleStart s).mono (by decide)) ((touches_onPulseBoundary _ _).mono (by decide))

/-- `settleRest` around the flash of a halted station. -/
theorem touches_settleRest (s : State) : ∃ t, Touches Part.settling s t
    ∧ Touches Part.settling (t.onFlash .haltedFault) s.settleRest := by
  refine ⟨(s.onFlash .run).onFlash .alarm, ?_, ?_⟩
  · exact Touches.trans ((touches_onFlash .run s).mono (by decide)) ((touches_onFlash .alarm _).mono (by decide))
  · refine Touches.trans ?_ ((touches_onLinkKeepExpiry _).mono (by decide))
    refine Touches.trans ?_ ((touches_onKeepPeriod _).mono (by decide))
    refine Touches.trans ?_ ((touches_onSpacingOpen _).mono (by decide))
    exact Touches.trans ((touches_onLineDark _).mono (by decide)) ((touches_onHeartbeat _).mono (by decide))

/-- Everything due is taken: the second event, other events, the flash of a halted station, other events. -/
theorem touches_settle_around (s : State) : ∃ t, Touches Part.settling s.onSecond t
    ∧ Touches Part.settling (t.onFlash .haltedFault) s.settle := by
  obtain ⟨t, hbefore, hafter⟩ := touches_settleRest
    s.settleSeconds.settleZones.settleStairs.settleCars.settleSpeaker.settleCadences
  refine ⟨t, Touches.trans ?_ hbefore, hafter⟩
  exact (((((touches_settleSeconds s).trans (touches_settleZones _)).trans (touches_settleStairs _)).trans
    (touches_settleCars _)).trans (touches_settleSpeaker _)).trans (touches_settleCadences _)

theorem touches_settle_of_second (s : State) : Touches (.haltLamp :: Part.settling) s.onSecond s.settle := by
  obtain ⟨t, hbefore, hafter⟩ := touches_settle_around s
  have hflash := touches_onFlash .haltedFault t
  exact (hbefore.andThen hflash (List.subset_cons_self _ _) (by decide)).trans (hafter.mono (List.subset_cons_self _ _))

/-- The second event counts, and the flag is taken back (log 3). -/
theorem onSecond_time (s : State) : s.onSecond.time =
    if s.time.secondDue then { s.time with second := s.time.second + 1, secondDue := false } else s.time := by
  unfold State.onSecond
  split
  · split
    · exact ((touches_finish _ _).time_eq (by decide)).trans ((touches_secondWork _).time_eq (by decide))
    · rfl
  · rfl

theorem settle_time (s : State) : s.settle.time =
    if s.time.secondDue then { s.time with second := s.time.second + 1, secondDue := false } else s.time :=
  ((touches_settle_of_second s).time_eq (by decide)).trans (onSecond_time s)

/-! ### The tick event proper -/

/-- Counts, pins and lamps of a tick event, in every lifecycle. -/
def State.ticked (pins : Inputs) (s : State) : State :=
  { s with pins := pins, time := s.time.tickEvent, lamps := s.lamps.tick }

theorem tickEvent_of_acts {s : State} (h : s.acts = true) (pins : Inputs) : s.tickEvent pins
    = (s.ticked pins).runTimers.sampleZones.sampleStairs.sampleCars.tickCadence := if_pos h

theorem tickEvent_of_not_acts {s : State} (h : s.acts = false) (pins : Inputs) : s.tickEvent pins = s.ticked pins :=
  if_neg (show ¬ s.acts = true by simp [h])

/-- The samples and the positions, after the timers. -/
theorem touches_samples (s : State) :
    Touches [.zones, .stairs, .cars, .cadence] s s.sampleZones.sampleStairs.sampleCars.tickCadence := by
  refine Touches.trans ?_ ((touches_tickCadence _).mono (by decide))
  refine Touches.trans ?_ ((touches_sampleCars _).mono (by decide))
  exact Touches.trans ((touches_sampleZones s).mono (by decide)) ((touches_sampleStairs _).mono (by decide))

theorem tickEvent_time (pins : Inputs) (s : State) : (s.tickEvent pins).time = s.time.tickEvent := by
  cases h : s.acts with
  | true => rw [tickEvent_of_acts h, (touches_samples _).time_eq (by decide)]; rfl
  | false => rw [tickEvent_of_not_acts h]; rfl

theorem tickEvent_pins (pins : Inputs) (s : State) : (s.tickEvent pins).pins = pins := by
  cases h : s.acts with
  | true => rw [tickEvent_of_acts h, (touches_samples _).pins_eq (by decide)]; rfl
  | false => rw [tickEvent_of_not_acts h]; rfl

theorem tickEvent_holdOff (pins : Inputs) (s : State) : (s.tickEvent pins).station.takeHoldOff =
    if s.acts then s.station.takeHoldOff - 1 else s.station.takeHoldOff := by
  cases h : s.acts with
  | true => rw [tickEvent_of_acts h, (touches_samples _).holdOff_eq (by decide)]; rfl
  | false => rw [tickEvent_of_not_acts h]; rfl

theorem after_tick {s : State} (h : s.station.lifecycle ≠ .reset) (pins : Inputs) :
    s.after (.tick pins) = s.settle.tickEvent pins := if_neg h

theorem settle_holdOff (s : State) : s.settle.station.takeHoldOff = s.station.takeHoldOff :=
  ((touches_settle_of_second s).holdOff_eq (by decide)).trans ((touches_onSecond s).holdOff_eq (by decide))

/-- Settles O9: what is due is taken first and leaves the counts of ticks. -/
theorem tickAdvancesTheTimebase : Obligations.TickAdvancesTheTimebase := by
  refine fun pins s => ⟨fun hl => ⟨_, exec_of_after_eq (after_tick hl pins), ?_⟩, fun hl => exec_of_after_eq (if_pos hl)⟩
  have hparts : Touches Part.ticking s (s.settle.tickEvent pins) :=
    (touches_settle s).trans ((touches_tickEvent pins _).mono (by decide))
  have htime := (tickEvent_time pins s.settle).trans (congrArg Timebase.tickEvent (settle_time s))
  have hhold := tickEvent_holdOff pins s.settle
  rw [settle_holdOff, (evolves_settle s).acts] at hhold
  rw [htime]
  refine ⟨?_, rfl, rfl, ?_, ?_, ?_, tickEvent_pins pins _, hhold, hparts.2⟩
  all_goals cases s.time.secondDue <;> simp [Timebase.tickEvent]

/-! ### Timers, samples and positions -/

/-- The lamps' parts together. -/
theorem Touches.lamps_eq {ps : List Part} {s t : State} (h : Touches ps s t) (hr : .runLamp ∉ ps) (ha : .alarmLamp ∉ ps)
    (hh : .haltLamp ∉ ps) (hl : .lineLamp ∉ ps) : t.lamps = s.lamps := by
  have h1 := h.runLit_eq hr
  have h2 := h.runFlash_eq hr
  have h3 := h.alarmLit_eq ha
  have h4 := h.alarmFlash_eq ha
  have h5 := h.haltLit_eq hh
  have h6 := h.haltFlash_eq hh
  have h7 := h.lineLamp_eq hl
  cases ht : t.lamps
  cases hs : s.lamps
  simp_all

/-- One sample of a loop or an input: the run goes up, or starts with the new candidate (R58, R115, R127). -/
theorem Debounced.sample_eq (level : Bool) (d : Debounced) : (d.sample level).accepted = d.accepted
    ∧ (d.sample level).candidate = some level
    ∧ (d.sample level).run = (if d.candidate = some level then min 4 (d.run + 1) else 1) := by
  unfold Debounced.sample
  split
  · exact ⟨rfl, ‹_›, rfl⟩
  · exact ⟨rfl, rfl, rfl⟩

theorem Zone.sample_eq (class_ : LoopClass) (z : Zone) : (z.sample class_).state = z.state
    ∧ (z.sample class_).accepted = z.accepted ∧ (z.sample class_).stage = z.stage
    ∧ (z.sample class_).candidate = some class_
    ∧ (z.sample class_).run = (if z.candidate = some class_ then min 4 (z.run + 1) else 1) := by
  unfold Zone.sample
  split
  · exact ⟨rfl, rfl, rfl, ‹_›, rfl⟩
  · exact ⟨rfl, rfl, rfl, rfl, rfl⟩

theorem Zone.sample_withStage (class_ : LoopClass) (stage : Timer) (z : Zone) :
    Zone.sample class_ { z with stage := stage } = { z.sample class_ with stage := stage } := by
  unfold Zone.sample
  dsimp only
  split <;> rfl

theorem Zone.classified_iff (z : Zone) :
    z.classified = true ↔ z.kind ≠ .unused ∧ z.state ∈ [ZoneState.normal, .verifyConfirm, .alarm, .fault] := by
  simp [Zone.classified, Zone.supervised, or_assoc]

theorem sampleZones_zone (s : State) {z : Nat} (hz : z < 8) : s.sampleZones.zone z =
    if s.actsAs .floor = true ∧ (s.zone z).classified = true then (s.zone z).sample (loopClass (s.pins.reading z))
    else s.zone z := by
  unfold State.sampleZones
  split
  · rename_i hr
    rw [if_congr (and_iff_right hr) rfl rfl]
    exact Tab.at_mapIdx _ _ _ (Zone.atReset .unused) _ hz
  · rename_i hr
    rw [if_neg (fun hc => hr hc.1)]

theorem sampleStairs_stair (s : State) {i : Nat} (hi : i < 4) : s.sampleStairs.stair i =
    if s.actsAs .floor = true ∧ (s.stair i).present = true then (s.stair i).sample s.pins i else s.stair i := by
  unfold State.sampleStairs
  split
  · rename_i hr
    rw [if_congr (and_iff_right hr) rfl rfl]
    exact Tab.at_mapIdx _ _ _ (Stair.atReset false 0) _ hi
  · rename_i hr
    rw [if_neg (fun hc => hr hc.1)]

theorem sampleCars_car (s : State) {c : Nat} (hc : c < 4) : s.sampleCars.car c =
    if s.actsAs .lift = true ∧ (s.car c).present = true then (s.car c).sample s.pins c else s.car c := by
  unfold State.sampleCars
  split
  · rename_i hr
    rw [if_congr (and_iff_right hr) rfl rfl]
    exact Tab.at_mapIdx _ _ _ (Car.atReset false) _ hc
  · rename_i hr
    rw [if_neg (fun h => hr h.1)]

/-- The timers of the field records. -/
theorem runTimers_zone (s : State) {z : Nat} (hz : z < 8) :
    s.runTimers.zone z = { s.zone z with stage := (s.zone z).stage.tick } := Tab.at_map _ _ _ (Zone.atReset .unused) _ hz

theorem runTimers_stair (s : State) {i : Nat} (hi : i < 4) : s.runTimers.stair i =
    { s.stair i with mismatch := (s.stair i).mismatch.tick, heldOpen := (s.stair i).heldOpen.tick } :=
  Tab.at_map _ _ _ (Stair.atReset false 0) _ hi

theorem runTimers_car (s : State) {c : Nat} (hc : c < 4) :
    s.runTimers.car c = { s.car c with recallTimer := (s.car c).recallTimer.tick } :=
  Tab.at_map _ _ _ (Car.atReset false) _ hc

/-- A block acts in its role at an acting station. -/
theorem State.actsAs_of_acts {s : State} (h : s.acts = true) (r : Role) : s.actsAs r = true ↔ s.station.role = some r := by
  rw [State.actsAs_iff]
  exact and_iff_right h

theorem Touches.actsAs_iff {ps : List Part} {s t : State} (h : Touches ps s t) (hl : .lifecycle ∉ ps) (hi : .identity ∉ ps)
    (hacts : s.acts = true) (r : Role) : t.actsAs r = true ↔ s.station.role = some r := by
  have ht : t.acts = true := by
    unfold State.acts
    rw [h.lifecycle_eq hl]
    exact hacts
  rw [State.actsAs_of_acts ht, h.role_eq hi]

/-- A zone after the tick event. -/
theorem tickEvent_zone {s : State} (h : s.acts = true) (pins : Inputs) {z : Nat} (hz : z < 8) :
    (s.tickEvent pins).zone z =
      if s.station.role = some .floor ∧ (s.zone z).classified = true
        then { (s.zone z).sample (loopClass (pins.reading z)) with stage := (s.zone z).stage.tick }
      else { s.zone z with stage := (s.zone z).stage.tick } := by
  have hlater (t : State) : t.sampleStairs.sampleCars.tickCadence.zones = t.zones := by
    rw [(touches_tickCadence _).zones_eq (by decide), (touches_sampleCars _).zones_eq (by decide),
      (touches_sampleStairs _).zones_eq (by decide)]
  have hzone : (s.tickEvent pins).zone z = (s.ticked pins).runTimers.sampleZones.zone z := by
    rw [tickEvent_of_acts h]
    unfold State.zone
    rw [hlater]
  rw [hzone, sampleZones_zone _ hz, runTimers_zone _ hz]
  exact if_congr (and_congr (State.actsAs_of_acts h .floor) Iff.rfl) (Zone.sample_withStage _ _ _) rfl

/-- A stair after the tick event. -/
theorem tickEvent_stair {s : State} (h : s.acts = true) (pins : Inputs) {i : Nat} (hi : i < 4) :
    (s.tickEvent pins).stair i =
      let timed := { s.stair i with mismatch := (s.stair i).mismatch.tick, heldOpen := (s.stair i).heldOpen.tick }
      if s.station.role = some .floor ∧ timed.present = true then timed.sample pins i else timed := by
  have hearlier : (s.ticked pins).runTimers.sampleZones.stair i = (s.ticked pins).runTimers.stair i := by
    unfold State.stair
    rw [(touches_sampleZones _).stairs_eq (by decide)]
  have hstair : (s.tickEvent pins).stair i = (s.ticked pins).runTimers.sampleZones.sampleStairs.stair i := by
    rw [tickEvent_of_acts h]
    unfold State.stair
    rw [(touches_tickCadence _).stairs_eq (by decide), (touches_sampleCars _).stairs_eq (by decide)]
  rw [hstair, sampleStairs_stair _ hi, hearlier, runTimers_stair _ hi, (touches_sampleZones _).pins_eq (by decide)]
  exact if_congr (and_congr ((touches_sampleZones (s.ticked pins).runTimers).actsAs_iff (by decide) (by decide) h
    .floor) Iff.rfl) rfl rfl

/-- A car after the tick event. -/
theorem tickEvent_car {s : State} (h : s.acts = true) (pins : Inputs) {c : Nat} (hc : c < 4) :
    (s.tickEvent pins).car c =
      let timed := { s.car c with recallTimer := (s.car c).recallTimer.tick }
      if s.station.role = some .lift ∧ timed.present = true then timed.sample pins c else timed := by
  have hbefore := (touches_sampleZones (s.ticked pins).runTimers).andThen (touches_sampleStairs _) (rs := [.zones, .stairs])
    (by decide) (by decide)
  have hearlier : (s.ticked pins).runTimers.sampleZones.sampleStairs.car c = (s.ticked pins).runTimers.car c := by
    unfold State.car
    rw [hbefore.cars_eq (by decide)]
  have hcar : (s.tickEvent pins).car c = (s.ticked pins).runTimers.sampleZones.sampleStairs.sampleCars.car c := by
    rw [tickEvent_of_acts h]
    unfold State.car
    rw [(touches_tickCadence _).cars_eq (by decide)]
  rw [hcar, sampleCars_car _ hc, hearlier, runTimers_car _ hc, hbefore.pins_eq (by decide)]
  exact if_congr (and_congr (hbefore.actsAs_iff (by decide) (by decide) h .lift) Iff.rfl) rfl rfl

/-- The cadences of a FLOOR station after the tick event. -/
theorem tickEvent_cadence {s : State} (h : s.acts = true) (hr : s.station.role = some .floor) (pins : Inputs) :
    (s.tickEvent pins).cadence = { s.cadence with
      alert := s.cadence.alert.tick s.image.alertCadence,
      evac := s.cadence.evac.tick s.image.evacCadence,
      bellLow := if s.cadence.bell.isSome then s.cadence.bellLow else s.cadence.bellLow.map (fun n => min 255 (n + 1)),
      strobe := s.cadence.strobe.tick } := by
  have hbefore : Touches [.zones, .stairs, .cars] (s.ticked pins).runTimers
      (s.ticked pins).runTimers.sampleZones.sampleStairs.sampleCars :=
    ((touches_sampleZones _).andThen (touches_sampleStairs _) (by decide) (by decide)).andThen (touches_sampleCars _)
      (ps := [.zones, .stairs]) (by decide) (by decide)
  rw [tickEvent_of_acts h]
  unfold State.tickCadence
  rw [if_pos ((hbefore.actsAs_iff (by decide) (by decide) h .floor).2 hr), hbefore.cadence_eq (by decide),
    hbefore.image_eq (by decide)]
  rfl

theorem CadenceUnit.record_tick (u : CadenceUnit) (i : Image) (b : Timer) (t : Timer) (k : CadenceKind) :
    CadenceUnit.record { u with
      alert := u.alert.tick i.alertCadence, evac := u.evac.tick i.evacCadence, bellLow := b, strobe := t } k
      = (u.record k).tick (i.cadence k) := by
  cases k <;> rfl

/-- One tick event on a started cycle, and on a run before its first (R155, R158). -/
theorem Cadence.tick_eq (p : CadenceParams) (c : Cadence) :
    (c.tick p).standing = c.standing.tick ∧ (c.tick p).run = c.run
    ∧ (c.run = .stopped → (c.tick p).pos = c.pos ∧ (c.tick p).cycleDue = c.cycleDue
        ∧ (c.tick p).boundaryDue = c.boundaryDue)
    ∧ (c.run ≠ .stopped → c.pos = none → (c.tick p).pos = none ∧ (c.tick p).cycleDue = true)
    ∧ (∀ n, c.run ≠ .stopped → c.pos = some n → (c.tick p).pos = some (n + 1)
        ∧ (c.tick p).cycleDue = decide (c.cycleLength p ≤ n + 1)
        ∧ (c.tick p).boundaryDue = decide (n + 1 < c.cycleLength p ∧ n + 1 ≤ p.tail ∧ (n + 1) % p.half = 0)) := by
  unfold Cadence.tick
  dsimp only
  split
  · rename_i hr
    exact ⟨rfl, rfl, fun _ => ⟨rfl, rfl, rfl⟩, fun h => absurd hr h, fun _ h => absurd hr h⟩
  · rename_i hr
    split
    · rename_i hp
      exact ⟨rfl, rfl, fun h => absurd h hr, fun _ _ => ⟨hp, rfl⟩, fun n _ h => by rw [hp] at h; cases h⟩
    · rename_i n hp
      refine ⟨rfl, rfl, fun h => absurd h hr, fun _ h => absurd (hp.symm.trans h) nofun, fun m _ h => ?_⟩
      obtain rfl : n = m := by rw [hp] at h; exact Option.some.inj h
      exact ⟨rfl, rfl, by simp [CadenceParams.boundary, beq_eq_decide]⟩

/-! ### HALTED -/

/-- Commands that leave a state leave it in turn. -/
theorem foldl_after_same {s : State} {l : List Instr} (h : ∀ c ∈ l, exec c s = .next s) : l.foldl State.after s = s := by
  induction l with
  | nil => rfl
  | cons c rest ih =>
    have hc : s.after c = s := by
      have := h c List.mem_cons_self
      rw [exec_eq_after] at this
      exact Host.Outcome.next.inj this
    rw [List.foldl_cons, hc]
    exact ih fun d hd => h d (List.mem_cons_of_mem c hd)

/-- The FAULT lamp of a halted station turns over when its half period has run out (R5). -/
theorem onFlash_halted (s : State) :
    (s.onFlash .haltedFault).lamps.haltLit = (if s.lamps.haltFlash = some 0 then !s.lamps.haltLit else s.lamps.haltLit)
    ∧ (s.onFlash .haltedFault).lamps.haltFlash = (if s.lamps.haltFlash = some 0 then some 25 else s.lamps.haltFlash) := by
  show (if s.lamps.haltFlash.due then _ else s : State).lamps.haltLit = _
    ∧ (if s.lamps.haltFlash.due then _ else s : State).lamps.haltFlash = _
  simp only [Timer.due_iff]
  split <;> exact ⟨rfl, rfl⟩

theorem settle_haltLamp (s : State) :
    s.settle.lamps.haltLit = (if s.lamps.haltFlash = some 0 then !s.lamps.haltLit else s.lamps.haltLit)
    ∧ s.settle.lamps.haltFlash = (if s.lamps.haltFlash = some 0 then some 25 else s.lamps.haltFlash) := by
  obtain ⟨t, hbefore, hafter⟩ := touches_settle_around s
  have hstart := touches_onSecond s
  have hlit := (hbefore.haltLit_eq (by decide)).trans (hstart.haltLit_eq (by decide))
  have htime := (hbefore.haltFlash_eq (by decide)).trans (hstart.haltFlash_eq (by decide))
  rw [hafter.haltLit_eq (by decide), hafter.haltFlash_eq (by decide), ← hlit, ← htime]
  exact onFlash_halted t

theorem outputs_of_halted {s : State} (h : s.station.lifecycle = .halted) :
    s.outputs = { Outputs.atReset with faultLamp := s.lamps.haltLit } := by
  unfold State.outputs
  rw [h]

theorem State.ticked_outputs {s : State} (pins : Inputs) (h : s.station.lifecycle = .halted) :
    (s.ticked pins).outputs = { Outputs.atReset with faultLamp := s.lamps.haltLit } := outputs_of_halted h

theorem State.ticked_haltLit (pins : Inputs) (s : State) : (s.ticked pins).lamps.haltLit = s.lamps.haltLit := rfl

theorem State.ticked_haltFlash (pins : Inputs) (s : State) :
    (s.ticked pins).lamps.haltFlash = s.lamps.haltFlash.tick := rfl

/-- Settles O43: the tick event proper, block by block, on the state in which nothing is left due. -/
theorem tickRunsTimersAndSamples : Obligations.TickRunsTimersAndSamples := by
  refine ⟨fun pins s hacts => ⟨_, execTick_eq pins s ?_, ?_⟩, fun s h => foldl_after_same h, fun pins s hl =>
    ⟨_, exec_of_after_eq (after_tick (by simp [hl]) pins), ?_⟩⟩
  · simp only [State.acts] at hacts
    intro hr
    simp [hr] at hacts
  · have hu : s.caughtUp.acts = true := by rw [← settle_eq_caughtUp, (evolves_settle s).acts, hacts]
    generalize s.caughtUp = u at hu ⊢
    have ht := touches_samples (u.ticked pins).runTimers
    rw [← tickEvent_of_acts hu pins] at ht
    refine ⟨ht.listenTimer_eq (by decide), ht.holdOff_eq (by decide), ht.heartbeat_eq (by decide), ht.spacing_eq (by decide),
      ht.speaker_eq (by decide), ht.authority_eq (by decide), ht.link_eq (by decide),
      ht.lamps_eq (by decide) (by decide) (by decide) (by decide), fun z hz => ?zone, fun i hi => ?stair, fun c hc => ?car,
      fun hr => ?cadence⟩
    case zone =>
      rw [tickEvent_zone hu pins hz]
      obtain ⟨hstate, haccepted, hstage, hcandidate, hrun⟩ := Zone.sample_eq (loopClass (pins.reading z)) (u.zone z)
      by_cases hc : u.station.role = some .floor ∧ (u.zone z).classified = true
      · rw [if_pos hc]
        refine ⟨hstate, haccepted, rfl, ?_⟩
        rw [if_pos (by rw [← Zone.classified_iff]; exact hc)]
        exact ⟨hcandidate, hrun⟩
      · rw [if_neg hc]
        refine ⟨rfl, rfl, rfl, ?_⟩
        rw [if_neg (by rw [← Zone.classified_iff]; exact hc)]
        exact ⟨rfl, rfl⟩
    case stair =>
      rw [tickEvent_stair hu pins hi]
      dsimp only
      split
      · exact ⟨rfl, rfl, rfl, Debounced.sample_eq _ _, Debounced.sample_eq _ _, Debounced.sample_eq _ _⟩
      · exact ⟨rfl, rfl, rfl, rfl, rfl, rfl⟩
    case car =>
      rw [tickEvent_car hu pins hc]
      dsimp only
      split
      · exact ⟨rfl, rfl, Debounced.sample_eq _ _, Debounced.sample_eq _ _, Debounced.sample_eq _ _,
          Debounced.sample_eq _ _, Debounced.sample_eq _ _⟩
      · exact ⟨rfl, rfl, fun _ => rfl⟩
    case cadence =>
      rw [tickEvent_cadence hu hr pins]
      refine ⟨rfl, rfl, rfl, fun k => ?_⟩
      rw [CadenceUnit.record_tick]
      exact Cadence.tick_eq (u.image.cadence k) (u.cadence.record k)
  · have hlife : s.settle.station.lifecycle = .halted :=
      (evolves_settle s).lifecycle.elim (·.trans hl) (fun h => absurd (hl.symm.trans h.1) nofun)
    obtain ⟨hlit, hflash⟩ := settle_haltLamp s
    rw [tickEvent_of_not_acts (by simp [State.acts, hlife])]
    rw [State.ticked_outputs pins hlife, State.ticked_haltLit, State.ticked_haltFlash, hlit, hflash]
    refine ⟨rfl, ?_, rfl⟩
    split <;> rfl

end Sys2Proof.Machine
end

section
/-! ## An own alarm: loopback, origin, EVACUATE (R13, R67, R94, R96, R101) -/

namespace Sys2Proof.Machine

/-! ### Phases -/

theorem Phase.max_evacuate_left (p : Phase) : Phase.evacuate.max p = .evacuate := by cases p <;> rfl

theorem Phase.max_evacuate_right (p : Phase) : p.max .evacuate = .evacuate := by cases p <;> rfl

/-- One record in whose band the floor lies makes it EVACUATE. -/
theorem foldl_phase_evacuate (i : Image) (f : Nat) {origins : List Spread} {p : Phase}
    (h : p = .evacuate ∨ ∃ r ∈ origins, r.phase i f = .evacuate) :
    origins.foldl (fun p r => p.max (r.phase i f)) p = .evacuate := by
  induction origins generalizing p with
  | nil => exact h.resolve_right (by simp)
  | cons r rest ih =>
    refine ih ?_
    rcases h with rfl | ⟨x, hx, hphase⟩
    · exact .inl (Phase.max_evacuate_left _)
    · rcases List.mem_cons.1 hx with rfl | hx
      · exact .inl (hphase ▸ Phase.max_evacuate_right p)
      · exact .inr ⟨x, hx, hphase⟩

theorem computed_evacuate {i : Image} {r : Regime} {f : Nat} (huse : i.inUse f = true) (hactive : r.active = true)
    (h : r.general = true ∨ ∃ x ∈ r.origins, x.phase i f = .evacuate) : r.computed i f = .evacuate := by
  unfold Regime.computed
  rw [if_neg (by simp [huse, hactive])]
  split
  · rfl
  · rename_i hg
    exact foldl_phase_evacuate i f (.inr (h.resolve_left (by simpa using hg)))

theorem recompute_phaseOf (s : State) {f : Nat} (hf : f < 48) :
    s.recompute.phaseOf f = (s.phaseOf f).max (s.regime.computed s.image f) :=
  Tab.at_mapIdx s.regime.phases f (fun f p => p.max (s.regime.computed s.image f)) .quiet .quiet hf

theorem recompute_evacuate {s : State} {f : Nat} (hf : f < 48)
    (h : s.phaseOf f = .evacuate ∨ s.regime.computed s.image f = .evacuate) : s.recompute.phaseOf f = .evacuate := by
  rw [recompute_phaseOf s hf]
  rcases h with h | h <;> rw [h]
  · exact Phase.max_evacuate_left _
  · exact Phase.max_evacuate_right _

/-! ### The floor of a first own alarm -/

/-- The regime is active, the floor EVACUATE, and an origin or refused under GENERAL. -/
structure State.Burns (f : Nat) (s : State) : Prop where
  active : s.regime.active = true
  phase : s.phaseOf f = .evacuate
  listed : f ∈ s.regime.originFloors ∨ s.regime.general = true ∧ s.regime.overflow.getLsbD f = true

theorem onset_phase {i : Image} {f : Nat} (huse : i.inUse f = true) : (Spread.onset i f).phase i f = .evacuate := by
  simp only [Image.inUse, Bool.and_eq_true, decide_eq_true_eq] at huse
  obtain ⟨hlow, hhigh⟩ := huse
  exact if_pos ⟨Nat.max_le.2 ⟨hlow, Nat.sub_le _ _⟩, Nat.le_min.2 ⟨hhigh, Nat.le_add_right _ _⟩⟩

/-- An origin latched now owes no tick. -/
theorem onset_applyOwed (i : Image) (f : Nat) :
    Spread.applyOwed i { Spread.onset i f with elapsed := 0 } = Spread.onset i f := by
  unfold Spread.applyOwed
  rw [Nat.zero_div, Nat.zero_sub]
  rfl

theorem resound_regime (r : Regime) : r.resound.origins = r.origins ∧ r.resound.general = r.general
    ∧ r.resound.overflow = r.overflow ∧ r.resound.phases = r.phases := by
  unfold Regime.resound
  split <;> exact ⟨rfl, rfl, rfl, rfl⟩

/-- A floor that the list has already. -/
theorem burns_of_listed {s : State} {f : Nat} (h : s.regimeLaw) (hf : f ∈ s.regime.originFloors) : s.Burns f := by
  obtain ⟨-, -, horigins, -⟩ := h
  obtain ⟨r, hr, rfl⟩ := List.mem_map.1 hf
  refine ⟨?_, (horigins r hr).2.1, .inl hf⟩
  cases ho : s.regime.origins with
  | nil => rw [ho] at hr; cases hr
  | cons x xs => simp [Regime.active, ho]

theorem recompute_burns {s : State} {f : Nat} (hf : f < 48) (h : s.Burns f) : s.recompute.Burns f :=
  ⟨h.active, recompute_evacuate hf (.inl h.phase), h.listed⟩

/-- GENERAL makes every floor of the building EVACUATE (R103). -/
theorem setGeneral_burns {s : State} {f : Nat} (hf : f < 48) (huse : s.image.inUse f = true)
    (hrefused : s.regime.overflow.getLsbD f = true) (hphase : s.regime.general = true → s.phaseOf f = .evacuate) :
    s.setGeneral.Burns f := by
  unfold State.setGeneral
  split
  · rename_i hg
    exact ⟨by simp [Regime.active, hg], hphase hg, .inr ⟨hg, hrefused⟩⟩
  · have hactive : Regime.active { s.regime with general := true } = true := by simp [Regime.active]
    exact ⟨hactive, recompute_evacuate hf (.inr (computed_evacuate huse hactive (.inl rfl))), .inr ⟨rfl, hrefused⟩⟩

/-- A floor refused for a full list (R96). -/
theorem refuseOrigin_burns {s : State} {f : Nat} (h : s.regimeLaw) (hf : f < 48) (huse : s.image.inUse f = true) :
    (s.refuseOrigin f).Burns f := by
  obtain ⟨-, -, -, -, hgeneral, -⟩ := h
  unfold State.refuseOrigin
  dsimp only
  split
  · rename_i hrefused
    exact setGeneral_burns hf huse hrefused (hgeneral f hf huse)
  · refine setGeneral_burns hf huse ?_ (hgeneral f hf huse)
    show (s.regime.overflow ||| BitVec.twoPow 48 f).getLsbD f = true
    simp [hf]

/-- A floor added to the list (R94). -/
theorem onset_burns {s : State} {f : Nat} {r : Regime} (hf : f < 48) (huse : s.image.inUse f = true)
    (horigins : r.origins = s.regime.origins ++ [Spread.onset s.image f]) :
    (State.recompute { s with regime := r }).Burns f := by
  have hactive : r.active = true := by simp [Regime.active, horigins]
  have hmem : Spread.onset s.image f ∈ r.origins := by rw [horigins]; exact List.mem_append_right _ List.mem_cons_self
  refine ⟨hactive, recompute_evacuate hf (.inr ?_), .inl (List.mem_map.2 ⟨_, hmem, rfl⟩)⟩
  exact computed_evacuate huse hactive (.inr ⟨_, hmem, onset_phase huse⟩)

/-- A floor whose alarm latch is first set (R94). -/
theorem latchOrigin_burns {s : State} {f : Nat} (h : s.regimeLaw) (hf : f < 48) (huse : s.image.inUse f = true) :
    (s.latchOrigin f).Burns f := by
  unfold State.latchOrigin State.addOrigin
  split
  · rename_i hc
    refine recompute_burns hf (burns_of_listed h ?_)
    simpa [huse] using hc
  · split
    · dsimp only
      rw [onset_applyOwed]
      exact onset_burns hf huse (resound_regime _).1
    · exact recompute_burns hf (refuseOrigin_burns h hf huse)

/-! ### What an event keeps of an own alarm -/

/-- A FLOOR station whose zone is in ALARM, its entry latched, under this view. -/
structure State.Alarmed (own z : Nat) (lobby : Bool) (view : Regime) (s : State) : Prop where
  address : s.station.address = own
  zone : (s.zone z).state = .alarm
  latch : (s.floorEntry own).alarmLatch = true
  lobbyLatch : lobby = true → (s.floorEntry own).lobbyLatch = true
  regime : s.regime = view

theorem Touches.regime_eq {ps : List Part} {s t : State} (h : Touches ps s t) (hg : .generation ∉ ps) (hgen : .general ∉ ps)
    (hh : .holdEpoch ∉ ps) (hs : .silenceEpoch ∉ ps) (ho : .origins ∉ ps) (hp : .phases ∉ ps) : t.regime = s.regime := by
  have h1 := h.generation_eq hg
  have h2 := h.general_eq hgen
  have h3 := h.holdEpoch_eq hh
  have h4 := h.silenceEpoch_eq hs
  have h5 := h.origins_eq ho
  have h6 := h.overflow_eq ho
  have h7 := h.phases_eq hp
  cases ht : t.regime
  cases hs : s.regime
  simp_all

/-- The parts that an own alarm does not lie in. -/
def Part.besideAlarm : List Part :=
  [.faults, .lifecycle, .heartbeat, .runLamp, .stairs, .cars, .speaker, .cadence, .alarmLamp, .changeDue, .statusSlot]

section
variable {own z : Nat} {lobby : Bool} {view : Regime}

theorem State.Alarmed.congr {ps : List Part} {s t : State} (h : s.Alarmed own z lobby view) (ht : Touches ps s t)
    (hps : ps ⊆ Part.besideAlarm) : t.Alarmed own z lobby view := by
  have ht := ht.mono hps
  have hfloor : t.floorEntry own = s.floorEntry own := by unfold State.floorEntry; rw [ht.floors_eq (by decide)]
  exact {
    address := (ht.address_eq (by decide)).trans h.address
    zone := by unfold State.zone; rw [ht.zones_eq (by decide)]; exact h.zone
    latch := hfloor ▸ h.latch
    lobbyLatch := hfloor ▸ h.lobbyLatch
    regime := (ht.regime_eq (by decide) (by decide) (by decide) (by decide) (by decide) (by decide)).trans h.regime }

/-- Another zone's record changes. -/
theorem State.Alarmed.updZone {s : State} (h : s.Alarmed own z lobby view) {y : Nat} (hy : z ≠ y) (f : Zone → Zone) :
    (s.updZone y f).Alarmed own z lobby view :=
  { h with zone := by rw [State.zone, State.updZone, Tab.at_upd_ne _ _ _ _ _ hy]; exact h.zone }

/-- The own entry is written again, its latches standing. -/
theorem State.Alarmed.updFloor {s : State} (h : s.Alarmed own z lobby view) (hown : own < 48)
    {f : FloorEntry → FloorEntry} (hlatch : ∀ e, e.alarmLatch = true → (f e).alarmLatch = true)
    (hlobby : ∀ e, e.lobbyLatch = true → (f e).lobbyLatch = true) :
    State.Alarmed own z lobby view { s with peers := s.peers.updFloor own f } :=
  { h with
    latch := by rw [floorEntry_updFloor_self s own f hown]; exact hlatch _ h.latch
    lobbyLatch := fun hl => by rw [floorEntry_updFloor_self s own f hown]; exact hlobby _ (h.lobbyLatch hl) }

/-- The alarm of another zone finds the latch set, and makes no origin (R94). -/
theorem State.Alarmed.alarmEntered {s : State} (h : s.Alarmed own z lobby view) (hown : own < 48) (y : Nat) :
    (s.alarmEntered y).Alarmed own z lobby view := by
  unfold State.alarmEntered
  rw [h.address]
  have hfirst : (!(s.floorEntry own).alarmLatch) = false := by simp [h.latch]
  simp only [hfirst, Bool.false_eq_true, if_false]
  have hlatched := h.updFloor hown (f := fun e => { e with
    alarmLatch := true, lobbyLatch := e.lobbyLatch || (s.zone y).kind == .lobby }) (fun _ _ => rfl)
    (fun e he => by simp [he])
  split
  · exact hlatched.congr (touches_runEntry _) (by decide)
  · exact hlatched

theorem State.Alarmed.acceptClass {s : State} (h : s.Alarmed own z lobby view) (hown : own < 48) {y : Nat} (hy : z ≠ y)
    (c : LoopClass) : (s.acceptClass y c).Alarmed own z lobby view := by
  unfold State.acceptClass
  dsimp only
  have hrecord (e : Nat) (f : Zone → Zone) : ((s.zoneFaults y c).changeZone y e f).Alarmed own z lobby view :=
    (h.congr (touches_zoneFaults y c s) (by decide)).updZone hy _
  split
  · exact (hrecord _ _).alarmEntered hown y
  · exact hrecord _ _

theorem State.Alarmed.activateZone {s : State} (h : s.Alarmed own z lobby view) (hown : own < 48) (y : Nat) :
    (s.activateZone y).Alarmed own z lobby view := by
  unfold State.activateZone
  dsimp only
  split
  · rename_i hc
    have hy : z ≠ y := by rintro rfl; exact absurd (h.zone.symm.trans hc.2) nofun
    have hstage := h.updZone hy (fun x => { x with stage := none })
    split
    · exact hstage.acceptClass hown hy .alarm
    · exact hstage
  · exact h

theorem State.Alarmed.foldl {α : Type} (f : State → α → State)
    (hf : ∀ t x, t.Alarmed own z lobby view → (f t x).Alarmed own z lobby view) (l : List α) {s : State}
    (h : s.Alarmed own z lobby view) : (l.foldl f s).Alarmed own z lobby view := by
  induction l generalizing s with
  | nil => exact h
  | cons x xs ih => exact ih (hf s x h)

/-- Loopback leaves the latches (R75). -/
theorem State.Alarmed.loopback {s : State} (h : s.Alarmed own z lobby view) (hown : own < 48) :
    s.loopback.Alarmed own z lobby view := by
  unfold State.loopback
  rw [h.address]
  dsimp only
  split
  · exact h.updFloor hown (fun _ he => he) (fun _ he => he)
  · exact { h with }
  · exact { h with }
  · exact h

theorem State.Alarmed.react {s : State} (h : s.Alarmed own z lobby view) (hown : own < 48) (old : State) (c b : Bool) :
    State.Alarmed own z lobby view
      (((State.speakerReact old b ((s.stairsReact c b).liftsReact b)).cadenceReact.alarmLampReact).loopback.builderReact
        old) := by
  have hfield := (h.congr (touches_stairsReact c b s) (by decide)).congr (touches_liftsReact b _) (by decide)
  have hsound := (hfield.congr (touches_speakerReact old b _) (by decide)).congr (touches_cadenceReact _) (by decide)
  exact ((hsound.congr (touches_alarmLampReact _) (by decide)).loopback hown).congr (touches_builderReact old _) (by decide)

theorem State.Alarmed.zonesActivated {s : State} (h : s.Alarmed own z lobby view) (hown : own < 48) :
    s.zonesActivated.Alarmed own z lobby view := by
  unfold State.zonesActivated
  split
  · exact h.foldl _ (fun t y ht => ht.activateZone hown y) _
  · exact h

theorem State.Alarmed.finish {s : State} (h : s.Alarmed own z lobby view) (hown : own < 48) (old : State) :
    (s.finish old).Alarmed own z lobby view := by
  unfold State.finish
  dsimp only
  split
  · exact h
  · split
    · exact (h.zonesActivated hown).react hown old _ _
    · exact h.react hown old _ _

end

/-! ### The acceptance of the ALARM class -/

theorem State.Burns.congr {s t : State} {f : Nat} (h : s.Burns f) (hr : t.regime = s.regime) : t.Burns f := by
  obtain ⟨hactive, hphase, hlisted⟩ := h
  refine ⟨hr ▸ hactive, ?_, hr ▸ hlisted⟩
  unfold State.phaseOf at *
  rw [hr]
  exact hphase

/-- The own floor entry latched by an alarm of zone `z` (R67, R82). -/
def State.alarmLatched (z : Nat) (s : State) : State :=
  { s with peers := s.peers.updFloor s.station.address (fun e =>
    { e with alarmLatch := true, lobbyLatch := e.lobbyLatch || (s.zone z).kind == .lobby }) }

/-- The origin of a first own alarm (R94). -/
def State.alarmOrigin (z : Nat) (s : State) : State :=
  if !(s.floorEntry s.station.address).alarmLatch then (s.alarmLatched z).latchOrigin s.station.address
  else s.alarmLatched z

theorem alarmEntered_eq (z : Nat) (s : State) : s.alarmEntered z =
    if (s.alarmOrigin z).station.lifecycle == .listen then (s.alarmOrigin z).runEntry else s.alarmOrigin z := rfl

/-- What the origin of an own alarm may change. -/
theorem touches_alarmOrigin (z : Nat) (s : State) :
    Touches [.origins, .silenceEpoch, .faults, .general, .phases] (s.alarmLatched z) (s.alarmOrigin z) :=
  .ite (touches_latchOrigin _ _) (.refl _ _)

theorem alarmLatched_alarmed {s : State} {z : Nat} (hown : s.station.address < 48) (hzone : (s.zone z).state = .alarm) :
    (s.alarmLatched z).Alarmed s.station.address z ((s.zone z).kind == .lobby) s.regime where
  address := rfl
  zone := hzone
  latch := by rw [State.alarmLatched, floorEntry_updFloor_self _ _ _ hown]
  lobbyLatch := fun hl => by rw [State.alarmLatched, floorEntry_updFloor_self _ _ _ hown]; simp [hl]
  regime := rfl

theorem alarmOrigin_alarmed {s : State} {z : Nat} (hown : s.station.address < 48) (hzone : (s.zone z).state = .alarm) :
    (s.alarmOrigin z).Alarmed s.station.address z ((s.zone z).kind == .lobby) (s.alarmOrigin z).regime := by
  have h := alarmLatched_alarmed hown hzone
  have ht := touches_alarmOrigin z s
  have hfloor (f : Nat) : (s.alarmOrigin z).floorEntry f = (s.alarmLatched z).floorEntry f := by
    unfold State.floorEntry
    rw [ht.floors_eq (by decide)]
  exact {
    address := (ht.address_eq (by decide)).trans h.address
    zone := by unfold State.zone; rw [ht.zones_eq (by decide)]; exact h.zone
    latch := by rw [hfloor]; exact h.latch
    lobbyLatch := by rw [hfloor]; exact h.lobbyLatch
    regime := rfl }

/-- The latches, the lifecycle and, for the first own alarm, the origin (R13, R67, R94). -/
theorem alarmEntered_alarmed {s : State} {z : Nat} (hacts : s.acts = true) (hown : s.station.address < 48)
    (hzone : (s.zone z).state = .alarm) :
    (s.alarmEntered z).Alarmed s.station.address z ((s.zone z).kind == .lobby) (s.alarmOrigin z).regime
    ∧ (s.alarmEntered z).station.lifecycle = .run := by
  have h := alarmOrigin_alarmed hown hzone
  have hlife : (s.alarmOrigin z).station.lifecycle = s.station.lifecycle :=
    (touches_alarmOrigin z s).lifecycle_eq (by decide)
  rw [alarmEntered_eq]
  split
  · exact ⟨h.congr (touches_runEntry _) (by decide), rfl⟩
  · rename_i hl
    rw [hlife] at hl ⊢
    simp only [State.acts, Bool.or_eq_true, beq_iff_eq] at hacts hl
    exact ⟨h, hacts.resolve_left hl⟩

theorem alarmOrigin_burns {s : State} {z : Nat} (hown : s.station.address < 48) (h : s.regimeLaw)
    (huse : s.image.inUse s.station.address = true) (hfirst : (s.floorEntry s.station.address).alarmLatch = false) :
    (s.alarmOrigin z).Burns s.station.address := by
  unfold State.alarmOrigin
  rw [if_pos (by simp [hfirst])]
  exact latchOrigin_burns (s := s.alarmLatched z) h hown huse

/-- The record of a zone that accepts the ALARM class (R60, R62, R64 to R66). -/
theorem nextState_alarm {zn : Zone} {active : Bool}
    (h : zn.state = .verifyConfirm
      ∨ (zn.state = .normal ∨ zn.state = .fault) ∧ (zn.verified = false ∨ active = true)) :
    zn.nextState active .alarm = .alarm ∧ zn.state ≠ .alarm := by
  unfold Zone.nextState
  rcases h with h | ⟨h | h, hv⟩
  · simp [h]
  · rcases hv with hv | hv <;> simp [h, hv]
  · rcases hv with hv | hv <;> simp [h, hv]

/-- The zone record as the ALARM class is accepted, before its loopback. -/
def State.alarmRecorded (z : Nat) (s : State) : State :=
  (s.zoneFaults z .alarm).changeZone z (if (s.zone z).accepted = none then 0 else 1)
    (Zone.acceptClass s.regime.active .alarm)

theorem alarmRecorded_zone (s : State) {z : Nat} (hz : z < 8) :
    ((s.alarmRecorded z).zone z).state = (s.zone z).nextState s.regime.active .alarm
    ∧ ((s.alarmRecorded z).zone z).kind = (s.zone z).kind := by
  have h : (s.alarmRecorded z).zone z = (s.zone z).account (if (s.zone z).accepted = none then 0 else 1)
      ((s.zone z).acceptClass s.regime.active .alarm) :=
    Tab.at_upd_self _ _ _ _ hz
  rw [h]
  exact ⟨rfl, rfl⟩

/-- Settles O34: the loopback of the alarm, which the reactions and the alarms of other zones leave. -/
theorem zoneAlarmStartsTheRegime : Obligations.ZoneAlarmStartsTheRegime := by
  intro z s hfloor hstation hregime hdue hcandidate hstate
  obtain ⟨hacts, hrole⟩ := (s.actsAs_iff .floor).1 hfloor
  have hown : s.station.address < 48 := roleOf_floor.1 ((hstation.1 hacts).1.symm.trans hrole)
  obtain ⟨hnext, hfresh⟩ := nextState_alarm hstate
  have haccept : s.acceptClass z .alarm = (s.alarmRecorded z).alarmEntered z := if_pos ⟨hfresh, hnext⟩
  obtain ⟨hzone, hkind⟩ := alarmRecorded_zone s z.isLt
  obtain ⟨halarmed, hrun⟩ := alarmEntered_alarmed (s := s.alarmRecorded z) hacts hown (hzone.trans hnext)
  have hafter : s.after (.loopClassAccepted z) = ((s.alarmRecorded z).alarmEntered z).finish s := by
    refine (event_of_due (by simp [hfloor, hdue]) _ s).trans ?_
    rw [hcandidate]
    exact congrArg (fun t => State.finish t s) haccept
  have h := halarmed.finish hown s
  have hlife : (((s.alarmRecorded z).alarmEntered z).finish s).station.lifecycle = .run :=
    (evolves_finish _ s).lifecycle.elim (·.trans hrun) (·.2)
  refine ⟨_, exec_of_after_eq hafter, h.zone, hlife, h.latch, fun hl => h.lobbyLatch (by simp [hkind, hl]), fun hfirst huse => ?_⟩
  have hburns := (alarmOrigin_burns (s := s.alarmRecorded z) (z := z) hown hregime huse hfirst).congr h.regime
  exact ⟨hburns.active, hburns.phase, hburns.listed⟩

end Sys2Proof.Machine
end

section
/-! ## The second event on the spread records and the phases (R97 to R102) -/

namespace Sys2Proof.Machine

/-! ### Spread records -/

/-- The law of the spread record without its clauses on the elapsed seconds. -/
structure Spread.InBand (i : Image) (r : Spread) : Prop where
  low : i.low ≤ r.downEdge
  down : r.downEdge ≤ r.origin
  up : r.origin ≤ r.upEdge
  high : r.upEdge ≤ i.high
  upEdge : r.upEdge = i.upAt r.origin r.applied
  downEdge : r.downEdge = i.downAt r.origin r.applied
  accUp : r.accUp < i.up.d
  sumUp : r.accUp + r.applied * i.up.n = i.up.d / 2 + i.up.d * i.up.extra r.applied
  accDown : r.accDown < i.down.d
  sumDown : r.accDown + r.applied * i.down.n = i.down.d / 2 + i.down.d * i.down.extra r.applied
  complete : r.complete = r.atLimits i
  open_ : ∀ k < r.applied, i.upAt r.origin k ≠ i.high ∨ i.downAt r.origin k ≠ i.low

theorem Spread.lawful_iff (i : Image) (r : Spread) : r.lawful i ↔ r.InBand i ∧ r.elapsed ≤ 65535
    ∧ r.applied ≤ r.elapsed / i.period ∧ (r.complete = false → r.applied = r.elapsed / i.period) :=
  ⟨fun ⟨h1, h2, h3, h4, h5, h6, h7, h8, h9, h10, h11, h12, h13, h14, h15⟩ =>
      ⟨⟨h1, h2, h3, h4, h5, h6, h7, h8, h9, h10, h11, h15⟩, h12, h13, h14⟩,
    fun ⟨⟨h1, h2, h3, h4, h5, h6, h7, h8, h9, h10, h11, h15⟩, h12, h13, h14⟩ =>
      ⟨h1, h2, h3, h4, h5, h6, h7, h8, h9, h10, h11, h12, h13, h14, h15⟩⟩

/-- The accumulator fixes how many extra steps `k` ticks have made. -/
theorem Rate.extra_eq {r : Rate} {acc k e : Nat} (hacc : acc < r.d) (h : acc + k * r.n = r.d / 2 + r.d * e) :
    r.extra k = e := by
  have hsum : k * r.n + (r.d - 1 - r.d / 2) = r.d * e + (r.d - 1 - acc) := by omega
  unfold Rate.extra
  rw [hsum, Nat.mul_add_div (by omega), Nat.div_eq_of_lt (by omega), Nat.add_zero]

/-- One accumulator step (R99). -/
theorem stepAccumulator_sum {r : Rate} {acc k : Nat} (hn : r.n < r.d) (hacc : acc < r.d)
    (h : acc + k * r.n = r.d / 2 + r.d * r.extra k) :
    (stepAccumulator acc r).1 < r.d ∧ r.extra (k + 1) = r.extra k + (stepAccumulator acc r).2
    ∧ (stepAccumulator acc r).1 + (k + 1) * r.n = r.d / 2 + r.d * r.extra (k + 1) := by
  have hstep : (stepAccumulator acc r).1 < r.d
      ∧ (stepAccumulator acc r).1 + (k + 1) * r.n = r.d / 2 + r.d * (r.extra k + (stepAccumulator acc r).2) := by
    unfold stepAccumulator
    rw [Nat.add_mul, Nat.one_mul]
    split
    · rw [Nat.mul_add, Nat.mul_one]
      omega
    · rw [Nat.add_zero]
      omega
  obtain ⟨hlt, hsum⟩ := hstep
  have hextra := Rate.extra_eq hlt hsum
  exact ⟨hlt, hextra, by rw [hextra]; exact hsum⟩

/-- A spread tick on an incomplete record (R99, R100). -/
theorem Spread.InBand.tick {i : Image} {r : Spread} (h : r.InBand i) (hup : i.up.n < i.up.d) (hdown : i.down.n < i.down.d)
    (hopen : r.complete = false) : (r.tick i).InBand i := by
  obtain ⟨hu1, hu2, hu3⟩ := stepAccumulator_sum hup h.accUp h.sumUp
  obtain ⟨hd1, hd2, hd3⟩ := stepAccumulator_sum hdown h.accDown h.sumDown
  have hlow := h.low
  have hdo := h.down
  have hou := h.up
  have hhigh := h.high
  have hue := h.upEdge
  have hde := h.downEdge
  have hlimits := h.complete.symm.trans hopen
  refine ⟨Nat.le_max_left _ _, ?_, ?_, Nat.min_le_left _ _, ?_, ?_, hu1, hu3, hd1, hd3, rfl, fun k hk => ?_⟩
  · show max i.low (r.downEdge - _) ≤ r.origin
    omega
  · show r.origin ≤ min i.high (r.upEdge + i.up.w + _)
    omega
  · show min i.high (r.upEdge + i.up.w + (stepAccumulator r.accUp i.up).2) = i.upAt r.origin (r.applied + 1)
    simp only [Image.upAt] at hue ⊢
    rw [hu2, Nat.add_mul, Nat.one_mul]
    omega
  · show max i.low (r.downEdge - (i.down.w + (stepAccumulator r.accDown i.down).2)) = i.downAt r.origin (r.applied + 1)
    simp only [Image.downAt] at hde ⊢
    rw [hd2, Nat.add_mul, Nat.one_mul]
    omega
  · rcases Nat.lt_succ_iff_lt_or_eq.1 hk with hk | rfl
    · exact h.open_ k hk
    · rw [show (r.tick i).origin = r.origin from rfl, ← hue, ← hde]
      simpa [Spread.atLimits, imp_iff_not_or] using hlimits

/-- The record of the same floor and elapsed time with a band as wide or wider. -/
structure Spread.Grows (r x : Spread) : Prop where
  origin : x.origin = r.origin
  elapsed : x.elapsed = r.elapsed
  down : x.downEdge ≤ r.downEdge
  up : r.upEdge ≤ x.upEdge

theorem Spread.Grows.refl (r : Spread) : r.Grows r := ⟨rfl, rfl, Nat.le_refl _, Nat.le_refl _⟩

theorem Spread.Grows.trans {r x y : Spread} (h : r.Grows x) (k : x.Grows y) : r.Grows y :=
  ⟨k.origin.trans h.origin, k.elapsed.trans h.elapsed, k.down.trans h.down, h.up.trans k.up⟩

theorem Spread.InBand.grows_tick {i : Image} {r : Spread} (h : r.InBand i) : r.Grows (r.tick i) :=
  ⟨rfl, rfl, Nat.max_le.2 ⟨h.low, Nat.sub_le _ _⟩, Nat.le_min.2 ⟨h.high, by omega⟩⟩

/-- `n` ticks owed (R98): all of them are applied, or the record has become complete. -/
theorem Spread.InBand.ticks {i : Image} (hup : i.up.n < i.up.d) (hdown : i.down.n < i.down.d) (n : Nat) {r : Spread}
    (h : r.InBand i) : (Spread.ticks i n r).InBand i ∧ r.Grows (Spread.ticks i n r)
      ∧ (Spread.ticks i n r).applied ≤ r.applied + n
      ∧ ((Spread.ticks i n r).complete = false → (Spread.ticks i n r).applied = r.applied + n) := by
  induction n generalizing r with
  | zero => exact ⟨h, .refl r, Nat.le_refl _, fun _ => rfl⟩
  | succ n ih =>
    unfold Spread.ticks
    split
    · rename_i hc
      exact ⟨h, .refl r, by omega, fun hf => by rw [hc] at hf; cases hf⟩
    · rename_i hc
      obtain ⟨hband, hgrows, hle, heq⟩ := ih (h.tick hup hdown (by simpa using hc))
      have happlied : (r.tick i).applied = r.applied + 1 := rfl
      exact ⟨hband, h.grows_tick.trans hgrows, by omega, fun hf => by rw [heq hf]; omega⟩

/-- What a second does to a record (R97, R98). -/
theorem Spread.second_lawful {i : Image} {r : Spread} (hup : i.up.n < i.up.d) (hdown : i.down.n < i.down.d)
    (h : r.lawful i) : (r.second i).lawful i ∧ Spread.Grows { r with elapsed := min 65535 (r.elapsed + 1) } (r.second i)
      ∧ ((r.second i).complete = false → (r.second i).applied = (r.second i).elapsed / i.period) := by
  obtain ⟨hband, hwidth, hle, -⟩ := (Spread.lawful_iff i r).1 h
  have hnow : Spread.InBand i { r with elapsed := min 65535 (r.elapsed + 1) } := { hband with }
  have hmore : r.elapsed / i.period ≤ min 65535 (r.elapsed + 1) / i.period := Nat.div_le_div_right (by omega)
  obtain ⟨hband', hgrows, hle', heq⟩ :=
    hnow.ticks hup hdown (min 65535 (r.elapsed + 1) / i.period - r.applied)
  have helapsed : (r.second i).elapsed = min 65535 (r.elapsed + 1) := hgrows.elapsed
  have happlied : (r.second i).complete = false → (r.second i).applied = (r.second i).elapsed / i.period := fun hf => by
    rw [helapsed]
    exact (heq hf).trans (Nat.add_sub_cancel' (hle.trans hmore))
  refine ⟨(Spread.lawful_iff i _).2 ⟨hband', ?_, ?_, happlied⟩, hgrows, happlied⟩
  · rw [helapsed]
    exact Nat.min_le_left _ _
  · rw [helapsed]
    exact hle'.trans (Nat.le_of_eq (Nat.add_sub_cancel' (hle.trans hmore)))

theorem Spread.ticks_origin (i : Image) (n : Nat) (r : Spread) :
    (Spread.ticks i n r).origin = r.origin ∧ (Spread.ticks i n r).elapsed = r.elapsed := by
  induction n generalizing r with
  | zero => exact ⟨rfl, rfl⟩
  | succ n ih =>
    unfold Spread.ticks
    split
    · exact ⟨rfl, rfl⟩
    · exact ih (r.tick i)

theorem Spread.second_origin (i : Image) (r : Spread) : (r.second i).origin = r.origin := (Spread.ticks_origin i _ _).1

theorem Spread.second_elapsed (i : Image) (r : Spread) : (r.second i).elapsed = min 65535 (r.elapsed + 1) :=
  (Spread.ticks_origin i _ _).2

/-! ### Phases by their codes (R101, R102) -/

theorem phaseCode_max (a b : Phase) : (a.max b).code = max a.code b.code := by cases a <;> cases b <;> rfl

theorem Phase.evacuate_iff (p : Phase) : p = .evacuate ↔ ¬ p.code ≤ 2 := by cases p <;> decide

theorem Phase.standby_iff {p : Phase} (h : p ≠ .quiet) : p = .standby ↔ p.code ≤ 1 := by cases p <;> simp_all [Phase.code]

theorem Phase.quiet_iff (p : Phase) : p = .quiet ↔ p.code = 0 := by cases p <;> decide

/-- The floor lies in the record's band, or in its band with the margin (R101). -/
def Spread.holds (r : Spread) (f : Nat) : Prop := r.downEdge ≤ f ∧ f ≤ r.upEdge
def Spread.holdsWithMargin (i : Image) (r : Spread) (f : Nat) : Prop :=
  r.downEdge ≤ f + i.margin ∧ f ≤ r.upEdge + i.margin

theorem Spread.phase_code_two (i : Image) (r : Spread) (f : Nat) : (r.phase i f).code ≤ 2 ↔ ¬ r.holds f := by
  unfold Spread.phase Spread.holds
  split
  · rename_i h; simp [h, Phase.code]
  · rename_i h; simp only [h, not_false_iff, iff_true]; split <;> decide

theorem Spread.phase_code_one (i : Image) (r : Spread) (f : Nat) :
    (r.phase i f).code ≤ 1 ↔ ¬ r.holdsWithMargin i f := by
  unfold Spread.phase Spread.holdsWithMargin
  split
  · rename_i h
    have : r.downEdge ≤ f + i.margin ∧ f ≤ r.upEdge + i.margin := by omega
    simp [this, Phase.code]
  · split
    · rename_i h; simp [h, Phase.code]
    · rename_i h; simp [h, Phase.code]

theorem foldl_phase_code (i : Image) (f n : Nat) (origins : List Spread) (p : Phase) :
    (origins.foldl (fun p r => p.max (r.phase i f)) p).code ≤ n
      ↔ p.code ≤ n ∧ ∀ r ∈ origins, (r.phase i f).code ≤ n := by
  induction origins generalizing p with
  | nil => simp
  | cons r rest ih =>
    rw [List.foldl_cons, ih, phaseCode_max, max_le_iff, List.forall_mem_cons, and_assoc]

/-- The computed phase of a floor of the building under an active regime without GENERAL. -/
theorem computed_code_le {i : Image} {r : Regime} {f n : Nat} (huse : i.inUse f = true) (hactive : r.active = true)
    (hgeneral : r.general = false) : (r.computed i f).code ≤ n ↔ ∀ x ∈ r.origins, (x.phase i f).code ≤ n := by
  unfold Regime.computed
  rw [if_neg (by simp [huse, hactive]), if_neg (by simp [hgeneral]), foldl_phase_code]
  exact and_iff_right (Nat.zero_le n)

/-! ### The view after a second -/

/-- The view with its records a second older, before the recomputation. -/
def State.secondOrigins (s : State) : State :=
  { s with regime := { s.regime with origins := s.regime.origins.map (Spread.second s.image) } }

theorem regimeSecond_of_running {s : State} (h : s.regime.hold % 2 = 0) : s.regimeSecond = s.secondOrigins.recompute :=
  if_pos h

theorem regimeSecond_of_held {s : State} (h : ¬ s.regime.hold % 2 = 0) : s.regimeSecond = s := if_neg h

theorem secondOrigins_originFloors (s : State) : s.secondOrigins.regime.originFloors = s.regime.originFloors := by
  simp [State.secondOrigins, Regime.originFloors, Function.comp_def, Spread.second_origin]

theorem secondOrigins_active (s : State) : s.secondOrigins.regime.active = s.regime.active := by
  simp [State.secondOrigins, Regime.active]

theorem Image.lawful.rates {i : Image} (h : i.lawful) : i.high ≤ 47 ∧ i.up.n < i.up.d ∧ i.down.n < i.down.d := by
  obtain ⟨-, hhigh, -, -, -, -, -, -, -, -, -, -, -, -, hup, -, -, hdown, -⟩ := h
  exact ⟨hhigh, hup, hdown⟩

theorem Spread.Grows.holds {r x : Spread} (h : r.Grows x) {f : Nat} (hf : r.holds f) : x.holds f :=
  ⟨h.down.trans hf.1, hf.2.trans h.up⟩

theorem Spread.Grows.holdsWithMargin {i : Image} {r x : Spread} (h : r.Grows x) {f : Nat}
    (hf : r.holdsWithMargin i f) : x.holdsWithMargin i f :=
  ⟨h.down.trans hf.1, hf.2.trans (Nat.add_le_add_right h.up _)⟩

/-- The law of the view is kept by the second (R97, R98, R101, R102). -/
theorem secondOrigins_recompute_law {s : State} (hi : s.image.lawful) (h : s.regimeLaw) :
    s.secondOrigins.recompute.regimeLaw := by
  obtain ⟨hhigh, hup, hdown⟩ := hi.rates
  obtain ⟨hlength, hnodup, horigins, hused, hgeneral, hbands, hunused, hrefused, hhold, hsilence⟩ := h
  have hactive : s.secondOrigins.recompute.regime.active = s.regime.active := secondOrigins_active s
  have hphase {f : Nat} (hf : f < 48) : s.secondOrigins.recompute.phaseOf f
      = (s.phaseOf f).max (s.secondOrigins.regime.computed s.image f) := recompute_phaseOf s.secondOrigins hf
  have hkept {f : Nat} (hf : f < 48) (he : s.phaseOf f = .evacuate) :
      s.secondOrigins.recompute.phaseOf f = .evacuate := recompute_evacuate (s := s.secondOrigins) hf (.inl he)
  have hmem {x : Spread} (hx : x ∈ s.secondOrigins.recompute.regime.origins) :
      ∃ r ∈ s.regime.origins, x = r.second s.image := by
    obtain ⟨r, hr, rfl⟩ := List.mem_map.1 hx
    exact ⟨r, hr, rfl⟩
  have hstands {f : Nat} (hf : f < 48) (huse : s.image.inUse f = true)
      (hact : s.secondOrigins.recompute.regime.active = true) : s.secondOrigins.recompute.phaseOf f ≠ .quiet := by
    rw [hphase hf, ne_eq, Phase.quiet_iff, phaseCode_max]
    have := mt (Phase.quiet_iff _).2 (hused f hf huse (hactive ▸ hact))
    omega
  have hgrows (r : Spread) (hr : r ∈ s.regime.origins) :
      Spread.Grows { r with elapsed := min 65535 (r.elapsed + 1) } (r.second s.image) :=
    (Spread.second_lawful hup hdown (horigins r hr).1).2.1
  refine ⟨by simpa [State.secondOrigins, State.recompute, Regime.recompute] using hlength,
    (secondOrigins_originFloors s).symm ▸ hnodup, fun x hx => ?origins, fun f hf huse hact => ?used,
    fun f hf huse hg => hkept hf (hgeneral f hf huse hg), fun f hf huse hact hg => ?bands, fun f hf hno => ?unused,
    fun ho => ?refused, hhold, hsilence⟩
  case origins =>
    obtain ⟨r, hr, rfl⟩ := hmem hx
    obtain ⟨hlaw, hevacuate, hnot⟩ := horigins r hr
    rw [Spread.second_origin]
    have hin := ((Spread.lawful_iff _ r).1 hlaw).1
    exact ⟨(Spread.second_lawful hup hdown hlaw).1, hkept (by have := hin.up; have := hin.high; omega) hevacuate, hnot⟩
  case used => exact hstands hf huse hact
  case bands =>
    have hcode (n : Nat) : (s.secondOrigins.recompute.phaseOf f).code ≤ n ↔ (s.phaseOf f).code ≤ n
        ∧ ∀ r ∈ s.regime.origins, ((r.second s.image).phase s.image f).code ≤ n := by
      rw [hphase hf, phaseCode_max, max_le_iff]
      refine and_congr_right fun _ => (computed_code_le huse ?_ hg).trans List.forall_mem_map
      exact (secondOrigins_active s).trans (hactive ▸ hact)
    obtain ⟨hevacuate, hstandby⟩ := hbands f hf huse (hactive ▸ hact) hg
    constructor
    · have hold : (∀ r ∈ s.regime.origins, ¬ (r.second s.image).holds f) → (s.phaseOf f).code ≤ 2 := fun hout => by
        by_contra hc
        obtain ⟨r, hr, hin⟩ := hevacuate.1 ((Phase.evacuate_iff _).2 hc)
        exact hout r hr ((hgrows r hr).holds hin)
      rw [Phase.evacuate_iff, hcode 2]
      simp only [Spread.phase_code_two]
      rw [and_iff_right_of_imp hold]
      push Not
      show _ ↔ ∃ x ∈ s.regime.origins.map (Spread.second s.image), x.holds f
      simp only [List.mem_map, exists_exists_and_eq_and]
    · have hold : (∀ r ∈ s.regime.origins, ¬ (r.second s.image).holdsWithMargin s.image f) →
          (s.phaseOf f).code ≤ 1 := fun hout => by
        have hstill := hstandby.2 fun r hr hin => hout r hr ((hgrows r hr).holdsWithMargin hin)
        rw [hstill]
        decide
      rw [Phase.standby_iff (hstands hf huse hact), hcode 1]
      simp only [Spread.phase_code_one]
      rw [and_iff_right_of_imp hold]
      show _ ↔ ∀ x ∈ s.regime.origins.map (Spread.second s.image), ¬ x.holdsWithMargin s.image f
      simp only [List.mem_map, forall_exists_index, and_imp, forall_apply_eq_imp_iff₂]
  case unused =>
    have hquiet := hunused f hf (hno.imp id (hactive ▸ ·))
    have hcomputed : s.secondOrigins.regime.computed s.image f = .quiet := by
      unfold Regime.computed
      refine if_pos ?_
      rw [Bool.or_eq_true, Bool.not_eq_true', Bool.not_eq_true', secondOrigins_active]
      exact hno.imp id (hactive ▸ ·)
    rw [hphase hf, hquiet, hcomputed]
    rfl
  case refused =>
    have := hrefused ho
    simpa [State.secondOrigins, State.recompute, Regime.recompute] using this

/-- Every tick owed is applied to a record that is not complete (R98). -/
theorem regimeSecond_law {s : State} (hi : s.image.lawful) (h : s.regimeLaw) : s.regimeSecond.regimeLaw
    ∧ ∀ r ∈ s.regimeSecond.regime.origins, r.complete = false → r.applied = r.elapsed / s.image.period := by
  obtain ⟨-, hup, hdown⟩ := hi.rates
  by_cases hheld : s.regime.hold % 2 = 0
  · rw [regimeSecond_of_running hheld]
    refine ⟨secondOrigins_recompute_law hi h, fun x hx => ?_⟩
    obtain ⟨-, -, horigins, -⟩ := h
    obtain ⟨r, hr, rfl⟩ := List.mem_map.1 hx
    exact (Spread.second_lawful hup hdown (horigins r hr).1).2.2
  · rw [regimeSecond_of_held hheld]
    refine ⟨h, fun r hr => ?_⟩
    obtain ⟨-, -, horigins, -⟩ := h
    exact ((Spread.lawful_iff _ r).1 (horigins r hr).1).2.2.2

theorem regimeSecond_originFloors (s : State) : s.regimeSecond.regime.originFloors = s.regime.originFloors := by
  unfold State.regimeSecond
  split
  · exact secondOrigins_originFloors s
  · rfl

theorem regimeSecond_elapsed (s : State) : s.regimeSecond.regime.origins.map (fun r => r.elapsed)
    = s.regime.origins.map (fun r => if s.regime.hold % 2 = 0 then min 65535 (r.elapsed + 1) else r.elapsed) := by
  unfold State.regimeSecond
  split
  · simp [State.recompute, Regime.recompute, Function.comp_def, Spread.second_elapsed]
  · rfl

/-! ### The second event -/

theorem onSecond_of_acts {s : State} (hdue : s.time.secondDue = true) (hacts : s.acts = true) :
    s.after .second = s.countSecond.secondWork.finish s := (if_pos hdue).trans (if_pos hacts)

theorem onSecond_of_dormant {s : State} (hdue : s.time.secondDue = true) (hacts : s.acts = false) :
    s.after .second = s.countSecond := (if_pos hdue).trans (if_neg (by simp [hacts]))

theorem secondWork_quiet (s : State) : becameActive s s.countSecond.secondWork = false :=
  becameActive_same (secondWork_active s.countSecond)
    (((touches_countSecond s).andThen (touches_secondWork _) (rs := [.time, .origins, .phases, .peers, .duplicateAge, .line])
      (by decide) (by decide)).generation_eq (by decide))

theorem secondWork_line (s : State) :
    s.secondWork.line = { s.line with windowSeconds := s.line.windowSeconds + 1 } := by
  have h : s.regimeSecond.agePeers.ageDuplicate.line = s.line := by
    show s.regimeSecond.line = s.line
    exact (touches_regimeSecond s).line_eq (by decide)
  show { s.regimeSecond.agePeers.ageDuplicate.line with
    windowSeconds := s.regimeSecond.agePeers.ageDuplicate.line.windowSeconds + 1 } = _
  rw [h]

theorem regimeSecond_peers (s : State) : s.regimeSecond.peers = s.peers := by unfold State.regimeSecond; split <;> rfl

theorem regimeSecond_station (s : State) : s.regimeSecond.station = s.station := by
  unfold State.regimeSecond; split <;> rfl

/-- Every entry but the own one ages, and the duplicate age rises (R77, R86). -/
theorem secondWork_peers (s : State) : s.secondWork.peers =
    { s.peers.mapBase (fun a b => if a = s.station.address then b else b.second) with
      duplicateAge := s.peers.duplicateAge.map (fun n => min 255 (n + 1)) } := by
  rw [← regimeSecond_peers s, ← regimeSecond_station s]
  rfl

theorem PeerBase.second_age (b : PeerBase) :
    b.second.age = if b.presence = .unknown then b.age else min 255 (b.age + 1) := by
  unfold PeerBase.second
  split <;> rfl

theorem secondWork_base (s : State) {a : Nat} (ha : isPeerAddress a = true) (hne : a ≠ s.station.address) :
    s.secondWork.peers.base a = (s.peers.base a).second := by
  rw [secondWork_peers]
  exact (base_mapBase s.peers (fun a b => if a = s.station.address then b else b.second) a ha).trans (if_neg hne)

theorem regimeLaw_congr {s t : State} (hr : t.regime = s.regime) (hi : t.image = s.image) (h : s.regimeLaw) :
    t.regimeLaw := by
  unfold State.regimeLaw State.phaseOf at *
  rw [hr, hi]
  exact h

/-- Settles O10: a second's work, and reactions that leave it. -/
theorem secondAdvancesTheCounts : Obligations.SecondAdvancesTheCounts := by
  refine fun s hstation => ⟨fun hdue hacts => ⟨_, exec_of_after_eq (onSecond_of_acts hdue hacts), ?_⟩,
    fun hdue hacts => exec_of_after_eq (onSecond_of_dormant hdue hacts), fun hdue => exec_of_after_eq (if_neg (by simp [hdue]))⟩
  obtain ⟨hrole, -, hi⟩ := hstation.1 hacts
  have hparts : Touches Instr.second.touches s (s.countSecond.secondWork.finish s) :=
    onSecond_of_acts hdue hacts ▸ touches_after .second s
  have hwork := touches_secondWork s.countSecond
  have hreact := touches_finish_quiet s.countSecond.secondWork s (secondWork_quiet s)
  have hview : (s.countSecond.secondWork.finish s).regime = s.countSecond.regimeSecond.regime :=
    hreact.regime_eq (by decide) (by decide) (by decide) (by decide) (by decide) (by decide)
  have himage : (s.countSecond.secondWork.finish s).image = s.countSecond.regimeSecond.image :=
    (hparts.image_eq (by decide)).trans ((touches_regimeSecond s.countSecond).image_eq (by decide)).symm
  refine ⟨(hreact.time_eq (by decide)).trans (hwork.time_eq (by decide)), ?_, ?_, fun a ha hne => ?_, fun hregime => ?_, ?_,
    (hreact.line_eq (by decide)).trans (secondWork_line s.countSecond), hparts.2⟩
  · rw [hview]
    exact regimeSecond_originFloors s.countSecond
  · rw [hview]
    exact regimeSecond_elapsed s.countSecond
  · have hpeer := (mem_peerAddresses a).1 ha
    have haddress : s.countSecond.secondWork.station.address = s.station.address := hwork.address_eq (by decide)
    have hrole' : s.countSecond.secondWork.station.role = s.station.role := hwork.role_eq (by decide)
    rw [finish_base _ s a (by rw [hrole', haddress]; exact hrole) hpeer (by rw [haddress]; exact hne),
      secondWork_base s.countSecond hpeer hne, PeerBase.second_age]
    rfl
  · obtain ⟨hlaw, howed⟩ := regimeSecond_law (s := s.countSecond) hi hregime
    rw [hview]
    exact ⟨regimeLaw_congr hview himage hlaw, howed⟩
  · rw [hreact.duplicateAge_eq (by decide), secondWork_peers]
    rfl

end Sys2Proof.Machine
end

section
/-! ## The output pins of an acting station (0-6) -/

namespace Sys2Proof.Machine

theorem outputs_of_acts {s : State} (h : s.acts = true) : s.outputs = s.drivenOutputs := by
  simp only [State.acts, Bool.or_eq_true, beq_iff_eq] at h
  unfold State.outputs
  rcases h with h | h <;> rw [h]

/-! ### The field pins -/

theorem Zone.power_iff (z : Zone) :
    z.power = true ↔ z.kind ≠ .unused ∧ z.state ≠ .disabled ∧ z.state ≠ .verifyReset := by
  simp [Zone.power, Zone.supervised, and_assoc]

/-- The forced bits of the effective mask lie above those that the key alone chooses (R119). -/
theorem effectiveMask_testBit (m : Nat) (key : Bool) : (m % 4 + 12).testBit key.toNat = m.testBit key.toNat := by
  cases key
  · simp only [Bool.toNat_false, Nat.testBit_zero, decide_eq_decide]
    omega
  · simp only [Bool.toNat_true, Nat.testBit_succ, Nat.testBit_zero, decide_eq_decide]
    omega

/-- A present stair's lock under no demand (R119, R120). -/
theorem lockPin_iff {x : Stair} {demand : Bool} (hdemand : x.present = true → demand = true → x.release = true)
    (hunlock : x.present = true →
      x.unlock = (x.release || (x.minterm % 4 + 12).testBit (2 * demand.toNat + x.key.accepted.toNat))) :
    x.lockPin = true ↔ x.present = true ∧ x.release = false ∧ x.minterm.testBit x.key.accepted.toNat = false := by
  unfold Stair.lockPin
  cases hp : x.present with
  | false => simp
  | true =>
    rw [hunlock hp]
    cases hr : x.release with
    | true => simp
    | false =>
      have hno : demand = false := by
        cases hd : demand with
        | false => rfl
        | true => rw [hdemand hp hd] at hr; cases hr
      simp [hno, effectiveMask_testBit]

theorem Car.recalls_iff (t : Target) (c : Car) : c.recalls t = true
    ↔ (c.present = true ∧ c.state ∈ [CarState.recalling, .parked, .unavailable]) ∧ c.target = t := by
  simp [Car.recalls, or_assoc]

/-- Four flags on the message number lines. -/
theorem flags_lines (f : Nat → Bool) : ((List.range 4).map (fun c => flag (f c) c)).sum < 16
    ∧ ∀ c < 4, (((List.range 4).map (fun c => flag (f c) c)).sum).testBit c = f c := by
  have hall : ∀ a b c d : Bool, flag a 0 + (flag b 1 + (flag c 2 + flag d 3)) < 16
      ∧ (flag a 0 + (flag b 1 + (flag c 2 + flag d 3))).testBit 0 = a
      ∧ (flag a 0 + (flag b 1 + (flag c 2 + flag d 3))).testBit 1 = b
      ∧ (flag a 0 + (flag b 1 + (flag c 2 + flag d 3))).testBit 2 = c
      ∧ (flag a 0 + (flag b 1 + (flag c 2 + flag d 3))).testBit 3 = d := by decide
  obtain ⟨hlt, h0, h1, h2, h3⟩ := hall (f 0) (f 1) (f 2) (f 3)
  have hsum : ((List.range 4).map (fun c => flag (f c) c)).sum
      = flag (f 0) 0 + (flag (f 1) 1 + (flag (f 2) 2 + flag (f 3) 3)) := rfl
  rw [hsum]
  exact ⟨hlt, fun c hc => by interval_cases c <;> assumption⟩

/-! ### The pins of each role -/

theorem drivenOutputs_loopPower (s : State) {i : Nat} (hi : i < 8) (d : Bool) :
    s.drivenOutputs.loopPower.at i d = s.loopPowerPin i := Tab.at_ofFn i s.loopPowerPin d hi

theorem drivenOutputs_lock (s : State) {i : Nat} (hi : i < 4) (d : Bool) :
    s.drivenOutputs.lock.at i d = s.lockPin i := Tab.at_ofFn i s.lockPin d hi

/-- The sound and bell outputs of a station that is no FLOOR station (R144, R155). -/
theorem drivenOutputs_quietSound {s : State} (h : s.station.role ≠ some .floor) :
    s.drivenOutputs.sourceSelect = 0 ∧ s.drivenOutputs.play = false ∧ s.drivenOutputs.stop = false
      ∧ s.drivenOutputs.bell = false ∧ s.drivenOutputs.strobe = false ∧ s.drivenOutputs.liveVoice = false := by
  have hfloor : (s.station.role == some .floor) = false := by simpa using h
  simp [State.drivenOutputs, hfloor]

theorem drivenOutputs_floor {s : State} (h : s.station.role = some .floor) :
    (∀ i, s.loopPowerPin i = (s.zone i).power) ∧ (∀ i, s.lockPin i = (s.stair i).lockPin)
      ∧ s.drivenOutputs.sourceSelect = s.speaker.source.code ∧ s.drivenOutputs.messageLines = s.speaker.lines
      ∧ s.drivenOutputs.play = s.speaker.play.isSome ∧ s.drivenOutputs.stop = s.speaker.stop.isSome
      ∧ s.drivenOutputs.bell = s.cadence.bell.isSome ∧ s.drivenOutputs.strobe = s.cadence.strobe.isSome
      ∧ s.drivenOutputs.liveVoice = (s.speaker.source == .live) := by
  simp [State.drivenOutputs, State.loopPowerPin, State.lockPin, State.messagePins, h]

theorem drivenOutputs_lift {s : State} (h : s.station.role = some .lift) :
    (∀ i, s.loopPowerPin i = (s.car (i / 2)).recalls (if i % 2 = 0 then .primary else .alternate))
      ∧ (∀ i, s.lockPin i = (s.car i).holdsDoors)
      ∧ s.drivenOutputs.messageLines
        = ((List.range 4).map (fun c => flag (s.car c).permitsFirefighter c)).sum := by
  simp [State.drivenOutputs, State.loopPowerPin, State.lockPin, State.messagePins, h]

theorem drivenOutputs_console {s : State} (h : s.station.role = some .console) :
    (∀ i, s.loopPowerPin i = false) ∧ (∀ i, s.lockPin i = false) ∧ s.drivenOutputs.messageLines = 0 := by
  simp [State.drivenOutputs, State.loopPowerPin, State.lockPin, State.messagePins, h]

theorem Source.code_ne_zero {x : Source} (h : x ≠ .tenant) : x.code ≠ 0 := by
  cases x with
  | tenant => exact absurd rfl h
  | _ => simp [Source.code]

/-- A car that is being recalled or has been has one of the two targets (R132). -/
theorem recall_pins_opposite {c : Car} (htarget : c.target = .none ↔ c.state = .normal) (hp : c.present = true)
    (hs : c.state ∈ [CarState.recalling, .parked, .unavailable]) : c.recalls .primary = !c.recalls .alternate := by
  have hnot : c.target ≠ .none := fun hn => by rw [htarget.1 hn] at hs; revert hs; decide
  have hrecalled (t : Target) : c.recalls t = (c.target == t) := by
    rw [Bool.eq_iff_iff, Car.recalls_iff, beq_iff_eq]
    exact and_iff_right ⟨hp, hs⟩
  rw [hrecalled, hrecalled]
  cases ht : c.target with
  | none => exact absurd ht hnot
  | primary => rfl
  | alternate => rfl

/-- The fault relay falls with the first active fault (R174). -/
theorem activeCount_eq_zero (l : FaultList) : l.activeCount = 0 ↔ ∀ x ∈ l.records, x.active = false := by
  simp [FaultList.activeCount]

/-- Settles O60: pin by pin, from the laws and from what every event leaves settled. -/
theorem pinsShowTheStation : Obligations.PinsShowTheStation := by
  intro s hacts hlaw hsettled
  obtain ⟨-, -, -, -, hlink, -, -, hfield, hsound, -⟩ := hlaw
  obtain ⟨hfloor, -, -, -, hflash, hdark, -, hrun, -⟩ := hsettled hacts
  rw [outputs_of_acts hacts]
  refine ⟨fun hr => ?floor, fun hr => ⟨?lift, ?lines, drivenOutputs_quietSound (by simp [hr])⟩,
    fun hr => ⟨?console, drivenOutputs_quietSound (by simp [hr])⟩, ?relay, ?lamp, fun ha => ?alarm, fun ha hno => ?quiet,
    rfl, fun hl => (hrun hl).2, ?line, ?data, fun hr => ?released, rfl, rfl, rfl, ?riser⟩
  case floor =>
    obtain ⟨hpower, hlock, hselect, hlines, hplay, hstop, hbell, hstrobe, hvoice⟩ := drivenOutputs_floor hr
    obtain ⟨hstairs, hsource, -⟩ := hfloor hr
    refine ⟨fun z hz => ?_, fun i hi => ?_, ?_, fun ha => ?_, ?_, hlines, ?_, ?_, ?_, ?_⟩
    · rw [drivenOutputs_loopPower s hz, hpower, Zone.power_iff]
    · rw [drivenOutputs_lock s hi, hlock]
      exact lockPin_iff (fun hp => (hstairs i hi hp).1) (fun hp => (hstairs i hi hp).2.1)
    · rw [hselect]
      cases s.speaker.source <;> rfl
    · rw [hselect]
      exact Source.code_ne_zero (hsound.1 hacts ha)
    · rw [hvoice, beq_iff_eq, hsource]
      generalize s.speaker.level = level, s.speaker.stepKind s.speakerView = kind, s.regime.active = active
      clear * -
      cases level with
      | idle => cases active <;> simp
      | manual => simp
      | _ => split <;> simp_all
    all_goals simp [hplay, hstop, hbell, hstrobe, Option.isSome_iff_ne_none]
  case lift =>
    obtain ⟨hpower, hlock, hlines⟩ := drivenOutputs_lift hr
    obtain ⟨-, -, hcars⟩ := hfield.2 hacts
    intro c hc
    have hprimary : s.drivenOutputs.loopPower.at (2 * c) false = (s.car c).recalls .primary := by
      rw [drivenOutputs_loopPower s (by omega), hpower, if_pos (by omega), show 2 * c / 2 = c by omega]
    have halternate : s.drivenOutputs.loopPower.at (2 * c + 1) false = (s.car c).recalls .alternate := by
      rw [drivenOutputs_loopPower s (by omega), hpower, if_neg (by omega), show (2 * c + 1) / 2 = c by omega]
    obtain ⟨⟨-, -, -, htarget, -⟩, -⟩ := hcars c hc
    dsimp only
    rw [hprimary, halternate, drivenOutputs_lock s hc, hlock, hlines, (flags_lines _).2 c hc]
    refine ⟨Car.recalls_iff _ _, Car.recalls_iff _ _, fun h => recall_pins_opposite htarget h.1 h.2, ?_, ?_⟩
    · simp [Car.holdsDoors]
    · simp [Car.permitsFirefighter]
  case lines =>
    rw [(drivenOutputs_lift hr).2.2]
    exact (flags_lines _).1
  case console =>
    obtain ⟨hpower, hlock, hlines⟩ := drivenOutputs_console hr
    exact ⟨fun i hi => (drivenOutputs_loopPower s hi true).trans (hpower i),
      fun i hi => (drivenOutputs_lock s hi true).trans (hlock i), hlines⟩
  case relay =>
    show (s.faults.activeCount == 0) = true ↔ _
    rw [beq_iff_eq, activeCount_eq_zero]
  case lamp =>
    show (s.faults.activeCount != 0) = true ↔ _
    rw [bne_iff_ne, ne_eq, activeCount_eq_zero]
    simp
  case alarm =>
    show (s.regime.active || s.lamps.alarmLit) = true
    simp [ha]
  case quiet =>
    have hnone : s.lamps.alarmFlash = none := by
      by_contra hsome
      obtain ⟨hr, -, z, hz, halarm⟩ := hflash.1 hsome
      exact hno hr z hz halarm
    show (s.regime.active || s.lamps.alarmLit) = false
    simp [ha, hdark hnone]
  case line => exact Option.isSome_iff_ne_none
  case data =>
    show s.link.dataOut ≠ none ↔ _
    cases hs : s.link.selected <;> simp [Link.dataOut, hs]
  case released =>
    obtain ⟨-, -, -, -, -, -, -, hrole⟩ := hlink
    show s.link.dataOut = none
    rw [(hrole hr).1]
    rfl
  case riser =>
    show s.tx.bits = _
    cases s.tx <;> rfl

end Sys2Proof.Machine
end

section
/-! ## The record of the configuration memory, clamped field by field (R8, 1-6) -/

namespace Sys2Proof.Machine

/-! ### Clamped fields: what is stored -/

theorem clampIf_value {α : Type} (bad : Bool) (store value : α) (offset : Nat) :
    (clampIf bad store value offset).value = if bad then store else value := by
  unfold clampIf
  split <;> rfl

theorem clampHigh_value (high value offset : Nat) : (clampHigh high value offset).value = min high value := by
  rw [clampHigh, clampIf_value]
  simp only [decide_eq_true_eq]
  split <;> omega

theorem clampRange_value {low high : Nat} (h : low ≤ high) (value offset : Nat) :
    (clampRange low high value offset).value = max low (min high value) := by
  unfold clampRange
  split
  · dsimp only; omega
  · split <;> dsimp only <;> omega

/-- The code of a zone kind, and of a step kind (1-6). -/
def ZoneKind.number : ZoneKind → Nat
  | .unused => 0 | .detector => 1 | .callpoint => 2 | .flow => 3 | .lobby => 4 | .panel => 5

def StepKind.number : StepKind → Nat
  | .stop => 0 | .tone => 1 | .message => 2 | .pause => 3 | .loop => 4

theorem clampZoneKind_value (code offset : Nat) :
    (clampZoneKind code offset).value.number = if code ≤ 5 then code else 1 := by
  rcases code with _ | _ | _ | _ | _ | _ | n
  iterate 6 rfl
  exact (if_neg (by omega)).symm

theorem clampStep_value (b offset : Nat) : (clampStep b offset).value.kind.number = (if b / 16 ≤ 4 then b / 16 else 0)
    ∧ (clampStep b offset).value.arg = b % 16 := by
  unfold clampStep
  generalize b / 16 = code
  rcases code with _ | _ | _ | _ | _ | n
  iterate 5 exact ⟨rfl, rfl⟩
  exact ⟨(if_neg (by omega)).symm, rfl⟩

theorem clampCadence_value (r : Tab Byte 64) (i : Nat) : (clampCadence r i).value =
    ⟨recByte r i / 16, recByte r i % 16, max 1 (recByte r (i + 1) / 16 % 8), recByte r (i + 1) % 16⟩ := by
  have hk : (clampIf (recByte r (i + 1) / 16 % 8 == 0) 1 (recByte r (i + 1) / 16 % 8) (i + 1)).value
      = max 1 (recByte r (i + 1) / 16 % 8) := by
    rw [clampIf_value]
    simp only [beq_iff_eq]
    split <;> omega
  exact congrArg (CadenceParams.mk _ _ · _) hk

theorem recWord_eq (r : Tab Byte 64) (i : Nat) : recWord r i = 256 * recByte r i + recByte r (i + 1) := by
  unfold recWord
  omega

/-! ### The lobby floors: six bytes, the highest floors first -/

/-- A bit of a number written in bytes, the most significant first. -/
theorem foldl_bytes_testBit (bs : List Byte) (f : Nat) :
    (bs.foldl (fun (acc : Nat) (b : Byte) => acc * 256 + b.toNat) 0).testBit f
      = (bs.reverse.getD (f / 8) 0).getLsbD (f % 8) := by
  induction bs using List.reverseRecOn generalizing f with
  | nil => simp
  | append_singleton bs b ih =>
    have hdigit (v : Nat) : (v * 256 + b.toNat).testBit f = if f < 8 then b.toNat.testBit f else v.testBit (f - 8) := by
      rw [Nat.mul_comm]
      exact Nat.testBit_two_pow_mul_add v b.isLt f
    rw [List.foldl_append, List.foldl_cons, List.foldl_nil, List.reverse_append, List.reverse_singleton,
      List.singleton_append, hdigit]
    by_cases hf : f < 8
    · rw [if_pos hf, Nat.div_eq_of_lt hf, Nat.mod_eq_of_lt hf]
      rfl
    · rw [if_neg hf, ih, show f / 8 = (f - 8) / 8 + 1 by omega, show f % 8 = (f - 8) % 8 by omega]
      rfl

theorem maskOf_getLsbD (r : Tab Byte 64) {f : Nat} (hf : f < 48) :
    (maskOf ((r.list.drop 24).take 6)).getLsbD f = (r.at (29 - f / 8) 0).getLsbD (f % 8) := by
  have hsize := r.size
  have hlength : ((r.list.drop 24).take 6).length = 6 := by simp [hsize]
  unfold maskOf
  rw [BitVec.getLsbD_ofNat, decide_eq_true hf, Bool.true_and, List.take_of_length_le (Nat.le_of_eq hlength),
    foldl_bytes_testBit]
  congr 1
  have hi : f / 8 < ((r.list.drop 24).take 6).reverse.length := by rw [List.length_reverse, hlength]; omega
  unfold Tab.at
  rw [List.getD_eq_getElem _ _ hi, List.getD_eq_getElem _ _ (by omega)]
  simp only [List.getElem_reverse, List.getElem_take, List.getElem_drop, hlength]
  congr 1
  omega

/-! ### The image -/

section
variable (r : Tab Byte 64)

theorem image_low : (clampRecord r).value.low = min 47 (recByte r 2) := clampHigh_value 47 _ 2

theorem image_high :
    (clampRecord r).value.high = max (clampRecord r).value.low (min 47 (recByte r 3)) := by
  have h : (clampRecord r).value.high = (clampIf (decide ((clampHigh 47 (recByte r 3) 3).value
    < (clampRecord r).value.low)) (clampRecord r).value.low (clampHigh 47 (recByte r 3) 3).value 3).value := rfl
  rw [h, clampIf_value, clampHigh_value]
  simp only [decide_eq_true_eq]
  split <;> omega

/-- A recall floor outside the building is the lowest floor. -/
theorem clampFloor_value (low high f offset : Nat) :
    (clampIf (decide (f < low) || decide (high < f)) low f offset).value = if low ≤ f ∧ f ≤ high then f else low := by
  rw [clampIf_value]
  simp only [Bool.or_eq_true, decide_eq_true_eq]
  split <;> split <;> omega

theorem image_primary : (clampRecord r).value.primary = if (clampRecord r).value.low ≤ recByte r 4
      ∧ recByte r 4 ≤ (clampRecord r).value.high then recByte r 4 else (clampRecord r).value.low :=
  clampFloor_value _ _ _ 4

theorem image_alternate : (clampRecord r).value.alternate = if (clampRecord r).value.low ≤ recByte r 5
      ∧ recByte r 5 ≤ (clampRecord r).value.high then recByte r 5 else (clampRecord r).value.low :=
  clampFloor_value _ _ _ 5

theorem image_heartbeat : (clampRecord r).value.heartbeat = max 2 (min 10 (recByte r 6)) :=
  clampRange_value (by omega) _ 6

theorem image_period : (clampRecord r).value.period = max 10 (min 600 (256 * recByte r 7 + recByte r 8)) := by
  rw [← recWord_eq]
  exact clampRange_value (by omega) _ 7

theorem image_bands : (clampRecord r).value.bandUp = min 3 (recByte r 9 / 16)
    ∧ (clampRecord r).value.bandDown = min 3 (recByte r 9 % 16) ∧ (clampRecord r).value.margin = min 7 (recByte r 10) :=
  ⟨clampHigh_value 3 _ 9, clampHigh_value 3 _ 9, clampHigh_value 7 _ 10⟩

theorem image_up : (clampRecord r).value.up.w = min 3 (recByte r 11)
    ∧ (clampRecord r).value.up.d = max 1 (min 16 (recByte r 13))
    ∧ (clampRecord r).value.up.n = min ((clampRecord r).value.up.d - 1) (recByte r 12) :=
  ⟨clampHigh_value 3 _ 11, clampRange_value (by omega) _ 13, clampHigh_value _ _ 12⟩

theorem image_down : (clampRecord r).value.down.w = min 3 (recByte r 14)
    ∧ (clampRecord r).value.down.d = max 1 (min 16 (recByte r 16))
    ∧ (clampRecord r).value.down.n = min ((clampRecord r).value.down.d - 1) (recByte r 15) :=
  ⟨clampHigh_value 3 _ 14, clampRange_value (by omega) _ 16, clampHigh_value _ _ 15⟩

theorem image_pattern : (clampRecord r).value.patternBase = min 47 (recByte r 17)
    ∧ (clampRecord r).value.patternStep = min 8 (recByte r 18) :=
  ⟨clampHigh_value 47 _ 17, clampHigh_value 8 _ 18⟩

theorem image_limits :
    (clampRecord r).value.heldOpenLimit = max 30 (min 600 (256 * recByte r 34 + recByte r 35))
    ∧ (clampRecord r).value.recallTimeout = max 60 (min 600 (256 * recByte r 36 + recByte r 37))
    ∧ (clampRecord r).value.strobeWidth = max 1 (min 8 (recByte r 42))
    ∧ (clampRecord r).value.keepLimit = max 5 (min 30 (recByte r 43)) := by
  rw [← recWord_eq, ← recWord_eq]
  exact ⟨clampRange_value (by omega) _ 34, clampRange_value (by omega) _ 36, clampRange_value (by omega) _ 42,
    clampRange_value (by omega) _ 43⟩

theorem image_cadences :
    (clampRecord r).value.alertCadence
      = ⟨recByte r 38 / 16, recByte r 38 % 16, max 1 (recByte r 39 / 16 % 8), recByte r 39 % 16⟩
    ∧ (clampRecord r).value.evacCadence
      = ⟨recByte r 40 / 16, recByte r 40 % 16, max 1 (recByte r 41 / 16 % 8), recByte r 41 % 16⟩ :=
  ⟨clampCadence_value r 38, clampCadence_value r 40⟩

/-- A recall floor as stored is a floor of the building. -/
theorem recallFloor_inUse {low high f : Nat} (h : low ≤ high) :
    low ≤ (if low ≤ f ∧ f ≤ high then f else low) ∧ (if low ≤ f ∧ f ≤ high then f else low) ≤ high := by
  split
  · assumption
  · exact ⟨Nat.le_refl _, h⟩

theorem image_building : (clampRecord r).value.low ≤ (clampRecord r).value.high ∧ (clampRecord r).value.high ≤ 47 := by
  rw [image_high, image_low]
  omega

theorem within_range {low high : Nat} (h : low ≤ high) (n : Nat) :
    low ≤ max low (min high n) ∧ max low (min high n) ≤ high := by omega

/-- The two rates of the spread. -/
theorem rate_range {d n : Nat} (value other : Nat) (hd : d = max 1 (min 16 value)) (hn : n = min (d - 1) other) :
    n < d ∧ d ≤ 16 := by omega

theorem cadenceK_range (n : Nat) : 1 ≤ max 1 (n / 16 % 8) ∧ max 1 (n / 16 % 8) ≤ 7 := by omega

/-- Every field of a clamped record is in its range (R8). -/
theorem clampRecord_lawful : (clampRecord r).value.lawful := by
  obtain ⟨hbuilding, htop⟩ := image_building r
  obtain ⟨hbandUp, hbandDown, hmargin⟩ := image_bands r
  obtain ⟨hupW, hupD, hupN⟩ := image_up r
  obtain ⟨hdownW, hdownD, hdownN⟩ := image_down r
  obtain ⟨hbase, hstep⟩ := image_pattern r
  obtain ⟨hheld, hrecall, hstrobe, hkeep⟩ := image_limits r
  obtain ⟨halert, hevac⟩ := image_cadences r
  obtain ⟨hup, hup'⟩ := rate_range _ _ hupD hupN
  obtain ⟨hdown, hdown'⟩ := rate_range _ _ hdownD hdownN
  have hle {x n m : Nat} (h : x = min n m) : x ≤ n := h ▸ Nat.min_le_left n m
  have hin {x low high n : Nat} (h : x = max low (min high n)) (hl : low ≤ high) : low ≤ x ∧ x ≤ high :=
    h ▸ within_range hl n
  obtain ⟨hp, hp'⟩ := recallFloor_inUse (f := recByte r 4) hbuilding
  obtain ⟨ha, ha'⟩ := recallFloor_inUse (f := recByte r 5) hbuilding
  rw [← image_primary] at hp hp'
  rw [← image_alternate] at ha ha'
  obtain ⟨hbeat, hbeat'⟩ := hin (image_heartbeat r) (by decide)
  obtain ⟨hperiod, hperiod'⟩ := hin (image_period r) (by decide)
  obtain ⟨hheld, hheld'⟩ := hin hheld (by decide)
  obtain ⟨hrecall, hrecall'⟩ := hin hrecall (by decide)
  obtain ⟨hstrobe, hstrobe'⟩ := hin hstrobe (by decide)
  obtain ⟨hkeep, hkeep'⟩ := hin hkeep (by decide)
  obtain ⟨hak, hak'⟩ := cadenceK_range (recByte r 39)
  obtain ⟨hek, hek'⟩ := cadenceK_range (recByte r 41)
  have hakr : (clampRecord r).value.alertCadence.k = max 1 (recByte r 39 / 16 % 8) := congrArg CadenceParams.k halert
  have hekr : (clampRecord r).value.evacCadence.k = max 1 (recByte r 41 / 16 % 8) := congrArg CadenceParams.k hevac
  rw [← hakr] at hak hak'
  rw [← hekr] at hek hek'
  exact ⟨hbuilding, htop, hp, hp', ha, ha', hbeat, hbeat', hperiod, hperiod', hle hbandUp, hle hbandDown, hle hmargin,
    hle hupW, hup, hup', hle hdownW, hdown, hdown', hle hbase, hle hstep, hheld, hheld', hrecall, hrecall', hak, hak', hek,
    hek', hstrobe, hstrobe', hkeep, hkeep'⟩

end

end Sys2Proof.Machine
end

section
/-! ## The records of CONFIG-CLAMPED: what clamping leaves in the list, and the entry to LISTEN keeps (R8, R171) -/

namespace Sys2Proof.Machine

/-! ### Raises of CONFIG-CLAMPED in an empty list -/

/-- A record of CONFIG-CLAMPED is active and stands for one of the clamps `fs`, with their number at its offset. -/
structure FaultRecord.IsClamp (fs : List Nat) (x : FaultRecord) : Prop where
  active : x.active = true
  noted : x.subject ∈ fs
  count : x.count = min 255 (fs.count x.subject)

/-- The list holds a record of CONFIG-CLAMPED with this offset. -/
def FaultList.recordsClamp (l : FaultList) (n : Nat) : Prop :=
  ∃ x ∈ l.records, x.kind = .configClamped ∧ x.subject = n

/-- The list holds the clamps `fs` and nothing else; only a full list has refused one. -/
structure FaultList.HoldsOnly (fs : List Nat) (l : FaultList) : Prop where
  kind : ∀ x ∈ l.records, x.kind = .configClamped
  clamp : ∀ x ∈ l.records, x.IsClamp fs
  found : ∀ n ∈ fs, l.recordsClamp n ∨ 16 ≤ l.records.length ∧ 0 < l.overflow

theorem FaultRecord.IsClamp.append_other {fs : List Nat} {x : FaultRecord} (h : x.IsClamp fs) {n : Nat}
    (hn : x.subject ≠ n) : x.IsClamp (fs ++ [n]) := by
  refine ⟨h.active, List.mem_append_left _ h.noted, ?_⟩
  rw [List.count_append, List.count_singleton, if_neg (by simpa using Ne.symm hn), Nat.add_zero]
  exact h.count

theorem FaultRecord.IsClamp.append_self {fs : List Nat} {x : FaultRecord} (h : x.IsClamp fs) :
    FaultRecord.IsClamp (fs ++ [x.subject]) { x with active := true, count := min 255 (x.count + 1) } := by
  refine ⟨rfl, List.mem_append_right _ (List.mem_singleton_self _), ?_⟩
  show min 255 (x.count + 1) = _
  have hcount : (fs ++ [x.subject]).count x.subject = fs.count x.subject + 1 := by
    rw [List.count_append, List.count_singleton_self]
  rw [h.count]
  exact (by omega : min 255 (min 255 _ + 1) = min 255 (_ + 1)).trans (congrArg (min 255) hcount.symm)

theorem FaultRecord.isClamp_fresh {fs : List Nat} {n : Nat} (now : Word16) (h : n ∉ fs) :
    FaultRecord.IsClamp (fs ++ [n]) ⟨.configClamped, n, true, 1, now⟩ := by
  refine ⟨rfl, List.mem_append_right _ (List.mem_singleton_self _), ?_⟩
  show 1 = _
  rw [List.count_append, List.count_singleton_self, List.count_eq_zero_of_not_mem h]
  rfl

theorem FaultList.HoldsOnly.raise {fs : List Nat} {l : FaultList} (h : l.HoldsOnly fs) (n : Nat) (now : Word16) :
    (l.raise .configClamped n now).HoldsOnly (fs ++ [n]) := by
  have hfound {m : Nat} (hm : m ∈ fs ++ [n]) : m ∈ fs ∨ m = n := by simpa using hm
  unfold FaultList.raise
  dsimp only
  split
  · next hany =>
    have hkind (x : FaultRecord) : (if x.is .configClamped n then { x with active := true, count := min 255 (x.count + 1) }
        else x).kind = x.kind := by split <;> rfl
    have hsubject (x : FaultRecord) : (if x.is .configClamped n then
        { x with active := true, count := min 255 (x.count + 1) } else x).subject = x.subject := by split <;> rfl
    refine ⟨fun y hy => ?_, fun y hy => ?_, fun m hm => ?_⟩
    · obtain ⟨x, hx, rfl⟩ := List.mem_map.1 hy
      exact (hkind x).trans (h.kind x hx)
    · obtain ⟨x, hx, rfl⟩ := List.mem_map.1 hy
      split
      · next hi => exact ((FaultRecord.is_iff _ _ _).1 hi).2 ▸ (h.clamp x hx).append_self
      · next hi =>
        exact (h.clamp x hx).append_other (fun hn => hi ((FaultRecord.is_iff _ _ _).2 ⟨h.kind x hx, hn⟩))
    · have keep {x : FaultRecord} (hx : x ∈ l.records) (hk : x.kind = .configClamped) (hs : x.subject = m) :
          FaultList.recordsClamp { l with records := l.records.map (fun r => if r.is .configClamped n then
            { r with active := true, count := min 255 (r.count + 1) } else r) } m :=
        ⟨_, List.mem_map_of_mem hx, (hkind x).trans hk, (hsubject x).trans hs⟩
      rcases hfound hm with hm | rfl
      · rcases h.found m hm with ⟨x, hx, hk, hs⟩ | hfull
        · exact .inl (keep hx hk hs)
        · exact .inr ⟨by rw [List.length_map]; exact hfull.1, hfull.2⟩
      · obtain ⟨x, hx, hi⟩ := List.any_eq_true.1 hany
        obtain ⟨hk, hs⟩ := (FaultRecord.is_iff _ _ _).1 hi
        exact .inl (keep hx hk hs)
  · next hnew =>
    have hother {x : FaultRecord} (hx : x ∈ l.records) : x.subject ≠ n := fun hn =>
      hnew (List.any_eq_true.2 ⟨x, hx, (FaultRecord.is_iff _ _ _).2 ⟨h.kind x hx, hn⟩⟩)
    split
    · next hplace =>
      have hn : n ∉ fs := fun hn => (h.found n hn).elim (fun ⟨x, hx, _, hs⟩ => hother hx hs) (fun hfull => by omega)
      refine ⟨fun x hx => ?_, fun x hx => ?_, fun m hm => ?_⟩
      · rcases List.mem_append.1 hx with hx | hx
        · exact h.kind x hx
        · rw [List.mem_singleton.1 hx]
      · rcases List.mem_append.1 hx with hx | hx
        · exact (h.clamp x hx).append_other (hother hx)
        · rw [List.mem_singleton.1 hx]
          exact FaultRecord.isClamp_fresh now hn
      · rcases hfound hm with hm | rfl
        · obtain ⟨x, hx, hk⟩ := (h.found m hm).resolve_right (fun hfull => by omega)
          exact .inl ⟨x, List.mem_append_left _ hx, hk⟩
        · exact .inl ⟨_, List.mem_append_right _ (List.mem_singleton_self _), rfl, rfl⟩
    · next hfull =>
      have hactive : ¬ l.records.any (fun r => !r.active) = true := fun ha => by
        obtain ⟨x, hx, hi⟩ := List.any_eq_true.1 ha
        rw [(h.clamp x hx).active] at hi
        exact Bool.false_ne_true hi
      rw [if_neg hactive]
      refine ⟨h.kind, fun x hx => (h.clamp x hx).append_other (hother hx), fun m hm => ?_⟩
      rcases hfound hm with hm | rfl
      · refine (h.found m hm).imp id (fun hf => ⟨hf.1, ?_⟩)
        show 0 < min 255 (l.overflow + 1)
        omega
      · refine .inr ⟨Nat.le_of_not_lt hfull, ?_⟩
        show 0 < min 255 (l.overflow + 1)
        omega

theorem holdsOnly_foldl (now : Word16) (fs : List Nat) :
    (fs.foldl (fun (l : FaultList) n => l.raise .configClamped n now) ⟨[], 0⟩).HoldsOnly fs := by
  induction fs using List.reverseRecOn with
  | nil => exact ⟨by simp, by simp, by simp⟩
  | append_singleton fs n ih =>
    rw [List.foldl_append]
    exact ih.raise n now

/-! ### Faults of the other kinds beside them -/

/-- The list holds the clamps `fs`, but for those that it had no place for, beside faults of other kinds. -/
structure FaultList.HoldsClamps (fs : List Nat) (l : FaultList) : Prop where
  clamp : ∀ x ∈ l.records, x.kind = .configClamped → x.IsClamp fs
  found : ∀ n ∈ fs, l.recordsClamp n ∨ 0 < l.overflow

theorem FaultList.HoldsOnly.holdsClamps {fs : List Nat} {l : FaultList} (h : l.HoldsOnly fs) : l.HoldsClamps fs :=
  ⟨fun x hx _ => h.clamp x hx, fun n hn => (h.found n hn).imp_right And.right⟩

theorem FaultList.HoldsClamps.of_same {fs : List Nat} {l m : FaultList} (h : l.HoldsClamps fs)
    (hsub : ∀ x ∈ m.records, x.kind = .configClamped → x ∈ l.records)
    (hsup : ∀ x ∈ l.records, x.kind = .configClamped → x.active = true → x ∈ m.records)
    (hover : 0 < l.overflow → 0 < m.overflow) : m.HoldsClamps fs :=
  ⟨fun x hx hk => h.clamp x (hsub x hx hk) hk, fun n hn => (h.found n hn).imp
    (fun ⟨x, hx, hk, hs⟩ => ⟨x, hsup x hx hk (h.clamp x hx hk).active, hk, hs⟩) hover⟩

/-- A change of the records of another kind alone. -/
theorem FaultList.HoldsClamps.map {fs : List Nat} {l : FaultList} (h : l.HoldsClamps fs) (f : FaultRecord → FaultRecord)
    (hkind : ∀ x, (f x).kind = x.kind) (hf : ∀ x, x.kind = .configClamped → f x = x) :
    FaultList.HoldsClamps fs { l with records := l.records.map f } := by
  refine h.of_same (fun y hy hk => ?_) (fun x hx hk _ => List.mem_map.2 ⟨x, hx, hf x hk⟩) id
  obtain ⟨x, hx, rfl⟩ := List.mem_map.1 hy
  rw [hf x ((hkind x).symm.trans hk)]
  exact hx

theorem FaultRecord.is_other {k : FaultKind} (hk : k ≠ .configClamped) (n : Nat) {x : FaultRecord}
    (hx : x.kind = .configClamped) : ¬ x.is k n = true := fun hi =>
  hk (((FaultRecord.is_iff k n x).1 hi).1.symm.trans hx)

theorem FaultList.HoldsClamps.clear {fs : List Nat} {l : FaultList} (h : l.HoldsClamps fs) {k : FaultKind}
    (hk : k ≠ .configClamped) (n : Nat) : (l.clear k n).HoldsClamps fs :=
  h.map _ (fun x => by split <;> rfl) (fun _ hx => if_neg (FaultRecord.is_other hk n hx))

theorem FaultList.HoldsClamps.raise_other {fs : List Nat} {l : FaultList} (h : l.HoldsClamps fs) {k : FaultKind}
    (hk : k ≠ .configClamped) (n : Nat) (now : Word16) :
    (l.raise k n now).HoldsClamps fs := by
  have hfresh {rs : List FaultRecord} {x : FaultRecord} (hx : x ∈ rs ++ [⟨k, n, true, 1, now⟩])
      (hc : x.kind = .configClamped) : x ∈ rs :=
    (List.mem_append.1 hx).resolve_right (fun hx => hk (by rw [List.mem_singleton.1 hx] at hc; exact hc))
  unfold FaultList.raise
  dsimp only
  split
  · exact h.map _ (fun x => by split <;> rfl) (fun _ hx => if_neg (FaultRecord.is_other hk n hx))
  · split
    · exact h.of_same (fun x hx hc => hfresh hx hc) (fun x hx _ _ => List.mem_append_left _ hx) id
    · split
      · exact h.of_same (fun x hx hc => mem_dropOldestInactive _ _ (hfresh hx hc))
          (fun x hx _ ha => List.mem_append_left _ (mem_dropOldestInactive_active _ _ ha hx)) id
      · exact h.of_same (fun x hx _ => hx) (fun x hx _ _ => hx) (fun _ => by show 0 < min 255 (l.overflow + 1); omega)

/-- The clamps that stand in the list before, stand in it after. -/
def SparesClamps (s t : State) : Prop := ∀ fs, s.faults.HoldsClamps fs → t.faults.HoldsClamps fs

theorem SparesClamps.refl (s : State) : SparesClamps s s := fun _ h => h

theorem SparesClamps.trans {s t u : State} (h : SparesClamps s t) (g : SparesClamps t u) : SparesClamps s u :=
  fun fs hs => g fs (h fs hs)

theorem SparesClamps.ite {c : Prop} [Decidable c] {s t u : State} (ht : SparesClamps s t) (hu : SparesClamps s u) :
    SparesClamps s (if c then t else u) := by split <;> assumption

theorem SparesClamps.foldl {α : Type} (f : State → α → State) (h : ∀ t x, SparesClamps t (f t x)) (l : List α)
    (s : State) : SparesClamps s (l.foldl f s) := by
  induction l generalizing s with
  | nil => exact .refl s
  | cons x xs ih => exact (h s x).trans (ih (f s x))

theorem SparesClamps.of_faults {s t : State} (h : t.faults = s.faults) : SparesClamps s t := fun _ hs => h ▸ hs

theorem Touches.sparesClamps {ps : List Part} {s t : State} (h : Touches ps s t) (hp : .faults ∉ ps) :
    SparesClamps s t := .of_faults (h.faults_eq hp)

theorem sparesClamps_raise {k : FaultKind} (hk : k ≠ .configClamped) (n : Nat) (s : State) :
    SparesClamps s (s.raise k n) := fun _ h => h.raise_other hk n _

theorem sparesClamps_clearFault {k : FaultKind} (hk : k ≠ .configClamped) (n : Nat) (s : State) :
    SparesClamps s (s.clearFault k n) := fun _ h => h.clear hk n

theorem sparesClamps_carFaults (c : Nat) (old new : Car) (s : State) : SparesClamps s (s.carFaults c old new) := by
  have hunavailable : SparesClamps s (if new.state = .unavailable ∧ old.state ≠ .unavailable
      then s.raise .liftUnavailable (c + 1)
      else if old.state = .unavailable ∧ new.state ≠ .unavailable then s.clearFault .liftUnavailable (c + 1)
      else s) :=
    .ite (sparesClamps_raise (by decide) _ _) (.ite (sparesClamps_clearFault (by decide) _ _) (.refl s))
  exact .ite (hunavailable.trans (sparesClamps_raise (by decide) _ _))
    (.ite (hunavailable.trans (sparesClamps_clearFault (by decide) _ _)) hunavailable)

theorem sparesClamps_changeCar (c : Nat) (f : Car → Car) (s : State) : SparesClamps s (s.changeCar c f) :=
  .ite (((touches_updCar _ _ s).sparesClamps (by decide)).trans (sparesClamps_carFaults _ _ _ _)) (.refl s)

theorem sparesClamps_stairsReact (cleared became : Bool) (s : State) :
    SparesClamps s (s.stairsReact cleared became) := by
  refine .ite (SparesClamps.trans (t := { s with
    stairs := s.stairs.map (Stair.react s.demand cleared became s.image.heldOpenLimit) }) (.of_faults rfl)
    (.foldl _ (fun t i => ?_) _ _)) (.refl s)
  exact .ite (sparesClamps_clearFault (by decide) _ t) (.refl t)

theorem sparesClamps_liftsReact (became : Bool) (s : State) : SparesClamps s (s.liftsReact became) :=
  .ite (.foldl _ (fun t c => sparesClamps_changeCar c _ t) _ s) (.refl s)

theorem sparesClamps_finish_quiet (s old : State) (h : becameActive old s = false) : SparesClamps s (s.finish old) := by
  unfold State.finish
  simp only [h]
  refine .ite (.refl s) ?_
  refine SparesClamps.trans ?_ ((touches_builderReact _ _).sparesClamps (by decide))
  refine SparesClamps.trans ?_ ((touches_loopback _).sparesClamps (by decide))
  refine SparesClamps.trans ?_ ((touches_alarmLampReact _).sparesClamps (by decide))
  refine SparesClamps.trans ?_ ((touches_cadenceReact _).sparesClamps (by decide))
  refine SparesClamps.trans ?_ ((touches_speakerReact _ _ _).sparesClamps (by decide))
  exact (sparesClamps_stairsReact _ _ s).trans (sparesClamps_liftsReact _ _)

theorem sparesClamps_carsAtListen (s : State) : SparesClamps s s.carsAtListen := by
  unfold State.carsAtListen
  split
  · exact SparesClamps.trans (t := { s with
      cars := s.cars.mapIdx (fun i c => if c.present then c.sampleAtListen s.pins i else c) }) (.of_faults rfl)
      (.foldl (fun t c => t.changeCar c Car.deriveFault) (fun t c => sparesClamps_changeCar c _ t) _ _)
  · exact .refl s

theorem sparesClamps_listenEntry (pins : Inputs) (s : State) : SparesClamps s (s.listenEntry pins) := by
  have hlistening : SparesClamps s (s.listening pins) := .of_faults rfl
  have hstairs := (touches_stairsAtListen (s.listening pins)).sparesClamps (by decide)
  exact (hlistening.trans hstairs).trans (sparesClamps_carsAtListen _)

/-- The clamps of an accepted record, in a list that was empty, as the station enters LISTEN. -/
theorem holdsClamps_configEnd {r : Role} {record : Tab Byte 64} (h : failedCheck r record = none) (pins : Inputs)
    {s : State} (hempty : s.faults = ⟨[], 0⟩) :
    (((s.load r record).listenEntry pins).finish s).faults.HoldsClamps (clampRecord record).faults := by
  have hload : (s.load r record).faults = (clampRecord record).faults.foldl
      (fun (l : FaultList) n => l.raise .configClamped n s.time.second) ⟨[], 0⟩ := by rw [load_of_passed h, hempty]
  refine ((sparesClamps_listenEntry pins _).trans
    (sparesClamps_finish_quiet _ s (loadEnd_quiet r record pins s))) _ ?_
  rw [hload]
  exact (holdsOnly_foldl s.time.second (clampRecord record).faults).holdsClamps

end Sys2Proof.Machine
end

section
/-! ## The offsets that clamping reports (R8, 1-6) -/

namespace Sys2Proof.Machine

/-- A field of the record: its byte offset, and whether it lies outside its range. -/
abbrev RangeCheck := Nat × Bool

/-- The offsets of the fields outside their range. -/
def offsetsOutside (cs : List RangeCheck) : List Nat := (cs.filter Prod.snd).map Prod.fst

theorem offsetsOutside_append (cs ds : List RangeCheck) : offsetsOutside (cs ++ ds) = offsetsOutside cs ++ offsetsOutside ds := by
  unfold offsetsOutside
  rw [List.filter_append, List.map_append]

theorem offsetsOutside_cons (c d : RangeCheck) (cs : List RangeCheck) :
    offsetsOutside (c :: d :: cs) = offsetsOutside [c] ++ offsetsOutside (d :: cs) := offsetsOutside_append [c] (d :: cs)

theorem mem_offsetsOutside (n : Nat) (cs : List RangeCheck) : n ∈ offsetsOutside cs ↔ (n, true) ∈ cs := by
  simp [offsetsOutside]

theorem count_offsetsOutside (n : Nat) (cs : List RangeCheck) :
    (offsetsOutside cs).count n = cs.countP (fun c => c.1 == n && c.2) := by
  unfold offsetsOutside
  rw [List.count_eq_countP, List.countP_map, List.countP_filter]
  rfl

theorem count_offsetsOutside_le (n : Nat) (cs : List RangeCheck) : (offsetsOutside cs).count n ≤ (cs.map Prod.fst).count n :=
  List.Sublist.count_le n (List.filter_sublist.map _)

/-! ### Each clamp reports its own check -/

theorem clampIf_faults {α : Type} (bad : Bool) (store value : α) (offset : Nat) :
    (clampIf bad store value offset).faults = offsetsOutside [(offset, bad)] := by
  cases bad <;> rfl

theorem clampHigh_faults (high value offset : Nat) :
    (clampHigh high value offset).faults = offsetsOutside [(offset, decide (high < value))] := clampIf_faults _ _ _ _

theorem clampRange_faults (low high value offset : Nat) :
    (clampRange low high value offset).faults = offsetsOutside [(offset, decide (value < low ∨ high < value))] := by
  unfold clampRange
  split
  · next h => rw [decide_eq_true (.inl h)]; rfl
  · next hlow =>
    split
    · next h => rw [decide_eq_true (.inr h)]; rfl
    · next hhigh => rw [decide_eq_false (by simp [hlow, hhigh])]; rfl

theorem clampZoneKind_faults (code offset : Nat) :
    (clampZoneKind code offset).faults = offsetsOutside [(offset, decide (5 < code))] := by
  rcases code with _ | _ | _ | _ | _ | _ | n
  iterate 6 rfl
  rw [decide_eq_true (by omega)]
  rfl

theorem clampStep_faults (b offset : Nat) : (clampStep b offset).faults = offsetsOutside [(offset, decide (4 < b / 16))] := by
  unfold clampStep
  generalize b / 16 = code
  rcases code with _ | _ | _ | _ | _ | n
  iterate 5 rfl
  rw [decide_eq_true (by omega)]
  rfl

theorem clampTab_faults {α : Type} (n : Nat) (f : Nat → Clamped α) (c : Nat → RangeCheck)
    (h : ∀ i, (f i).faults = offsetsOutside [c i]) : (clampTab n f).faults = offsetsOutside ((List.range n).map c) := by
  show (List.range n).flatMap (fun i => (f i).faults) = _
  simp only [h]
  generalize List.range n = is
  induction is with
  | nil => rfl
  | cons i is ih => rw [List.flatMap_cons, ih, ← offsetsOutside_append]; rfl

section
variable (r : Tab Byte 64)

/-- The nibbles of a table of nibbles that starts at byte `i`, the high one first. -/
def nibbleAt (i z : Nat) : Nat := if z % 2 = 0 then recByte r (i + z / 2) / 16 else recByte r (i + z / 2) % 16

theorem nibbleAt_even (i y : Nat) : nibbleAt r i (2 * y) = recByte r (i + y) / 16 := by
  unfold nibbleAt
  rw [if_pos (by omega), Nat.mul_div_cancel_left y (by decide)]

theorem nibbleAt_odd (i y : Nat) : nibbleAt r i (2 * y + 1) = recByte r (i + y) % 16 := by
  unfold nibbleAt
  rw [if_neg (by omega), show (2 * y + 1) / 2 = y by omega]

/-- The checks of the building, of heartbeat and period, and of the spread (offsets 2 to 18). -/
def buildingChecks : List RangeCheck :=
  let i := (clampRecord r).value
  [(2, decide (47 < recByte r 2)), (3, decide (47 < recByte r 3)), (3, decide ((clampHigh 47 (recByte r 3) 3).value < i.low)),
    (4, decide (recByte r 4 < i.low) || decide (i.high < recByte r 4)),
    (5, decide (recByte r 5 < i.low) || decide (i.high < recByte r 5)),
    (6, decide (recByte r 6 < 2 ∨ 10 < recByte r 6)),
    (7, decide (recWord r 7 < 10 ∨ 600 < recWord r 7)), (9, decide (3 < recByte r 9 / 16)),
    (9, decide (3 < recByte r 9 % 16)), (10, decide (7 < recByte r 10)), (11, decide (3 < recByte r 11)),
    (14, decide (3 < recByte r 14)), (13, decide (recByte r 13 < 1 ∨ 16 < recByte r 13)),
    (16, decide (recByte r 16 < 1 ∨ 16 < recByte r 16)), (12, decide (i.up.d - 1 < recByte r 12)),
    (15, decide (i.down.d - 1 < recByte r 15)), (17, decide (47 < recByte r 17)), (18, decide (8 < recByte r 18))]

/-- The checks of the zone kinds, two in a byte (offsets 20 to 23). -/
def kindChecks : List RangeCheck := (List.range 8).map (fun z => (20 + z / 2, decide (5 < nibbleAt r 20 z)))

/-- The checks of the limits and the cadences (offsets 34 to 43). -/
def limitChecks : List RangeCheck :=
  [(34, decide (recWord r 34 < 30 ∨ 600 < recWord r 34)), (36, decide (recWord r 36 < 60 ∨ 600 < recWord r 36)),
    (39, recByte r 39 / 16 % 8 == 0), (41, recByte r 41 / 16 % 8 == 0),
    (42, decide (recByte r 42 < 1 ∨ 8 < recByte r 42)), (43, decide (recByte r 43 < 5 ∨ 30 < recByte r 43))]

/-- The checks of the steps of the three sequences (offsets 44 to 61). -/
def stepChecks : List RangeCheck := (List.range 18).map (fun x => (44 + x, decide (4 < recByte r (44 + x) / 16)))

/-- Every check of 1-6, in its order. -/
def checks : List RangeCheck := buildingChecks r ++ kindChecks r ++ limitChecks r ++ stepChecks r

theorem stepTables_faults : offsetsOutside (stepChecks r)
    = (clampTab 6 (fun i => clampStep (recByte r (44 + i)) (44 + i))).faults
      ++ (clampTab 6 (fun i => clampStep (recByte r (50 + i)) (50 + i))).faults
      ++ (clampTab 6 (fun i => clampStep (recByte r (56 + i)) (56 + i))).faults := by
  rw [clampTab_faults 6 _ _ (fun i => clampStep_faults _ (44 + i)),
    clampTab_faults 6 _ _ (fun i => clampStep_faults _ (50 + i)),
    clampTab_faults 6 _ _ (fun i => clampStep_faults _ (56 + i)), ← offsetsOutside_append, ← offsetsOutside_append]
  rfl

theorem kindTable_faults : offsetsOutside (kindChecks r) = (clampTab 8 (fun z =>
    clampZoneKind (if z % 2 = 0 then highNibble r (20 + z / 2) else lowNibble r (20 + z / 2)) (20 + z / 2))).faults :=
  (clampTab_faults 8 _ _ (fun z => clampZoneKind_faults _ (20 + z / 2))).symm

theorem clampRecord_faults : (clampRecord r).faults = offsetsOutside (checks r) := by
  unfold checks
  rw [offsetsOutside_append, offsetsOutside_append, offsetsOutside_append, kindTable_faults, stepTables_faults]
  simp only [buildingChecks, limitChecks, offsetsOutside_cons, clampRecord, clampCadence, clampHigh_faults,
    clampRange_faults, clampIf_faults, List.append_assoc, highNibble, lowNibble]

/-! ### The offsets by the table of 1-6 -/

theorem at_either {n x y : Nat} (p : Nat → Prop) : (n = x ∨ n = y) ∧ p n ↔ (n = x ∧ p x) ∨ (n = y ∧ p y) := by
  constructor
  · rintro ⟨rfl | rfl, h⟩
    · exact .inl ⟨rfl, h⟩
    · exact .inr ⟨rfl, h⟩
  · rintro (⟨rfl, h⟩ | ⟨rfl, h⟩)
    · exact ⟨.inl rfl, h⟩
    · exact ⟨.inr rfl, h⟩

variable {r} in
theorem mem_buildingChecks {n : Nat} : (n, true) ∈ buildingChecks r ↔
    (n = 2 ∧ 47 < recByte r 2) ∨ (n = 3 ∧ (47 < recByte r 3 ∨ recByte r 3 < (clampRecord r).value.low))
    ∨ (n = 4 ∧ (recByte r 4 < (clampRecord r).value.low ∨ (clampRecord r).value.high < recByte r 4))
    ∨ (n = 5 ∧ (recByte r 5 < (clampRecord r).value.low ∨ (clampRecord r).value.high < recByte r 5))
    ∨ (n = 6 ∧ (recByte r 6 < 2 ∨ 10 < recByte r 6))
    ∨ (n = 7 ∧ (256 * recByte r 7 + recByte r 8 < 10 ∨ 600 < 256 * recByte r 7 + recByte r 8))
    ∨ (n = 9 ∧ (3 < recByte r 9 / 16 ∨ 3 < recByte r 9 % 16)) ∨ (n = 10 ∧ 7 < recByte r 10)
    ∨ ((n = 11 ∨ n = 14) ∧ 3 < recByte r n) ∨ ((n = 13 ∨ n = 16) ∧ (recByte r n = 0 ∨ 16 < recByte r n))
    ∨ (n = 12 ∧ (clampRecord r).value.up.d ≤ recByte r 12) ∨ (n = 15 ∧ (clampRecord r).value.down.d ≤ recByte r 15)
    ∨ (n = 17 ∧ 47 < recByte r 17) ∨ (n = 18 ∧ 8 < recByte r 18) := by
  have hhigh : (clampHigh 47 (recByte r 3) 3).value < (clampRecord r).value.low
      ↔ recByte r 3 < (clampRecord r).value.low := by rw [clampHigh_value, image_low]; omega
  have hup : (clampRecord r).value.up.d - 1 < recByte r 12 ↔ (clampRecord r).value.up.d ≤ recByte r 12 := by
    rw [(image_up r).2.1]; omega
  have hdown : (clampRecord r).value.down.d - 1 < recByte r 15 ↔ (clampRecord r).value.down.d ≤ recByte r 15 := by
    rw [(image_down r).2.1]; omega
  rw [at_either (fun n => 3 < recByte r n), at_either (fun n => recByte r n = 0 ∨ 16 < recByte r n)]
  simp only [buildingChecks, List.mem_cons, Prod.mk.injEq, List.not_mem_nil, or_false, eq_comm (a := true),
    Bool.or_eq_true, decide_eq_true_eq, hhigh, hup, hdown, recWord_eq, Nat.lt_one_iff, and_or_left, or_assoc]

variable {r} in
theorem mem_kindChecks {n : Nat} : (n, true) ∈ kindChecks r ↔
    20 ≤ n ∧ n ≤ 23 ∧ (5 < recByte r n / 16 ∨ 5 < recByte r n % 16) := by
  simp only [kindChecks, List.mem_map, List.mem_range, Prod.mk.injEq, decide_eq_true_eq]
  constructor
  · rintro ⟨z, hz, rfl, hbad⟩
    refine ⟨Nat.le_add_right _ _, by omega, ?_⟩
    unfold nibbleAt at hbad
    split at hbad
    · exact .inl hbad
    · exact .inr hbad
  · rintro ⟨hlow, hhigh, hbad⟩
    obtain ⟨y, rfl⟩ := Nat.exists_eq_add_of_le hlow
    rcases hbad with hbad | hbad
    · exact ⟨2 * y, by omega, by omega, (nibbleAt_even r 20 y).symm ▸ hbad⟩
    · exact ⟨2 * y + 1, by omega, by omega, (nibbleAt_odd r 20 y).symm ▸ hbad⟩

variable {r} in
theorem mem_limitChecks {n : Nat} : (n, true) ∈ limitChecks r ↔
    (n = 34 ∧ (256 * recByte r 34 + recByte r 35 < 30 ∨ 600 < 256 * recByte r 34 + recByte r 35))
    ∨ (n = 36 ∧ (256 * recByte r 36 + recByte r 37 < 60 ∨ 600 < 256 * recByte r 36 + recByte r 37))
    ∨ ((n = 39 ∨ n = 41) ∧ recByte r n / 16 % 8 = 0) ∨ (n = 42 ∧ (recByte r 42 = 0 ∨ 8 < recByte r 42))
    ∨ (n = 43 ∧ (recByte r 43 < 5 ∨ 30 < recByte r 43)) := by
  rw [at_either (fun n => recByte r n / 16 % 8 = 0)]
  simp only [limitChecks, List.mem_cons, Prod.mk.injEq, List.not_mem_nil, or_false, eq_comm (a := true),
    decide_eq_true_eq, beq_iff_eq, recWord_eq, Nat.lt_one_iff, and_or_left, or_assoc]

variable {r} in
theorem mem_stepChecks {n : Nat} : (n, true) ∈ stepChecks r ↔ 44 ≤ n ∧ n ≤ 61 ∧ 4 < recByte r n / 16 := by
  simp only [stepChecks, List.mem_map, List.mem_range, Prod.mk.injEq, decide_eq_true_eq]
  constructor
  · rintro ⟨x, hx, rfl, hbad⟩
    exact ⟨by omega, by omega, hbad⟩
  · rintro ⟨hlow, hhigh, hbad⟩
    obtain ⟨x, rfl⟩ := Nat.exists_eq_add_of_le hlow
    exact ⟨x, by omega, rfl, hbad⟩

/-! ### How often an offset is reported -/

/-- Both nibbles of the byte lie outside their range. -/
def BothOutside (n : Nat) : Prop := (n = 9 ∧ 3 < recByte r 9 / 16 ∧ 3 < recByte r 9 % 16)
  ∨ (20 ≤ n ∧ n ≤ 23 ∧ 5 < recByte r n / 16 ∧ 5 < recByte r n % 16)

/-- The offset of each check. -/
def checkOffsets : List Nat := [2, 3, 3, 4, 5, 6, 7, 9, 9, 10, 11, 14, 13, 16, 12, 15, 17, 18, 20, 20, 21, 21, 22, 22,
  23, 23, 34, 36, 39, 41, 42, 43, 44, 45, 46, 47, 48, 49, 50, 51, 52, 53, 54, 55, 56, 57, 58, 59, 60, 61]

theorem checks_offsets : (checks r).map Prod.fst = checkOffsets := rfl

/-- Every offset has one check but 3, 9 and the zone kinds. -/
theorem count_checkOffsets {n : Nat} (h : n ∉ [3, 9, 20, 21, 22, 23]) : checkOffsets.count n ≤ 1 := by
  by_cases hn : n < 62
  · exact (by decide : ∀ n < 62, n ∉ [3, 9, 20, 21, 22, 23] → checkOffsets.count n ≤ 1) n hn h
  · have hbelow : ∀ m ∈ checkOffsets, m < 62 := by decide
    rw [List.count_eq_zero_of_not_mem (fun hm => hn (hbelow n hm))]
    exact Nat.zero_le 1

variable {r} in
theorem count_of_two {n : Nat} {b c : Bool} (h : (checks r).filter (fun x => x.1 == n) = [(n, b), (n, c)]) :
    (clampRecord r).faults.count n = b.toNat + c.toNat := by
  have hfilter : (checks r).countP (fun x => x.1 == n && x.2) = ((checks r).filter (fun x => x.1 == n)).countP Prod.snd := by
    rw [List.countP_filter]
    exact List.countP_congr (fun x _ => by rw [Bool.and_comm])
  rw [clampRecord_faults, count_offsetsOutside, hfilter, h]
  cases b <;> cases c <;> rfl

theorem count_high : (clampRecord r).faults.count 3 ≤ 1 := by
  rw [count_of_two (b := decide (47 < recByte r 3))
    (c := decide ((clampHigh 47 (recByte r 3) 3).value < (clampRecord r).value.low)) rfl, clampHigh_value, image_low]
  by_cases h : 47 < recByte r 3
  · rw [decide_eq_false (p := _ < min 47 _) (by omega)]
    exact Bool.toNat_le _
  · rw [decide_eq_false h, Bool.toNat_false, Nat.zero_add]
    exact Bool.toNat_le _

theorem count_bands : (clampRecord r).faults.count 9
    = (decide (3 < recByte r 9 / 16)).toNat + (decide (3 < recByte r 9 % 16)).toNat := count_of_two rfl

theorem count_kinds {n : Nat} (hlow : 20 ≤ n) (hhigh : n ≤ 23) : (clampRecord r).faults.count n
    = (decide (5 < recByte r n / 16)).toNat + (decide (5 < recByte r n % 16)).toNat := by
  refine count_of_two ?_
  obtain rfl | rfl | rfl | rfl : n = 20 ∨ n = 21 ∨ n = 22 ∨ n = 23 := by omega
  iterate 4 rfl

theorem toNat_add_of_and {p q : Prop} [Decidable p] [Decidable q] :
    (p ∧ q → (decide p).toNat + (decide q).toNat = 2) ∧ (¬ (p ∧ q) → (decide p).toNat + (decide q).toNat ≤ 1) := by
  by_cases hp : p <;> by_cases hq : q <;> simp [hp, hq]

theorem count_clamps (n : Nat) : (BothOutside r n → (clampRecord r).faults.count n = 2)
    ∧ (¬ BothOutside r n → (clampRecord r).faults.count n ≤ 1) := by
  by_cases h9 : n = 9
  · subst h9
    have hboth : BothOutside r 9 ↔ 3 < recByte r 9 / 16 ∧ 3 < recByte r 9 % 16 := by
      simp [BothOutside]
    rw [hboth, count_bands]
    exact toNat_add_of_and
  · by_cases hk : 20 ≤ n ∧ n ≤ 23
    · have hboth : BothOutside r n ↔ 5 < recByte r n / 16 ∧ 5 < recByte r n % 16 := by
        simp [BothOutside, h9, hk]
      rw [hboth, count_kinds r hk.1 hk.2]
      exact toNat_add_of_and
    · refine ⟨fun h => absurd h (by rintro (h | h); exacts [h9 h.1, hk ⟨h.1, h.2.1⟩]), fun _ => ?_⟩
      by_cases h3 : n = 3
      · exact h3 ▸ count_high r
      · rw [clampRecord_faults]
        refine (count_offsetsOutside_le n _).trans ?_
        rw [checks_offsets]
        exact count_checkOffsets (by simp only [List.mem_cons, List.not_mem_nil, or_false]; omega)

variable {r} in
/-- The offsets that clamping reports. -/
theorem mem_clamps {n : Nat} : n ∈ (clampRecord r).faults ↔ (((n, true) ∈ buildingChecks r ∨ (n, true) ∈ kindChecks r)
    ∨ (n, true) ∈ limitChecks r) ∨ (n, true) ∈ stepChecks r := by
  rw [clampRecord_faults, mem_offsetsOutside, checks, List.mem_append, List.mem_append, List.mem_append]

variable {r} in
/-- The records of CONFIG-CLAMPED, by the offsets that clamping reports. -/
theorem FaultList.HoldsClamps.reports {l : FaultList} (h : l.HoldsClamps (clampRecord r).faults) (n : Nat) :
    (l.holds .configClamped n = true → n ∈ (clampRecord r).faults)
    ∧ (n ∈ (clampRecord r).faults → l.holds .configClamped n = true ∨ 0 < l.overflow)
    ∧ ∀ x ∈ l.records, x.kind = .configClamped → x.subject = n →
        (BothOutside r n → x.count = 2) ∧ (¬ BothOutside r n → x.count = 1) := by
  refine ⟨fun hn => ?_, fun hn => (h.found n hn).imp_left ?_, fun x hx hk hs => ?_⟩
  · obtain ⟨x, hx, hk, rfl, _⟩ := (FaultList.holds_iff _ _ _).1 hn
    exact (h.clamp x hx hk).noted
  · rintro ⟨x, hx, hk, hs⟩
    exact (FaultList.holds_iff _ _ _).2 ⟨x, hx, hk, hs, (h.clamp x hx hk).active⟩
  · subst hs
    obtain ⟨_, hnoted, hcount⟩ := h.clamp x hx hk
    obtain ⟨htwo, hone⟩ := count_clamps r x.subject
    have hpos := List.count_pos_iff.2 hnoted
    refine ⟨fun hb => ?_, fun hb => ?_⟩
    · rw [hcount, htwo hb]
      rfl
    · have := hone hb
      omega

/-! ### The tables of the image -/

theorem image_zoneKinds {z : Nat} (h : z < 8) : ((clampRecord r).value.zoneKinds.at z .unused).number
    = if nibbleAt r 20 z ≤ 5 then nibbleAt r 20 z else 1 := by
  have hz := Tab.at_ofFn z (fun z => (clampZoneKind (nibbleAt r 20 z) (20 + z / 2)).value) .unused h
  exact (congrArg ZoneKind.number hz).trans (clampZoneKind_value _ _)

theorem stepTable_value (base : Nat) {x : Nat} (h : x < 6) :
    ((clampTab 6 (fun i => clampStep (recByte r (base + i)) (base + i))).value.at x ⟨.stop, 0⟩)
      = (clampStep (recByte r (base + x)) (base + x)).value :=
  Tab.at_ofFn x (fun i => (clampStep (recByte r (base + i)) (base + i)).value) ⟨.stop, 0⟩ h

theorem image_present {x : Nat} (h : x < 4) :
    (clampRecord r).value.stairsPresent.at x false = (r.at 31 0).getLsbD (4 + x)
    ∧ (clampRecord r).value.carsPresent.at x false = (r.at 31 0).getLsbD x
    ∧ (clampRecord r).value.minterms.at x 0 = nibbleAt r 32 x :=
  ⟨Tab.at_ofFn x (fun x => (r.at 31 0).getLsbD (4 + x)) false h, Tab.at_ofFn x (fun x => (r.at 31 0).getLsbD x) false h,
    Tab.at_ofFn x (nibbleAt r 32) 0 h⟩

end

/-- Settles O6: each field by the lemma about its clamp; the reports by the checks of 1-6, whose offsets the entry to
LISTEN leaves in the list. -/
theorem acceptedRecordGivesLawfulImage : Obligations.AcceptedRecordGivesLawfulImage := by
  intro r pins s role hl hr hpassed b within nibble kind known
  refine ⟨_, exec_eq_after _ _, ?_⟩
  rw [after_configLoad hl hr r pins]
  have ht := touches_configEnd role r pins s
  have hclamps := holdsClamps_configEnd (r := role) hpassed pins (s := s)
  generalize ((s.load role r).listenEntry pins).finish s = t at *
  rw [load_of_passed hpassed] at ht
  have himage : t.image = (clampRecord r).value := ht.image_eq (by decide)
  have hdigest : t.station.digest = (clampRecord r).value.digest := ht.digest_eq (by decide)
  obtain ⟨hbandUp, hbandDown, hmargin⟩ := image_bands r
  obtain ⟨hupW, hupD, hupN⟩ := image_up r
  obtain ⟨hdownW, hdownD, hdownN⟩ := image_down r
  obtain ⟨hbase, hstep⟩ := image_pattern r
  obtain ⟨hheld, hrecall, hstrobe, hkeep⟩ := image_limits r
  obtain ⟨halert, hevac⟩ := image_cadences r
  rw [hdigest, himage]
  refine ⟨ht.loadStatus_eq (by decide), clampRecord_lawful r, by rw [Image.digest, Nat.mul_comm 16], ?_⟩
  intro i outside bad twice
  refine ⟨image_low r, image_high r, image_primary r, image_alternate r, image_heartbeat r, image_period r, hbandUp,
    hbandDown, hmargin, hupW, hupD, hupN, hdownW, hdownD, hdownN, hbase, hstep, rfl, rfl, fun z hz => ?_,
    fun f hf => maskOf_getLsbD r hf, rfl, fun x hx => image_present r hx, hheld, hrecall, halert, hevac, hstrobe, hkeep,
    fun x hx => ?_, fun hempty n => ?_⟩
  · exact image_zoneKinds r hz
  · have hvalue (base : Nat) := (stepTable_value r base hx).symm ▸ clampStep_value (recByte r (base + x)) (base + x)
    exact ⟨hvalue 44, hvalue 50, hvalue 56⟩
  · have hbad : bad n ↔ n ∈ (clampRecord r).faults := by
      rw [mem_clamps, mem_buildingChecks, mem_kindChecks, mem_limitChecks, mem_stepChecks]
      simp only [or_assoc]
      rfl
    rw [hbad]
    exact (hclamps hempty).reports n

end Sys2Proof.Machine
end

section
/-! ## The status builder at the end of an event: change causes, placement and class (R48 to R50) -/

namespace Sys2Proof

/-- Two tables differ in what a function reads of their records exactly where it differs at some place. -/
theorem Tab.map_list_bne_iff {α β : Type} [DecidableEq β] {n : Nat} (f : α → β) (s t : Tab α n) (d : α) :
    (s.list.map f != t.list.map f) = true ↔ ∃ i < n, f (t.at i d) ≠ f (s.at i d) := by
  have hequal : s.list.map f = t.list.map f ↔ ∀ i < n, f (s.at i d) = f (t.at i d) := by
    constructor
    · intro h i hi
      rw [← Tab.at_map s i f d (f d) hi, ← Tab.at_map t i f d (f d) hi, Tab.ext_list (s := s.map f) (t := t.map f) h]
    · intro h
      refine congrArg Tab.list (Tab.ext_at (s := s.map f) (t := t.map f) (f d) fun i hi => ?_)
      rw [Tab.at_map s i f d (f d) hi, Tab.at_map t i f d (f d) hi, h i hi]
  rw [bne_iff_ne, ne_eq, hequal]
  simp only [not_forall, exists_prop, ne_eq, eq_comm]

end Sys2Proof

namespace Sys2Proof.Machine

/-! ### What the builder reads -/

theorem State.latched_iff (s : State) : s.latched = true ↔ (∃ z < 8, (s.zone z).latch = true)
    ∨ (∃ i < 4, (s.stair i).latch = true) ∨ ∃ c < 4, (s.car c).latch = true := by
  simp only [State.latched, Bool.or_eq_true, or_assoc]
  exact or_congr (s.zones.any_iff _ _) (or_congr (s.stairs.any_iff _ _) (s.cars.any_iff _ _))

theorem State.reportOwed_iff (s : State) : s.reportOwed = true ↔ s.owes := by
  simp only [State.reportOwed, Bool.or_eq_true, State.latched_iff, or_assoc]

theorem State.statusClass_of_news {s : State} (h : s.alarmNews) : s.statusClass = .alarm := by
  refine if_pos ?_
  rw [Bool.or_eq_true, s.zones.any_iff _ (Zone.atReset .unused)]
  obtain ⟨z, hz, hstate, hmark⟩ | ⟨f, hf, hnew⟩ := h
  · exact .inl ⟨z, hz, by rw [Bool.and_eq_true]; exact ⟨beq_iff_eq.2 hstate, hmark⟩⟩
  · exact .inr (List.any_eq_true.2 ⟨f, hf, by simpa using hnew⟩)

theorem State.statusClass_of_no_news {s : State} (h : ¬ s.alarmNews) : s.statusClass = .status := by
  refine if_neg fun hany => h ?_
  rw [Bool.or_eq_true, s.zones.any_iff _ (Zone.atReset .unused)] at hany
  obtain ⟨z, hz, hzone⟩ | horigin := hany
  · rw [Bool.and_eq_true] at hzone
    exact .inl ⟨z, hz, beq_iff_eq.1 hzone.1, hzone.2⟩
  · obtain ⟨f, hf, hnew⟩ := List.any_eq_true.1 horigin
    exact .inr ⟨f, hf, by simpa using hnew⟩

/-- The builder looks for the change causes of R48 (log 12). -/
theorem changeCause_iff {s t : State} (hrole : t.station.role = s.station.role) :
    changeCause s t = true ↔ s.causes t := by
  have hview : (s.regime.view != t.regime.view) = true ↔ t.regime.generation ≠ s.regime.generation
      ∨ t.regime.general ≠ s.regime.general ∨ t.regime.hold ≠ s.regime.hold ∨ t.regime.silence ≠ s.regime.silence
      ∨ t.regime.originFloors ≠ s.regime.originFloors := by
    rw [bne_iff_ne, ne_comm]
    simp only [ne_eq, Regime.view, Prod.mk.injEq, not_and_or]
  have hzones := Tab.map_list_bne_iff (fun z : Zone => z.count) s.zones t.zones (Zone.atReset .unused)
  have hstairs := Tab.map_list_bne_iff (fun x : Stair => x.count) s.stairs t.stairs (Stair.atReset false 0)
  have hcars := Tab.map_list_bne_iff (fun c : Car => c.count) s.cars t.cars (Car.atReset false)
  simp only [changeCause, Bool.or_eq_true, Bool.and_eq_true, hzones, hstairs, hcars, hview, hrole, bne_iff_ne,
    beq_iff_eq, or_assoc]
  simp only [ne_comm (a := s.speaker.level), ne_comm (a := s.speaker.source), ne_comm (a := s.authority.console),
    ne_comm (a := s.ownPhase), ne_comm (a := s.link.alive)]
  rfl

/-- A cause between two states lies on one side of any state between them. -/
theorem State.causes_split {s t : State} (hrole : t.station.role = s.station.role) {u : State} (h : s.causes u) :
    s.causes t ∨ t.causes u := by
  by_contra hno
  obtain ⟨hst, htu⟩ := not_or.1 hno
  simp only [State.causes, not_or, not_exists, not_and, ne_eq, not_not, hrole] at hst htu
  obtain ⟨z1, i1, c1, g1, gen1, h1, q1, o1, f1, k1⟩ := hst
  obtain ⟨z2, i2, c2, g2, gen2, h2, q2, o2, f2, k2⟩ := htu
  obtain ⟨z, hz, hd⟩ | ⟨i, hi, hd⟩ | ⟨c, hc, hd⟩ | hd | hd | hd | hd | hd | ⟨hr, hd⟩ | ⟨hr, hd⟩ := h
  · exact hd ((z2 z hz).trans (z1 z hz))
  · exact hd ((i2 i hi).trans (i1 i hi))
  · exact hd ((c2 c hc).trans (c1 c hc))
  · exact hd (g2.trans g1)
  · exact hd (gen2.trans gen1)
  · exact hd (h2.trans h1)
  · exact hd (q2.trans q1)
  · exact hd (o2.trans o1)
  · obtain ⟨lv1, so1, au1, ph1⟩ := f1 hr
    obtain ⟨lv2, so2, au2, ph2⟩ := f2 hr
    obtain hd | hd | hd | hd := hd
    · exact hd (lv2.trans lv1)
    · exact hd (so2.trans so1)
    · exact hd (au2.trans au1)
    · exact hd (ph2.trans ph1)
  · exact hd ((k2 hr).trans (k1 hr))

/-! ### Placement -/

/-- The entry in the STATUS slot is of one of the two classes of a STATUS. -/
def State.classed (s : State) : Prop := ∀ e, s.slots.status = some e → e.cls = .alarm ∨ e.cls = .status

theorem State.statusClass_classed (s : State) : s.statusClass = .alarm ∨ s.statusClass = .status := by
  by_cases h : s.alarmNews
  · exact .inl (State.statusClass_of_news h)
  · exact .inr (State.statusClass_of_no_news h)

theorem placeStatus_of_not_run {s : State} (h : s.station.lifecycle ≠ .run) : s.placeStatus = s :=
  if_pos (by simpa using h)

/-- The entry that placement writes in an empty slot (R49, R50). -/
theorem placeStatus_enters {s : State} (hfree : s.slots.status = none) {e : StatusEntry}
    (he : s.placeStatus.slots.status = some e) : e = ⟨s.statusClass, 0, .pending⟩ ∧ s.owes
      ∧ (s.statusClass = .alarm ∨ s.builder.spacing = none) := by
  by_cases hrun : s.station.lifecycle = .run
  · simp only [State.placeStatus, hrun, hfree, bne_self_eq_false, Bool.false_eq_true, if_false] at he
    split at he
    · rename_i hplaces
      rw [Bool.and_eq_true, State.reportOwed_iff, Bool.or_eq_true, beq_iff_eq, Option.isNone_iff_eq_none] at hplaces
      exact ⟨(Option.some.inj he).symm, hplaces⟩
    · rw [hfree] at he
      cases he
  · rw [placeStatus_of_not_run hrun, hfree] at he
    cases he

/-- An entry that stands in the slot stays, and only its class may change, to ALARM (R50). -/
theorem placeStatus_stays {s : State} {e : StatusEntry} (he : s.slots.status = some e) :
    ∃ e', s.placeStatus.slots.status = some e' ∧ e'.standing = e.standing ∧ (e'.cls = .alarm ∨ e'.cls = e.cls)
      ∧ (s.station.lifecycle = .run → e.standing = .pending → s.alarmNews → e'.cls = .alarm) := by
  by_cases hrun : s.station.lifecycle = .run
  · simp only [State.placeStatus, hrun, he, bne_self_eq_false, Bool.false_eq_true, if_false]
    split
    · exact ⟨_, rfl, rfl, .inl rfl, fun _ _ _ => rfl⟩
    · rename_i hnot
      refine ⟨e, he, rfl, .inr rfl, fun _ hp hnews => absurd ?_ hnot⟩
      rw [hp, State.statusClass_of_news hnews]
      rfl
  · rw [placeStatus_of_not_run hrun]
    exact ⟨e, he, rfl, .inr rfl, fun h => absurd h hrun⟩

theorem placeStatus_classed {s : State} (h : s.classed) : s.placeStatus.classed := by
  intro e he
  cases hslot : s.slots.status with
  | none =>
    obtain ⟨rfl, -, -⟩ := placeStatus_enters hslot he
    exact s.statusClass_classed
  | some e₀ =>
    obtain ⟨e', he', -, hcls, -⟩ := placeStatus_stays hslot
    obtain rfl : e' = e := Option.some.inj (he'.symm.trans he)
    exact hcls.elim .inl fun hc => hc ▸ h e₀ hslot

/-- Placement reads what it leaves. -/
theorem placeStatus_owes (s : State) : s.placeStatus.owes ↔ s.owes := by
  rw [← State.reportOwed_iff, placeStatus_reportOwed, State.reportOwed_iff]

theorem Touches.alarmNews_iff {ps : List Part} {s t : State} (h : Touches ps s t) (hz : .zones ∉ ps)
    (ho : .origins ∉ ps) (hr : .reported ∉ ps) : t.alarmNews ↔ s.alarmNews := by
  simp only [State.alarmNews, State.zone, Regime.originFloors, h.zones_eq hz, h.origins_eq ho, h.reported_eq hr]

theorem placeStatus_alarmNews (s : State) : s.placeStatus.alarmNews ↔ s.alarmNews :=
  (touches_placeStatus s).alarmNews_iff (by decide) (by decide) (by decide)

/-- What every event leaves in the slot (R49, R50). -/
theorem placeStatus_placed {s : State} (h : s.classed) : s.placeStatus.placed := by
  intro hrun
  rw [(touches_placeStatus s).lifecycle_eq (by decide)] at hrun
  refine ⟨fun hfree howes => ?_, fun e he => ⟨placeStatus_classed h e he, fun hpending hnews => ?_⟩⟩
  · rw [placeStatus_owes] at howes
    rw [placeStatus_alarmNews, (touches_placeStatus s).spacing_eq (by decide)]
    cases hslot : s.slots.status with
    | some e =>
      obtain ⟨e', he', -⟩ := placeStatus_stays hslot
      rw [he'] at hfree
      cases hfree
    | none =>
      have hstays : ¬ (s.reportOwed && (s.statusClass == .alarm || s.builder.spacing.isNone)) = true := by
        intro hplaces
        simp [State.placeStatus, hrun, hslot, hplaces] at hfree
      rw [Bool.and_eq_true, State.reportOwed_iff, Bool.or_eq_true, beq_iff_eq, Option.isNone_iff_eq_none] at hstays
      exact ⟨fun hnews => hstays ⟨howes, .inl (State.statusClass_of_news hnews)⟩,
        fun hopen => hstays ⟨howes, .inr hopen⟩⟩
  · rw [placeStatus_alarmNews] at hnews
    cases hslot : s.slots.status with
    | none =>
      obtain ⟨rfl, -, -⟩ := placeStatus_enters hslot he
      exact State.statusClass_of_news hnews
    | some e₀ =>
      obtain ⟨e', he', hstanding, -, hraised⟩ := placeStatus_stays hslot
      obtain rfl : e' = e := Option.some.inj (he'.symm.trans he)
      exact hraised hrun (hstanding ▸ hpending) hnews

end Sys2Proof.Machine
end

section
/-! ## One event as the status builder sees it (R48 to R54) -/

namespace Sys2Proof.Machine

/-! ### States that the builder reads alike -/

/-- Whatever causes, placement and class depend on is the same in two states. -/
structure State.SameReport (s t : State) : Prop where
  lifecycle : t.station.lifecycle = s.station.lifecycle
  role : t.station.role = s.station.role
  address : t.station.address = s.station.address
  zone : ∀ z < 8, (t.zone z).count = (s.zone z).count ∧ (t.zone z).state = (s.zone z).state
    ∧ (t.zone z).latch = (s.zone z).latch ∧ (t.zone z).mark = (s.zone z).mark
  stair : ∀ i < 4, (t.stair i).count = (s.stair i).count ∧ (t.stair i).latch = (s.stair i).latch
  car : ∀ c < 4, (t.car c).count = (s.car c).count ∧ (t.car c).latch = (s.car c).latch
  regime : t.regime = s.regime
  level : t.speaker.level = s.speaker.level
  source : t.speaker.source = s.speaker.source
  console : t.authority.console = s.authority.console
  keep : t.link.keep.isSome = s.link.keep.isSome
  heartbeatOwed : t.builder.heartbeatOwed = s.builder.heartbeatOwed
  changeDue : t.builder.changeDue = s.builder.changeDue
  spacing : t.builder.spacing = none ↔ s.builder.spacing = none
  reported : t.builder.reported = s.builder.reported
  status : t.slots.status = s.slots.status

/-- The parts of which the builder reads nothing. -/
def Part.unreported : List Part :=
  [.pins, .time, .listen, .holdOff, .image, .rx, .tx, .fifo, .markSlots, .line, .snapshot, .peers, .duplicateAge,
    .restoreRefused, .cadence, .faults, .runLamp, .alarmLamp, .haltLamp, .lineLamp]

theorem Touches.sameReport {ps : List Part} {s t : State} (h : Touches ps s t) (hps : ps ⊆ Part.unreported) :
    s.SameReport t := by
  have h := h.mono hps
  have hzones := h.zones_eq (by decide)
  have hstairs := h.stairs_eq (by decide)
  have hcars := h.cars_eq (by decide)
  exact {
    lifecycle := h.lifecycle_eq (by decide)
    role := h.role_eq (by decide)
    address := h.address_eq (by decide)
    zone := fun z _ => by simp [State.zone, hzones]
    stair := fun i _ => by simp [State.stair, hstairs]
    car := fun c _ => by simp [State.car, hcars]
    regime := h.regime_eq (by decide) (by decide) (by decide) (by decide) (by decide) (by decide)
    level := by rw [h.speaker_eq (by decide)]
    source := by rw [h.speaker_eq (by decide)]
    console := by rw [h.authority_eq (by decide)]
    keep := by rw [h.link_eq (by decide)]
    heartbeatOwed := h.heartbeatOwed_eq (by decide)
    changeDue := h.changeDue_eq (by decide)
    spacing := by rw [h.spacing_eq (by decide)]
    reported := h.reported_eq (by decide)
    status := h.statusSlot_eq (by decide) }

theorem State.SameReport.refl (s : State) : s.SameReport s := (Touches.refl [] s).sameReport (by decide)

/-- Of the console link the builder reads whether it is alive. -/
theorem sameReport_link (s : State) {l : Link} (h : l.keep.isSome = s.link.keep.isSome) :
    s.SameReport { s with link := l } := { State.SameReport.refl s with keep := h }

section
variable {s t : State} (h : s.SameReport t)
include h

theorem State.SameReport.acts : t.acts = s.acts := by simp [State.acts, h.lifecycle]

theorem State.SameReport.no_causes : ¬ s.causes t := by
  have hown : t.ownPhase = s.ownPhase := by simp [State.ownPhase, State.phaseOf, h.address, h.regime]
  simp only [State.causes, not_or, not_exists, not_and, ne_eq, not_not, h.regime, h.level, h.source, h.console, h.keep,
    hown, and_true, implies_true]
  exact ⟨fun z hz => (h.zone z hz).1, fun i hi => (h.stair i hi).1, fun c hc => (h.car c hc).1⟩

theorem State.SameReport.symm : t.SameReport s where
  lifecycle := h.lifecycle.symm
  role := h.role.symm
  address := h.address.symm
  zone := fun z hz => by
    obtain ⟨h1, h2, h3, h4⟩ := h.zone z hz
    exact ⟨h1.symm, h2.symm, h3.symm, h4.symm⟩
  stair := fun i hi => ⟨(h.stair i hi).1.symm, (h.stair i hi).2.symm⟩
  car := fun c hc => ⟨(h.car c hc).1.symm, (h.car c hc).2.symm⟩
  regime := h.regime.symm
  level := h.level.symm
  source := h.source.symm
  console := h.console.symm
  keep := h.keep.symm
  heartbeatOwed := h.heartbeatOwed.symm
  changeDue := h.changeDue.symm
  spacing := h.spacing.symm
  reported := h.reported.symm
  status := h.status.symm

theorem State.SameReport.alarmNews_iff : t.alarmNews ↔ s.alarmNews := by
  simp only [State.alarmNews, h.regime, h.reported]
  refine or_congr_left (exists_congr fun z => and_congr_right fun hz => ?_)
  obtain ⟨-, hstate, -, hmark⟩ := h.zone z hz
  rw [hstate, hmark]

theorem State.SameReport.owes_iff : t.owes ↔ s.owes := by
  simp only [State.owes, h.heartbeatOwed, h.changeDue]
  refine or_congr_right (or_congr_right (or_congr ?_ (or_congr ?_ ?_)))
  · exact exists_congr fun z => and_congr_right fun hz => by rw [(h.zone z hz).2.2.1]
  · exact exists_congr fun i => and_congr_right fun hi => by rw [(h.stair i hi).2]
  · exact exists_congr fun c => and_congr_right fun hc => by rw [(h.car c hc).2]

theorem State.SameReport.classed (hs : s.classed) : t.classed := by
  unfold State.classed
  rw [h.status]
  exact hs

theorem State.SameReport.placed (hs : s.placed) : t.placed := by
  intro hrun
  obtain ⟨hfree, hentry⟩ := hs (h.lifecycle ▸ hrun)
  rw [h.status, h.owes_iff, h.alarmNews_iff, ne_eq, h.spacing]
  exact ⟨hfree, hentry⟩

end

/-! ### The reactions, the builder's last -/

/-- The parts that the reactions before the builder's may change. -/
def Part.responding : List Part :=
  [.zones, .origins, .general, .silenceEpoch, .phases, .lifecycle, .heartbeat, .runLamp, .peers, .stairs, .cars,
    .speaker, .cadence, .faults, .alarmLamp]

/-- The builder comes last. -/
theorem finish_eq_builderReact {s : State} (hacts : s.acts = true) (old : State) :
    ∃ t, Touches Part.responding s t ∧ s.finish old = t.builderReact old := by
  unfold State.finish
  simp only [hacts, Bool.not_true, Bool.false_eq_true, if_false]
  refine ⟨_, ?_, rfl⟩
  refine Touches.trans (t := _) ?_ ((touches_loopback _).mono (by decide))
  refine Touches.trans (t := _) ?_ ((touches_alarmLampReact _).mono (by decide))
  refine Touches.trans (t := _) ?_ ((touches_cadenceReact _).mono (by decide))
  refine Touches.trans (t := _) ?_ ((touches_speakerReact _ _ _).mono (by decide))
  refine Touches.trans (t := _) ?_ ((touches_liftsReact _ _).mono (by decide))
  refine Touches.trans (t := _) ?_ ((touches_stairsReact _ _ _).mono (by decide))
  exact Touches.ite ((touches_zonesActivated _).mono (by decide)) (.refl _ _)

theorem finish_of_not_acts {s : State} (h : s.acts = false) (old : State) : s.finish old = s :=
  if_pos (by simp [h])

/-- Change due is the builder's own field. -/
theorem builderReact_causes (old s u : State) : u.causes (s.builderReact old) ↔ u.causes s := by
  have h := touches_builderReact old s
  have hregime := h.regime_eq (by decide) (by decide) (by decide) (by decide) (by decide) (by decide)
  simp only [State.causes, State.zone, State.stair, State.car, State.ownPhase, State.phaseOf, hregime,
    h.zones_eq (by decide), h.stairs_eq (by decide), h.cars_eq (by decide), h.speaker_eq (by decide),
    h.authority_eq (by decide), h.link_eq (by decide), h.address_eq (by decide)]

/-- The builder takes the change causes of the event (R48). -/
theorem builderReact_changeDue {old s : State} (hrole : s.station.role = old.station.role) :
    (s.builderReact old).builder.changeDue = true
      ↔ s.builder.changeDue = true ∨ old.causes (s.builderReact old) := by
  rw [builderReact_causes, ← changeCause_iff hrole, ← Bool.or_eq_true]
  exact iff_of_eq (congrArg (· = true) ((touches_placeStatus _).changeDue_eq (by decide)))

/-! ### One event -/

/-- What the own work of every event leaves: the role, and of the STATUS slot the class of an entry that stays. -/
structure State.Works (s w : State) : Prop where
  role : w.station.role = s.station.role
  status : ∀ e, w.slots.status = some e → ∃ e₀, s.slots.status = some e₀ ∧ e.cls = e₀.cls

/-- The same, and change due as it was. -/
structure State.WorksQuietly (s w : State) : Prop extends State.Works s w where
  changeDue : w.builder.changeDue = s.builder.changeDue

/-- The same, and the STATUS slot as it was: all events but those that end a flight of a STATUS. -/
structure State.WorksBeside (s w : State) : Prop extends State.WorksQuietly s w where
  slot : w.slots.status = s.slots.status

/-- The parts that the own work of an event beside the builder may change. -/
def Part.work : List Part :=
  [.pins, .time, .lifecycle, .listen, .holdOff, .image, .rx, .tx, .fifo, .markSlots, .line, .heartbeat, .spacing,
    .reported, .snapshot, .zones, .peers, .duplicateAge, .generation, .general, .holdEpoch, .silenceEpoch, .origins,
    .phases, .stairs, .cars, .restoreRefused, .speaker, .authority, .cadence, .link, .faults, .runLamp, .alarmLamp,
    .haltLamp, .lineLamp]

theorem Touches.worksBeside {ps : List Part} {s w : State} (h : Touches ps s w) (hps : ps ⊆ Part.work) :
    s.WorksBeside w := by
  have h := h.mono hps
  have hslot := h.statusSlot_eq (by decide)
  exact { role := h.role_eq (by decide)
          status := fun e he => ⟨e, hslot ▸ he, rfl⟩
          changeDue := h.changeDue_eq (by decide)
          slot := hslot }

/-- Between two states lies one event, whose own work meets `W`, or a change that the builder does not see. -/
inductive State.Occurs (W : State → State → Prop) (s t : State) : Prop
  | unseen (h : s.SameReport t)
  | event (w : State) (work : W s w) (rest : (w.finish s).SameReport t)

theorem State.Occurs.mono {W X : State → State → Prop} (hWX : ∀ s w, W s w → X s w) {s t : State}
    (h : s.Occurs W t) : s.Occurs X t := by
  cases h with
  | unseen h => exact .unseen h
  | event w work rest => exact .event w (hWX s w work) rest

theorem State.Occurs.refl (W : State → State → Prop) (s : State) : s.Occurs W s := .unseen (.refl s)

/-- An event that acts, down to the builder's reaction. -/
theorem State.Occurs.cases_acting {W : State → State → Prop} {s t : State} (h : s.Occurs W t) (hacts : t.acts = true) :
    s.SameReport t ∨ ∃ w u, W s w ∧ Touches Part.responding w u ∧ (u.builderReact s).SameReport t := by
  cases h with
  | unseen h => exact .inl h
  | event w work rest =>
    cases hw : w.acts with
    | true =>
      obtain ⟨u, hu, hfinish⟩ := finish_eq_builderReact hw s
      exact .inr ⟨w, u, work, hu, hfinish ▸ rest⟩
    | false =>
      rw [finish_of_not_acts hw] at rest
      rw [rest.acts, hw] at hacts
      cases hacts

/-- The causes from a state are the same up to what the builder does not see. -/
theorem State.SameReport.causes_iff {s t u : State} (h : t.SameReport u) (hrole : t.station.role = s.station.role) :
    s.causes u ↔ s.causes t := by
  constructor
  · exact fun hc => (State.causes_split hrole hc).resolve_right h.no_causes
  · exact fun hc => (State.causes_split (h.role.trans hrole) hc).resolve_right h.symm.no_causes

/-- At the end of an event change due holds what the own work has left of it, and the causes (R48). -/
theorem State.Works.changeDue_iff {s w u t : State} (work : s.Works w) (hu : Touches Part.responding w u)
    (rest : (u.builderReact s).SameReport t) :
    t.builder.changeDue = true ↔ w.builder.changeDue = true ∨ s.causes t := by
  have hrole := (hu.role_eq (by decide)).trans work.role
  have hbuilt := ((touches_builderReact s u).role_eq (by decide)).trans hrole
  rw [rest.changeDue, builderReact_changeDue hrole, hu.changeDue_eq (by decide), rest.causes_iff hbuilt]

theorem State.Works.status_reacted {s w u : State} (work : s.Works w) (hu : Touches Part.responding w u) :
    ∀ e, u.slots.status = some e → ∃ e₀, s.slots.status = some e₀ ∧ e.cls = e₀.cls := by
  rw [hu.statusSlot_eq (by decide)]
  exact work.status

theorem State.Works.classed_reacted {s w u p : State} (work : s.Works w) (hu : Touches Part.responding w u)
    (hp : p.slots.status = u.slots.status) (hs : s.classed) : p.classed := by
  intro e he
  obtain ⟨e₀, he₀, hcls⟩ := work.status_reacted hu e (hp ▸ he)
  exact hcls ▸ hs e₀ he₀

theorem State.Works.classed {s w : State} (work : s.Works w) (hs : s.classed) : w.classed := by
  intro e he
  obtain ⟨e₀, he₀, hcls⟩ := work.status e he
  exact hcls ▸ hs e₀ he₀

/-- The builder's reaction ends in placement. -/
theorem builderReact_eq_placeStatus (old s : State) :
    ∃ p : State, p.slots.status = s.slots.status ∧ s.builderReact old = p.placeStatus :=
  ⟨{ s with builder := { s.builder with changeDue := s.builder.changeDue || changeCause old s } }, rfl, rfl⟩

section
variable {s t : State}

/-- A change cause leaves change due set (R48). -/
theorem State.Occurs.due_of_causes (h : s.Occurs State.Works t) (hacts : t.acts = true) (hc : s.causes t) :
    t.builder.changeDue = true := by
  obtain hsame | ⟨w, u, work, hu, rest⟩ := h.cases_acting hacts
  · exact absurd hc hsame.no_causes
  · exact (work.changeDue_iff hu rest).2 (.inr hc)

/-- Nothing else sets it (R48). -/
theorem State.Occurs.causes_of_due (h : s.Occurs State.WorksQuietly t) (hacts : t.acts = true)
    (hd : t.builder.changeDue = true) : s.builder.changeDue = true ∨ s.causes t := by
  obtain hsame | ⟨w, u, work, hu, rest⟩ := h.cases_acting hacts
  · exact .inl (hsame.changeDue ▸ hd)
  · rw [← work.changeDue]
    exact (work.changeDue_iff hu rest).1 hd

/-- It stands until the snapshot (log 11). -/
theorem State.Occurs.due_stands (h : s.Occurs State.WorksQuietly t) (hacts : t.acts = true)
    (hd : s.builder.changeDue = true) : t.builder.changeDue = true := by
  obtain hsame | ⟨w, u, work, hu, rest⟩ := h.cases_acting hacts
  · exact hsame.changeDue.trans hd
  · exact (work.changeDue_iff hu rest).2 (.inl (work.changeDue.trans hd))

/-- An entry that an event has placed in an empty slot (R49, R50). -/
theorem State.Occurs.enters (h : s.Occurs State.Works t) (hacts : t.acts = true) (hfree : s.slots.status = none)
    {e : StatusEntry} (he : t.slots.status = some e) : e.standing = .pending ∧ e.collisions = 0 ∧ t.owes
      ∧ (t.alarmNews → e.cls = .alarm) ∧ (¬ t.alarmNews → e.cls = .status ∧ t.builder.spacing = none) := by
  obtain hsame | ⟨w, u, work, hu, rest⟩ := h.cases_acting hacts
  · rw [hsame.status, hfree] at he
    cases he
  · obtain ⟨p, hp, hplace⟩ := builderReact_eq_placeStatus s u
    have hempty : p.slots.status = none := by
      by_contra hslot
      obtain ⟨e₁, he₁⟩ := Option.ne_none_iff_exists'.1 hslot
      obtain ⟨e₀, he₀, -⟩ := work.status_reacted hu e₁ (hp ▸ he₁)
      rw [hfree] at he₀
      cases he₀
    rw [hplace] at rest
    rw [rest.status] at he
    obtain ⟨rfl, howes, hopen⟩ := placeStatus_enters hempty he
    rw [rest.owes_iff, rest.alarmNews_iff, rest.spacing, placeStatus_owes, placeStatus_alarmNews,
      (touches_placeStatus p).spacing_eq (by decide)]
    refine ⟨rfl, rfl, howes, State.statusClass_of_news, fun hnews => ?_⟩
    have hcls := State.statusClass_of_no_news hnews
    exact ⟨hcls, hopen.resolve_left (by rw [hcls]; decide)⟩

/-- The class of an entry that stays is not lowered (R50). -/
theorem State.Occurs.alarm_stays (h : s.Occurs State.WorksBeside t) (hacts : t.acts = true) {e e' : StatusEntry}
    (he : s.slots.status = some e) (he' : t.slots.status = some e') (hcls : e.cls = .alarm) : e'.cls = .alarm := by
  obtain hsame | ⟨w, u, work, hu, rest⟩ := h.cases_acting hacts
  · rw [hsame.status, he] at he'
    cases he'
    exact hcls
  · have hslot : u.slots.status = some e := ((hu.statusSlot_eq (by decide)).trans work.slot).trans he
    obtain ⟨p, hp, hplace⟩ := builderReact_eq_placeStatus s u
    obtain ⟨e₁, he₁, -, hraised, -⟩ := placeStatus_stays (hp.trans hslot)
    rw [rest.status, hplace, he₁] at he'
    cases he'
    exact hraised.elim id fun hsame => hsame.trans hcls

theorem State.Occurs.classed (h : s.Occurs State.Works t) (hs : s.classed) : t.classed := by
  cases h with
  | unseen h => exact h.classed hs
  | event w work rest =>
    refine rest.classed ?_
    cases hw : w.acts with
    | false => rw [finish_of_not_acts hw]; exact work.classed hs
    | true =>
      obtain ⟨u, hu, hfinish⟩ := finish_eq_builderReact hw s
      obtain ⟨p, hp, hplace⟩ := builderReact_eq_placeStatus s u
      rw [hfinish, hplace]
      exact placeStatus_classed (work.classed_reacted hu hp hs)

/-- Every event leaves what is owed in the slot, in its class (R49, R50). -/
theorem State.Occurs.placed (h : s.Occurs State.Works t) (hclassed : s.classed) (hs : s.placed) : t.placed := by
  cases hacts : t.acts with
  | false => exact fun hrun => by simp [State.acts, hrun] at hacts
  | true =>
    obtain hsame | ⟨w, u, work, hu, rest⟩ := h.cases_acting hacts
    · exact hsame.placed hs
    · obtain ⟨p, hp, hplace⟩ := builderReact_eq_placeStatus s u
      rw [hplace] at rest
      exact rest.placed (placeStatus_placed (work.classed_reacted hu hp hclassed))

end

end Sys2Proof.Machine
end

section
/-! ## Each command as events of the status builder (R48 to R54, log 3) -/

namespace Sys2Proof.Machine

/-! ### Commands that are one event -/

/-- The command is one event at most, brings no samples, ends no flight, and is none of the start-up. -/
def plainEvent (c : Instr) : Bool :=
  match c with
  | .tick _ | .frameStart _ _ | .defer _ | .collision _ | .frameComplete => false
  | _ => c.samples.isNone && !startsUp c

theorem Touches.occurs {ps : List Part} {f : State → State} (due : Bool) {s : State} (h : Touches ps s (f s))
    (hps : ps ⊆ Part.work) : s.Occurs State.WorksBeside (s.event due f) := by
  unfold State.event
  split
  · exact .event _ (h.worksBeside hps) (.refl _)
  · exact .refl _ s

theorem occurs_onSecond (s : State) : s.Occurs State.WorksBeside s.onSecond := by
  unfold State.onSecond
  split
  · split
    · have hwork := (touches_countSecond s).andThen (touches_secondWork _) (rs := Part.work) (by decide) (by decide)
      exact .event _ (hwork.worksBeside (List.Subset.refl _)) (.refl _)
    · exact .unseen ((touches_countSecond s).sameReport (by decide))
  · exact .refl _ s

theorem occurs_onStrobeEnd (s : State) : s.Occurs State.WorksBeside s.onStrobeEnd :=
  Touches.occurs (f := fun t => { t with speaker := t.speaker.strobesEnd }) _ (touches_speaker _ s) (by decide)

theorem occurs_onCycleStart (s : State) : s.Occurs State.WorksBeside s.onCycleStart :=
  Touches.occurs (f := fun t => (t.cycleEnd .alert).cycleEnd .evacuate) _
    ((touches_cycleEnd .alert s).trans (touches_cycleEnd .evacuate _)) (by decide)

theorem occurs_onStrobePulseEnd (s : State) : s.Occurs State.WorksBeside s.onStrobePulseEnd :=
  Touches.occurs (f := fun t => { t with cadence := { t.cadence with strobe := none } }) _ (touches_cadence _ s)
    (by decide)

theorem occurs_request (bytes : List Byte) {f : State → State} (response : State → List Byte) (s : State)
    (h : ∀ t, Touches [.link, .fifo] t (f t)) : s.Occurs State.WorksBeside (s.request bytes f response) := by
  unfold State.request
  split
  · have hwork := (touches_link { s.link with taken := true, buffer := bytes } s).andThen (h _) (rs := Part.work)
      (by decide) (by decide)
    exact .event _ (hwork.worksBeside (List.Subset.refl _)) (sameReport_link _ rfl)
  · exact .refl _ s

theorem sameReport_answer (bytes : List Byte) (response : State → List Byte) (s : State) :
    s.SameReport (s.answer bytes response) := by
  unfold State.answer
  split
  · exact sameReport_link s rfl
  · exact .refl s

theorem sameReport_ite {p : Prop} [Decidable p] {s t : State} (h : s.SameReport t) :
    s.SameReport (if p then t else s) := by
  split
  · exact h
  · exact .refl s

/-- Each of them is one event beside the status builder. -/
theorem occurs_after {c : Instr} (hc : plainEvent c = true) (s : State) : s.Occurs State.WorksBeside (s.after c) := by
  cases hasks : c.asks with
  | some i =>
    rw [after_asks hasks]
    exact occurs_request _ _ s (touches_issue i)
  | none =>
    cases c with
    | listenPeriodExpiry => exact (touches_listenExpired s).occurs _ (by decide)
    | second => exact occurs_onSecond s
    | peerSilence a => exact (touches_silence a s).occurs _ (by decide)
    | duplicateAgeLimit => exact (touches_endDuplicate s).occurs _ (by decide)
    | lineWindowEnd => exact (touches_endWindow s).occurs _ (by decide)
    | jamEnd => exact (touches_release s).occurs _ (by decide)
    | heartbeatTimerExpiry => exact (touches_heartbeat s).occurs _ (by decide)
    | spacingTimerOpen => exact (touches_openSpacing s).occurs _ (by decide)
    | loopClassAccepted z => exact (touches_acceptClass _ _ s).occurs _ (by decide)
    | stageTimerExpiry z => exact (touches_changeZone z 0 _ s).occurs _ (by decide)
    | confirmWindowExpiry z => exact (touches_changeZone z 0 _ s).occurs _ (by decide)
    | stairInputChange i k => exact (touches_acceptStairInput i k s).occurs _ (by decide)
    | mismatchTimerExpiry i => exact (touches_mismatchExpired i s).occurs _ (by decide)
    | heldOpenTimerExpiry i => exact (touches_heldOpenExpired i s).occurs _ (by decide)
    | carInputChange n i => exact (touches_acceptCarInput n i s).occurs _ (by decide)
    | recallTimerExpiry n => exact (touches_recallExpired n s).occurs _ (by decide)
    | busyLevel => exact (touches_busyRead s).occurs _ (by decide)
    | messageTimerExpiry => exact (touches_messageExpired s).occurs _ (by decide)
    | messageStrobeEnd => exact occurs_onStrobeEnd s
    | pauseExpiry => exact (touches_pauseExpired s).occurs _ (by decide)
    | keepTimerExpiry => exact (touches_lapseAuthority s).occurs _ (by decide)
    | cadenceCycleStart => exact occurs_onCycleStart s
    | cadencePulseBoundary k => exact (touches_pulseBoundary k s).occurs _ (by decide)
    | strobePulseEnd => exact occurs_onStrobePulseEnd s
    | standingLapse k => exact (touches_standingLapsed k s).occurs _ (by decide)
    | indicatorFlash l => exact .unseen ((touches_onFlash l s).sameReport (by cases l <;> decide))
    | lineLitExpiry => exact .unseen ((touches_onLineDark s).sameReport (by decide))
    | keepPeriodExpiry => exact (touches_keepPeriod s).occurs _ (by decide)
    | linkKeepExpiry => exact (touches_endLinkKeep s).occurs _ (by decide)
    | linkKeep =>
      exact occurs_request [byte 8] (fun _ => [byte 8]) s fun t => (touches_restartLinkKeep t).mono (by decide)
    | readEntry f =>
      exact .unseen (sameReport_answer [byte 1, f] (fun t =>
        if f.toNat ≤ 47 then (t.floorEntry f.toNat).response f.toNat else refusedRead 15) s)
    | readBank b =>
      exact .unseen (sameReport_answer [byte 2, b] (fun t =>
        if b.toNat ≤ 1 then (t.bankEntry b.toNat).response b.toNat else refusedRead 12) s)
    | readRegime => exact .unseen (sameReport_answer _ _ s)
    | readFaults => exact .unseen (sameReport_answer _ _ s)
    | readCounters => exact .unseen (sameReport_answer _ _ s)
    | readResult => exact .unseen (sameReport_answer _ _ s)
    | readConsole n =>
      exact .unseen (sameReport_answer [byte 9, n] (fun t =>
        if n.toNat ≤ 3 then (t.consoleEntry n.toNat).response n.toNat else refusedRead 8) s)
    | unknownRequest code => exact .unseen (sameReport_ite (sameReport_answer _ _ s))
    | linkSelectActive clocked => exact .unseen (sameReport_ite (sameReport_link s rfl))
    | linkSelectInactive => exact .unseen (sameReport_ite (sameReport_link s rfl))
    | issueBadKind kind =>
      have hk : isBadKind kind = false := by simpa [Instr.asks] using hasks
      have hsame : s.after (.issueBadKind kind) = s := if_neg (by simp [hk])
      rw [hsame]
      exact .refl _ s
    | _ => simp [Instr.asks, plainEvent, Instr.samples, startsUp] at hasks hc

/-! ### The receiver's events and the flights -/

/-! The reactions read nothing of the receiver before the event. -/

theorem becameActive_rx (w s : State) (r : Receiver) : becameActive { s with rx := r } w = becameActive s w := rfl

theorem clearedBetween_rx (w s : State) (r : Receiver) : clearedBetween { s with rx := r } w = clearedBetween s w := rfl

theorem speakerReact_rx (b : Bool) (w s : State) (r : Receiver) :
    State.speakerReact { s with rx := r } b w = State.speakerReact s b w := rfl

theorem changeCause_rx (w s : State) (r : Receiver) : changeCause { s with rx := r } w = changeCause s w := rfl

theorem builderReact_rx (w s : State) (r : Receiver) : w.builderReact { s with rx := r } = w.builderReact s := by
  unfold State.builderReact
  rw [changeCause_rx]

theorem finish_rx (w s : State) (r : Receiver) : w.finish { s with rx := r } = w.finish s := by
  unfold State.finish
  simp only [becameActive_rx, clearedBetween_rx, speakerReact_rx, builderReact_rx]
  rfl

/-- One thing the receiver comes to, after its samples. -/
theorem occurs_rxEvent (r : Receiver) (e : RxEvent) (s : State) :
    s.Occurs State.WorksBeside (State.rxEvent State.handOn { s with rx := r } e) := by
  have hwork := (touches_rx r s).andThen (touches_rxAct touches_handOn e _) (rs := Part.work) (by decide) (by decide)
  refine .event _ (hwork.worksBeside (List.Subset.refl _)) ?_
  rw [← finish_rx _ s r]
  exact .refl _

theorem sameReport_rx (r : Receiver) (s : State) : s.SameReport { s with rx := r } :=
  (touches_rx r s).sameReport (by decide)

/-- A line command that brings the receiver at most one thing. -/
theorem occurs_hear {line : Samples} {s : State} (hone : (s.fed line).2.length ≤ 1) :
    s.Occurs State.WorksBeside (s.hear State.handOn line) := by
  unfold State.hear
  split
  · match hevents : (s.fed line).2 with
    | [] => exact .unseen (sameReport_rx _ s)
    | [e] => exact occurs_rxEvent _ e s
    | _ :: _ :: _ => simp [hevents] at hone
  · exact .refl _ s

theorem Slots.remove_status {slot : SlotId} {q : Slots} {e : StatusEntry} (he : (q.remove slot).status = some e) :
    q.status = some e := by
  cases slot with
  | status => cases he
  | command => exact he
  | mark => exact he

/-- An attempt that ends unsent leaves the class of its entry. -/
theorem Slots.unsent_status {f : Nat → Nat} {slot : SlotId} {q : Slots} {e : StatusEntry}
    (he : (q.unsent f slot).status = some e) : ∃ e₀, q.status = some e₀ ∧ e.cls = e₀.cls := by
  cases slot with
  | status =>
    obtain ⟨e₀, he₀, rfl⟩ := Option.map_eq_some_iff.1 he
    exact ⟨e₀, he₀, rfl⟩
  | command =>
    unfold Slots.unsent at he
    dsimp only at he
    split at he <;> exact ⟨e, he, rfl⟩
  | mark =>
    unfold Slots.unsent at he
    dsimp only at he
    split at he <;> exact ⟨e, he, rfl⟩

theorem works_complete (slot : SlotId) (f : Frame) (s : State) : s.WorksQuietly (s.complete slot f) where
  role := (touches_complete slot f s).role_eq (by decide)
  changeDue := (touches_complete slot f s).changeDue_eq (by decide)
  status := fun e he => by
    have hslot : (s.complete slot f).slots.status = (s.slots.remove slot).status :=
      ((touches_ownerCompleted _ _ _).statusSlot_eq (by decide)).trans
        ((touches_clearFault _ _ _).statusSlot_eq (by decide))
    exact ⟨e, Slots.remove_status (hslot ▸ he), rfl⟩

theorem works_defer (slot : SlotId) (s : State) : s.Works (s.defer slot) where
  role := (touches_defer slot s).role_eq (by decide)
  status := fun e he => by
    have hslot : (s.defer slot).slots.status = (s.slots.unsent id slot).status :=
      (touches_ownerUnsent _ _).statusSlot_eq (by decide)
    exact Slots.unsent_status (hslot ▸ he)

theorem works_collide (slot : SlotId) (f : Frame) (s : State) : s.Works (s.collide slot f) where
  role := (touches_collide slot f s).role_eq (by decide)
  status := fun e he => by
    unfold State.collide at he
    dsimp only at he
    split at he
    · rw [(touches_ownerUnsent _ _).statusSlot_eq (by decide)] at he
      exact Slots.unsent_status he
    · unfold State.dropFrame at he
      dsimp only at he
      rw [(touches_ownerDropped _ _ _).statusSlot_eq (by decide), (touches_raise _ _ _).statusSlot_eq (by decide)] at he
      exact ⟨e, Slots.remove_status he, rfl⟩

theorem status_tryStart (n : Nat) (s : State) {e : StatusEntry} (he : (State.tryStart n s).slots.status = some e) :
    ∃ e₀, s.slots.status = some e₀ ∧ e.cls = e₀.cls := by
  induction n generalizing s with
  | zero => exact ⟨e, he, rfl⟩
  | succ n ih =>
    unfold State.tryStart at he
    split at he
    · exact ⟨e, he, rfl⟩
    · split at he
      · exact ⟨e, he, rfl⟩
      · split at he
        · rename_i e₀ _ hslot
          cases he
          exact ⟨e₀, hslot, rfl⟩
        · exact ⟨e, he, rfl⟩
        · split at he
          · exact ih { s with slots := s.slots.nextMark } he
          · exact ⟨e, he, rfl⟩
        · exact ⟨e, he, rfl⟩

theorem works_tryStart (n : Nat) (s : State) : s.Works (State.tryStart n s) where
  role := (touches_tryStart n s).role_eq (by decide)
  status := fun _ he => status_tryStart n s he

theorem occurs_collision (bit : Nat) (s : State) : s.Occurs State.Works (s.after (.collision bit)) := by
  show s.Occurs State.Works (match s.tx with
    | .sending slot f => s.event (s.acts && decide (2 ≤ bit) && decide (bit < f.lineBits.length)) (State.collide slot f)
    | _ => s)
  split
  · unfold State.event
    split
    · exact .event _ (works_collide _ _ s) (.refl _)
    · exact .refl _ s
  · exact .refl _ s

theorem occurs_frameComplete (s : State) : s.Occurs State.WorksQuietly (s.after .frameComplete) := by
  show s.Occurs State.WorksQuietly (match s.tx with
    | .sending slot f => s.event s.acts (State.complete slot f)
    | _ => s)
  split
  · unfold State.event
    split
    · exact .event _ (works_complete _ _ s) (.refl _)
    · exact .refl _ s
  · exact .refl _ s

theorem occurs_transmit (s : State) : s.Occurs State.Works s.transmit := by
  unfold State.transmit
  split
  · exact .event _ (works_tryStart 3 s) (.refl _)
  · exact .refl _ s

/-- The end of LOAD. -/
theorem occurs_configLoad (record : Tab Byte 64) (pins : Inputs) (s : State) :
    s.Occurs State.Works (s.after (.configLoadComplete record pins)) := by
  by_cases hs : s.station.lifecycle = .load → s.station.role = none
  · rw [after_configLoad_of_not hs]
    exact .refl _ s
  · obtain ⟨hl, hr⟩ := Classical.not_imp.1 hs
    obtain ⟨r, hr⟩ := Option.ne_none_iff_exists'.1 hr
    rw [after_configLoad hl hr]
    have hslot := (touches_loadEnd r record pins s).statusSlot_eq (by decide)
    exact .event _ ⟨(role_loadEnd r record pins s).trans rfl, fun e he => ⟨e, hslot ▸ he, rfl⟩⟩ (.refl _)

end Sys2Proof.Machine
end

section
/-! ## Several events in turn, the tick event, and every step: what is owed is placed (R48 to R50) -/

namespace Sys2Proof.Machine

/-! ### Events in turn -/

/-- What every sequence of events keeps of the STATUS slot. -/
structure State.KeepsPlaced (s t : State) : Prop where
  classed : s.classed → t.classed
  placed : s.classed → s.placed → t.placed

/-- What events that leave change due standing keep besides. -/
structure State.KeepsDue (s t : State) : Prop extends State.KeepsPlaced s t where
  acts : t.acts = s.acts
  role : t.station.role = s.station.role
  causes : t.acts = true → s.causes t → t.builder.changeDue = true
  due : t.acts = true → s.builder.changeDue = true → t.builder.changeDue = true

theorem State.KeepsPlaced.trans {s t u : State} (h : s.KeepsPlaced t) (k : t.KeepsPlaced u) : s.KeepsPlaced u :=
  ⟨k.classed ∘ h.classed, fun hc hp => k.placed (h.classed hc) (h.placed hc hp)⟩

theorem State.Occurs.keepsPlaced {s t : State} (h : s.Occurs State.Works t) : s.KeepsPlaced t :=
  ⟨h.classed, h.placed⟩

theorem State.Occurs.keepsDue {s t : State} (h : s.Occurs State.WorksBeside t) (hc : Carries s t) : s.KeepsDue t where
  toKeepsPlaced := (h.mono fun _ _ hw => hw.toWorks).keepsPlaced
  acts := hc.acts
  role := hc.role
  causes := (h.mono fun _ _ hw => hw.toWorks).due_of_causes
  due := (h.mono fun _ _ hw => hw.toWorksQuietly).due_stands

theorem State.SameReport.keepsDue {s t : State} (h : s.SameReport t) : s.KeepsDue t where
  classed := h.classed
  placed := fun _ => h.placed
  acts := h.acts
  role := h.role
  causes := fun _ hc => absurd hc h.no_causes
  due := fun _ hd => h.changeDue.trans hd

theorem State.KeepsDue.refl (s : State) : s.KeepsDue s := (State.SameReport.refl s).keepsDue

/-- A change cause of an event stands to the end of those that follow. -/
theorem State.KeepsDue.due_of_causes {s t u : State} (h : t.KeepsDue u) (hacts : u.acts = true)
    (hrole : t.station.role = s.station.role) (hfirst : s.causes t → t.builder.changeDue = true) (hc : s.causes u) :
    u.builder.changeDue = true := by
  obtain hst | htu := State.causes_split hrole hc
  · exact h.due hacts (hfirst hst)
  · exact h.causes hacts htu

theorem State.KeepsDue.trans {s t u : State} (h : s.KeepsDue t) (k : t.KeepsDue u) : s.KeepsDue u where
  toKeepsPlaced := h.toKeepsPlaced.trans k.toKeepsPlaced
  acts := k.acts.trans h.acts
  role := k.role.trans h.role
  causes := fun ha => k.due_of_causes ha h.role (h.causes (k.acts ▸ ha))
  due := fun ha hd => k.due ha (h.due (k.acts ▸ ha) hd)

theorem State.KeepsDue.foldl {α : Type} {f : State → α → State} {l : List α} (s : State)
    (h : ∀ x ∈ l, ∀ t, State.KeepsDue t (f t x)) : s.KeepsDue (l.foldl f s) := by
  induction l generalizing s with
  | nil => exact .refl s
  | cons x xs ih =>
    exact (h x List.mem_cons_self s).trans (ih (f s x) fun y hy => h y (List.mem_cons_of_mem x hy))

theorem keepsDue_rxEvent (s : State) (e : RxEvent) : s.KeepsDue (State.rxEvent State.handOn s e) :=
  (occurs_rxEvent s.rx e s).keepsDue (evolves_event true s fun _ => evolves_rxAct e s).toCarries

/-- The receiver's events, whatever their number. -/
theorem keepsDue_hear (line : Samples) (s : State) : s.KeepsDue (s.hear State.handOn line) := by
  unfold State.hear
  split
  · exact (sameReport_rx _ s).keepsDue.trans (.foldl _ fun e _ t => keepsDue_rxEvent t e)
  · exact .refl s

theorem plainEvent_not_startsUp {c : Instr} (hc : plainEvent c = true) : startsUp c = false := by
  cases c with
  | reset => cases hc
  | resetRelease straps => cases hc
  | configLoadComplete record pins => cases hc
  | _ => rfl

theorem keepsDue_after {c : Instr} (hc : plainEvent c = true) (s : State) : s.KeepsDue (s.after c) :=
  (occurs_after hc s).keepsDue (steps_after (plainEvent_not_startsUp hc) s).toCarries

/-! ### TICK -/

theorem timedCommands_plain : ∀ c ∈ timedCommands, plainEvent c = true := by
  rw [← List.all_eq_true]
  simp [timedCommands, List.all_flatMap, plainEvent, Instr.samples, startsUp]

theorem Timer.tick_eq_none_iff (t : Timer) : t.tick = none ↔ t = none := Option.map_eq_none_iff

/-- The tick event proper moves timers, samples and positions, which the builder does not see. -/
theorem sameReport_tickEvent (pins : Inputs) (s : State) : s.SameReport (s.tickEvent pins) := by
  have h := touches_tickEvent pins s
  cases hacts : s.acts with
  | false =>
    rw [tickEvent_of_not_acts hacts]
    exact { State.SameReport.refl s with }
  | true =>
    have hsamples := touches_samples (s.ticked pins).runTimers
    rw [← tickEvent_of_acts hacts pins] at hsamples
    exact {
      lifecycle := h.lifecycle_eq (by decide)
      role := h.role_eq (by decide)
      address := h.address_eq (by decide)
      zone := fun z hz => by
        rw [tickEvent_zone hacts pins hz]
        split
        · unfold Zone.sample
          split <;> exact ⟨rfl, rfl, rfl, rfl⟩
        · exact ⟨rfl, rfl, rfl, rfl⟩
      stair := fun i hi => by
        rw [tickEvent_stair hacts pins hi]
        dsimp only
        split <;> exact ⟨rfl, rfl⟩
      car := fun c hc => by
        rw [tickEvent_car hacts pins hc]
        dsimp only
        split <;> exact ⟨rfl, rfl⟩
      regime := h.regime_eq (by decide) (by decide) (by decide) (by decide) (by decide) (by decide)
      level := by rw [hsamples.speaker_eq (by decide)]; rfl
      source := by rw [hsamples.speaker_eq (by decide)]; rfl
      console := by rw [hsamples.authority_eq (by decide)]; rfl
      keep := by rw [hsamples.link_eq (by decide)]; exact Timer.isSome_tick _
      heartbeatOwed := hsamples.heartbeatOwed_eq (by decide)
      changeDue := h.changeDue_eq (by decide)
      spacing := by rw [hsamples.spacing_eq (by decide)]; exact Timer.tick_eq_none_iff _
      reported := h.reported_eq (by decide)
      status := h.statusSlot_eq (by decide) }

theorem keepsDue_tick (pins : Inputs) (s : State) : s.KeepsDue (s.after (.tick pins)) := by
  by_cases hl : s.station.lifecycle = .reset
  · rw [show s.after (.tick pins) = s from if_pos hl]
    exact .refl s
  · rw [after_tick hl, settle_eq_caughtUp]
    exact (State.KeepsDue.foldl s fun c hc t => keepsDue_after (timedCommands_plain c hc) t).trans
      (sameReport_tickEvent pins _).keepsDue

/-! ### FRAME_START and DEFER -/

theorem keepsPlaced_frameStart (quiet : Nat) (bitClock : Fin 160) (s : State) :
    s.KeepsPlaced (s.after (.frameStart quiet bitClock)) := by
  have hhear := (keepsDue_hear ⟨quiet, [], 0⟩ s).toKeepsPlaced
  have hsend (t : State) : t.KeepsPlaced (State.transmit { t with time := { t.time with bitClocks := bitClock } }) :=
    ((touches_bitClocks bitClock t).sameReport (by decide)).keepsDue.toKeepsPlaced.trans (occurs_transmit _).keepsPlaced
  show s.KeepsPlaced (if (s.hear State.handOn ⟨quiet, [], 0⟩).acts then _ else _)
  split
  · exact hhear.trans (hsend _)
  · exact hhear

/-- A deferral is an event, and the receiver takes up the other station's frame. -/
theorem after_defer (bit : Fin 2) (s : State) : ∃ t, s.Occurs State.Works t ∧ Carries s t
    ∧ t.KeepsDue (s.after (.defer bit)) := by
  show ∃ t, s.Occurs State.Works t ∧ Carries s t ∧ t.KeepsDue (match s.tx with
    | .sending slot _ =>
      if s.acts then ((s.defer slot).finish s).hear State.handOn { quiet := bit.val, bits := [false], sinceSync := 0 }
      else s
    | _ => s)
  split
  · rename_i slot _ htx
    have hslot : s.tx.slot = some slot := by rw [htx]; rfl
    split
    · exact ⟨_, .event _ (works_defer slot s) (.refl _), ((evolves_defer hslot).trans (evolves_finish _ s)).toCarries,
        keepsDue_hear _ _⟩
    · exact ⟨s, .refl _ s, .refl s, .refl s⟩
  · exact ⟨s, .refl _ s, .refl s, .refl s⟩

end Sys2Proof.Machine
end

section
/-! ## Every change cause sets change due, and an owed report is placed in its class (R46 to R54) -/

namespace Sys2Proof.Machine

/-- The commands as the status builder sees them. -/
theorem instr_cases (c : Instr) : (∃ line, c.samples = some line) ∨ plainEvent c = true ∨ startsUp c = true
    ∨ (∃ pins, c = .tick pins) ∨ (∃ quiet bitClock, c = .frameStart quiet bitClock) ∨ (∃ bit, c = .defer bit)
    ∨ (∃ bit, c = .collision bit) ∨ c = .frameComplete := by
  cases c with
  | tick pins => simp
  | frameStart quiet bitClock => simp
  | defer bit => simp
  | collision bit => simp
  | frameComplete => simp
  | _ => simp [plainEvent, Instr.samples, startsUp]

/-- An acting station has its start-up behind it. -/
theorem after_startsUp_of_acts {c : Instr} {s : State} (hacts : s.acts = true) (hc : startsUp c = true)
    (hreset : c ≠ .reset) : s.after c = s := by
  cases c with
  | reset => exact absurd rfl hreset
  | resetRelease straps =>
    exact after_resetRelease_of_not (fun hl => by simp [State.acts, hl] at hacts) straps
  | configLoadComplete record pins =>
    exact after_configLoad_of_not (fun hl => by simp [State.acts, hl] at hacts) record pins
  | _ => cases hc

theorem acts_after {c : Instr} {s : State} (hacts : s.acts = true) (hreset : c ≠ .reset) : (s.after c).acts = true := by
  cases hc : startsUp c with
  | true => rw [after_startsUp_of_acts hacts hc hreset, hacts]
  | false => exact (steps_after hc s).acts.trans hacts

/-! ### The one event of a command -/

section
variable {c : Instr} {s : State} (hacts : s.acts = true) (hreset : c ≠ .reset) (hone : c.oneEvent)
  (hhears : s.hearsOne c)
include hacts hreset hone hhears

theorem occurs_beside (hcollision : ∀ bit, c ≠ .collision bit) (hcomplete : c ≠ .frameComplete) :
    s.Occurs State.WorksBeside (s.after c) := by
  obtain ⟨htick, hstart, hdefer⟩ := hone
  obtain ⟨line, hline⟩ | hplain | hstartup | ⟨pins, rfl⟩ | ⟨n, b, rfl⟩ | ⟨bit, rfl⟩ | ⟨bit, rfl⟩ | rfl := instr_cases c
  · rw [after_samples hline]
    exact occurs_hear (hhears line hline)
  · exact occurs_after hplain s
  · rw [after_startsUp_of_acts hacts hstartup hreset]
    exact .refl _ s
  · exact absurd rfl (htick pins)
  · exact absurd rfl (hstart n b)
  · exact absurd rfl (hdefer bit)
  · exact absurd rfl (hcollision bit)
  · exact absurd rfl hcomplete

theorem occurs_quietly (hcollision : ∀ bit, c ≠ .collision bit) : s.Occurs State.WorksQuietly (s.after c) := by
  by_cases hcomplete : c = .frameComplete
  · rw [hcomplete]
    exact occurs_frameComplete s
  · exact (occurs_beside hacts hreset hone hhears hcollision hcomplete).mono fun _ _ hw => hw.toWorksQuietly

theorem occurs_once : s.Occurs State.Works (s.after c) := by
  by_cases hcollision : ∃ bit, c = .collision bit
  · obtain ⟨bit, rfl⟩ := hcollision
    exact occurs_collision bit s
  · exact (occurs_quietly hacts hreset hone hhears fun bit hc => hcollision ⟨bit, hc⟩).mono fun _ _ hw => hw.toWorks

end

/-! ### Every command -/

/-- A command but FRAME_START that leaves a change cause leaves change due set (R48, log 11). -/
theorem changeDue_after {c : Instr} {s : State} (hacts : s.acts = true) (hreset : c ≠ .reset)
    (hstart : ∀ n b, c ≠ .frameStart n b) (hcauses : s.causes (s.after c)) : (s.after c).builder.changeDue = true := by
  have hafter := acts_after hacts hreset
  obtain ⟨line, hline⟩ | hplain | hstartup | ⟨pins, rfl⟩ | ⟨n, b, rfl⟩ | ⟨bit, rfl⟩ | ⟨bit, rfl⟩ | rfl := instr_cases c
  · rw [after_samples hline] at hafter hcauses ⊢
    exact (keepsDue_hear line s).causes hafter hcauses
  · exact (keepsDue_after hplain s).causes hafter hcauses
  · rw [after_startsUp_of_acts hacts hstartup hreset] at hcauses
    exact absurd hcauses (State.SameReport.refl s).no_causes
  · exact (keepsDue_tick pins s).causes hafter hcauses
  · exact absurd rfl (hstart n b)
  · obtain ⟨t, hevent, hcarries, hrest⟩ := after_defer bit s
    exact hrest.due_of_causes hafter hcarries.role (hevent.due_of_causes (hcarries.acts.trans hacts)) hcauses
  · exact (occurs_collision bit s).due_of_causes hafter hcauses
  · exact ((occurs_frameComplete s).mono fun _ _ hw => hw.toWorks).due_of_causes hafter hcauses

theorem placed_of_not_run {s : State} (h : s.station.lifecycle ≠ .run) : s.placed := fun hrun => absurd hrun h

theorem releaseReset_not_run (a : Nat) (s : State) : (s.releaseReset a).station.lifecycle ≠ .run := by
  unfold State.releaseReset
  split
  · rw [(touches_loopback _).lifecycle_eq (by decide)]
    exact nofun
  · exact nofun

/-- Every command keeps the placement of what is owed (R49, R50). -/
theorem placed_after (c : Instr) {s : State} (hclassed : s.classed) (hplaced : s.placed) : (s.after c).placed := by
  obtain ⟨line, hline⟩ | hplain | hstartup | ⟨pins, rfl⟩ | ⟨n, b, rfl⟩ | ⟨bit, rfl⟩ | ⟨bit, rfl⟩ | rfl := instr_cases c
  · rw [after_samples hline]
    exact (keepsDue_hear line s).placed hclassed hplaced
  · exact (keepsDue_after hplain s).placed hclassed hplaced
  · cases c with
    | reset => exact placed_of_not_run nofun
    | resetRelease straps =>
      by_cases hl : s.station.lifecycle = .reset
      · rw [after_resetRelease hl]
        exact placed_of_not_run (releaseReset_not_run _ s)
      · rwa [after_resetRelease_of_not hl]
    | configLoadComplete record pins => exact (occurs_configLoad record pins s).placed hclassed hplaced
    | _ => cases hstartup
  · exact (keepsDue_tick pins s).placed hclassed hplaced
  · exact (keepsPlaced_frameStart n b s).placed hclassed hplaced
  · obtain ⟨t, hevent, -, hrest⟩ := after_defer bit s
    exact (hevent.keepsPlaced.trans hrest.toKeepsPlaced).placed hclassed hplaced
  · exact (occurs_collision bit s).placed hclassed hplaced
  · exact ((occurs_frameComplete s).mono fun _ _ hw => hw.toWorks).placed hclassed hplaced

/-- The slot of a lawful state holds a STATUS of one of its classes, or nothing out of RUN. -/
theorem State.classed_of_lawful {s : State} (hs : s.lawful) (hplaced : s.placed) : s.classed := by
  intro e he
  by_cases hrun : s.station.lifecycle = .run
  · exact ((hplaced hrun).2 e he).1
  · obtain ⟨-, -, -, hslots, hlink, -⟩ := hs
    rw [(((State.inStep_iff s).2 ⟨hslots, hlink⟩).outside hrun).1] at he
    cases he

/-- Settles O59: the builder reacts last in every event, from what the event's own work has left of change due and of
the slot; that relation composes along the events of TICK, of the line, and of a deferral. -/
theorem changesAreOwedAndPlacedInTheirClass : Obligations.ChangesAreOwedAndPlacedInTheirClass := by
  refine ⟨fun c s t hacts hexec hreset => ?_, fun s t hs hplaced hstep => ?_, placed_of_not_run nofun⟩
  · obtain rfl : s.after c = t := Host.Outcome.next.inj ((exec_eq_after c s).symm.trans hexec)
    have hafter := acts_after hacts hreset
    refine ⟨changeDue_after hacts hreset, fun hone hhears hcollision => ?_, fun hone hhears hfree e => ?_,
      fun hone hhears hcollision hcomplete e e' => ?_⟩
    · exact (occurs_quietly hacts hreset hone hhears hcollision).causes_of_due hafter
    · exact (occurs_once hacts hreset hone hhears).enters hafter hfree
    · exact (occurs_beside hacts hreset hone hhears hcollision hcomplete).alarm_stays hafter
  · obtain ⟨-, rfl⟩ | ⟨c, rest, -, rfl⟩ := (step_next_iff s t).1 hstep
    · exact hplaced
    · have hclassed := State.classed_of_lawful hs hplaced
      exact placed_after c (s := { s with pending := rest }) hclassed hplaced

end Sys2Proof.Machine
end

section
/-! ## The records of 3-2: taking a payload apart gives back what was put into it (R38, R41 to R45) -/

namespace Sys2Proof.Machine

/-! ### Bytes, words and flags -/

theorem byte_toNat {n : Nat} (h : n ≤ 255) : (byte n).toNat = n := by
  rw [byte, BitVec.toNat_ofNat]
  exact Nat.mod_eq_of_lt (by omega)

/-- Two bytes, most significant first. -/
theorem word_value {n : Nat} (h : n ≤ 65535) : (byte (n / 256)).toNat * 256 + (byte n).toNat = n := by
  simp only [byte, BitVec.toNat_ofNat]
  omega

theorem byte_getLsbD {n i : Nat} (hi : i < 8) : (byte n).getLsbD i = decide (n / 2 ^ i % 2 = 1) := by
  rw [byte, BitVec.getLsbD_ofNat, decide_eq_true hi, Bool.true_and, Nat.testBit_eq_decide_div_mod_eq]

theorem flag_eq (b : Bool) (i : Nat) : flag b i = 2 ^ i * b.toNat := by
  cases b <;> simp [flag]

theorem decide_toNat_eq_one (b : Bool) : decide (b.toNat = 1) = b := by simp

/-- Three flags above which the rest of a byte stands. -/
theorem flags_getLsbD (a b c : Bool) (q : Nat) : (byte (8 * q + flag c 2 + flag b 1 + flag a 0)).getLsbD 0 = a
    ∧ (byte (8 * q + flag c 2 + flag b 1 + flag a 0)).getLsbD 1 = b
    ∧ (byte (8 * q + flag c 2 + flag b 1 + flag a 0)).getLsbD 2 = c := by
  have ha := a.toNat_le
  have hb := b.toNat_le
  have hc := c.toNat_le
  simp only [flag_eq, byte_getLsbD (show 0 < 8 by decide), byte_getLsbD (show 1 < 8 by decide),
    byte_getLsbD (show 2 < 8 by decide)]
  refine ⟨?_, ?_, ?_⟩
  · rw [show (8 * q + 2 ^ 2 * c.toNat + 2 ^ 1 * b.toNat + 2 ^ 0 * a.toNat) / 2 ^ 0 % 2 = a.toNat by omega]
    exact decide_toNat_eq_one a
  · rw [show (8 * q + 2 ^ 2 * c.toNat + 2 ^ 1 * b.toNat + 2 ^ 0 * a.toNat) / 2 ^ 1 % 2 = b.toNat by omega]
    exact decide_toNat_eq_one b
  · rw [show (8 * q + 2 ^ 2 * c.toNat + 2 ^ 1 * b.toNat + 2 ^ 0 * a.toNat) / 2 ^ 2 % 2 = c.toNat by omega]
    exact decide_toNat_eq_one c

/-! ### Codes -/

theorem Phase.ofCode_code (p : Phase) : Phase.ofCode p.code = p := by cases p <;> rfl
theorem Level.ofCode_code (l : Level) : Level.ofCode l.code = some l := by cases l <;> rfl
theorem Source.ofCode_code (x : Source) : Source.ofCode x.code = some x := by cases x <;> rfl
theorem ZoneState.ofCode_code (z : ZoneState) : ZoneState.ofCode z.code = z := by cases z <;> rfl
theorem StairState.ofCode_code (x : StairState) : StairState.ofCode x.code = x := by cases x <;> rfl
theorem CarState.ofCode_code (c : CarState) : CarState.ofCode c.code = some c := by cases c <;> rfl
theorem Target.ofCode_code (t : Target) : Target.ofCode t.code = some t := by cases t <;> rfl

theorem Phase.code_le (p : Phase) : p.code ≤ 3 := by cases p <;> decide
theorem Level.code_le (l : Level) : l.code ≤ 5 := by cases l <;> decide
theorem Source.code_le (x : Source) : x.code ≤ 4 := by cases x <;> decide
theorem ZoneState.code_le (z : ZoneState) : z.code ≤ 6 := by cases z <;> decide
theorem StairState.code_le (x : StairState) : x.code ≤ 3 := by cases x <;> decide
theorem CarState.code_le (c : CarState) : c.code ≤ 4 := by cases c <;> decide
theorem Target.code_le (t : Target) : t.code ≤ 2 := by cases t <;> decide

/-! ### Packed bytes -/

theorem ZoneReport.nibble_eq (z : ZoneReport) : z.nibble = 2 * z.state.code + z.condition.toNat := by
  rw [ZoneReport.nibble, flag_eq]
  omega

theorem ZoneReport.nibble_lt (z : ZoneReport) : z.nibble < 16 := by
  have hstate := z.state.code_le
  have hcondition := z.condition.toNat_le
  rw [z.nibble_eq]
  omega

theorem ZoneReport.ofNibble_nibble (z : ZoneReport) : ZoneReport.ofNibble z.nibble = z := by
  have hstate := z.state.code_le
  have hcondition := z.condition.toNat_le
  have hcode : z.nibble / 2 % 8 = z.state.code := by rw [z.nibble_eq]; omega
  have hbit : z.nibble.testBit 0 = z.condition := by
    rw [Nat.testBit_eq_decide_div_mod_eq, z.nibble_eq,
      show (2 * z.state.code + z.condition.toNat) / 2 ^ 0 % 2 = z.condition.toNat by omega]
    exact decide_toNat_eq_one _
  rw [ZoneReport.ofNibble, hcode, hbit, ZoneState.ofCode_code]

/-- The two nibbles of a byte. -/
theorem nibbles_value {m n : Nat} (hm : m < 16) (hn : n < 16) :
    (byte (m * 16 + n)).toNat / 16 = m ∧ (byte (m * 16 + n)).toNat % 16 = n := by
  rw [byte_toNat (by omega)]
  omega

theorem takeZones_of_zoneBytes {zones : Tab ZoneReport 8} {b : Nat → Byte}
    (hb : ∀ i < 4, b i = (zoneBytes zones).getD i 0) : takeZones b = zones := by
  refine Tab.ext_at ZoneReport.quiet fun z hz => ?_
  have hpair (i : Nat) :=
    nibbles_value (zones.at i ZoneReport.quiet).nibble_lt (zones.at (i + 1) ZoneReport.quiet).nibble_lt
  rw [takeZones, Tab.at_ofFn z _ _ hz, hb (z / 2) (by omega)]
  refine Eq.trans (congrArg ZoneReport.ofNibble ?_) (ZoneReport.ofNibble_nibble _)
  interval_cases z
  · exact (hpair 0).1
  · exact (hpair 0).2
  · exact (hpair 2).1
  · exact (hpair 2).2
  · exact (hpair 4).1
  · exact (hpair 4).2
  · exact (hpair 6).1
  · exact (hpair 6).2

theorem takeStairs_stairByte (stairs : Tab StairState 4) : takeStairs (stairByte stairs) = stairs := by
  refine Tab.ext_at StairState.locked fun i hi => ?_
  have h0 := (stairs.at 0 .locked).code_le
  have h1 := (stairs.at 1 .locked).code_le
  have h2 := (stairs.at 2 .locked).code_le
  have h3 := (stairs.at 3 .locked).code_le
  rw [takeStairs, Tab.at_ofFn i _ _ hi, stairByte]
  dsimp only
  rw [byte_toNat (by omega)]
  refine Eq.trans (congrArg StairState.ofCode ?_) (StairState.ofCode_code _)
  interval_cases i <;> omega

theorem speakerByte_value (phase : Phase) (level : Level) (source : Source) :
    (speakerByte phase level source).toNat / 64 = phase.code
    ∧ (speakerByte phase level source).toNat / 8 % 8 = level.code
    ∧ (speakerByte phase level source).toNat % 8 = source.code := by
  have hphase := phase.code_le
  have hlevel := level.code_le
  have hsource := source.code_le
  rw [speakerByte, byte_toNat (by omega)]
  omega

theorem CarReport.ofByte_byte (c : CarReport) : CarReport.ofByte c.byte = some c := by
  obtain ⟨state, target, late, restorePending, inputFault⟩ := c
  have hstate := state.code_le
  have htarget := target.code_le
  have hlate := late.toNat_le
  have hrestore := restorePending.toNat_le
  have hinput := inputFault.toNat_le
  obtain ⟨h0, h1, h2⟩ := flags_getLsbD inputFault restorePending late (4 * state.code + target.code)
  have hbyte : CarReport.byte ⟨state, target, late, restorePending, inputFault⟩ = Machine.byte
      (8 * (4 * state.code + target.code) + flag late 2 + flag restorePending 1 + flag inputFault 0) :=
    congrArg (fun n => Machine.byte (n + flag late 2 + flag restorePending 1 + flag inputFault 0))
      (by dsimp only; omega)
  have hvalue : (CarReport.byte ⟨state, target, late, restorePending, inputFault⟩).toNat
      = 8 * (4 * state.code + target.code) + 4 * late.toNat + 2 * restorePending.toNat + inputFault.toNat := by
    rw [hbyte, flag_eq, flag_eq, flag_eq, byte_toNat (by omega)]
    omega
  rw [CarReport.ofByte, hvalue,
    show (8 * (4 * state.code + target.code) + 4 * late.toNat + 2 * restorePending.toNat + inputFault.toNat) / 32
      = state.code by omega,
    show (8 * (4 * state.code + target.code) + 4 * late.toNat + 2 * restorePending.toNat + inputFault.toNat) / 8 % 4
      = target.code by omega, CarState.ofCode_code, Target.ofCode_code, hbyte, h0, h1, h2]

theorem takeCars_carBytes (cars : Tab CarReport 4) (rest : List Byte) :
    takeCars (fun i => (carBytes cars ++ rest).getD i 0) = some cars := by
  obtain ⟨list, size⟩ := cars
  match list, size with
  | [c0, c1, c2, c3], _ =>
    simp [takeCars, carBytes, CarReport.ofByte_byte]

/-! ### STATUS (R38, R43, R45) -/

/-- The role body's own fields fit the layout. -/
def StatusBody.fits : StatusBody → Prop
  | .floor _ _ _ authority _ changed _ => authority ≤ 255 ∧ changed ≤ 255
  | .lift _ refused => refused ≤ 255
  | .console _ => True

theorem StatusBody.bytes_length (b : StatusBody) : b.bytes.length = bodySize b.code := by
  cases b with
  | floor => rfl
  | lift cars refused => simp [StatusBody.bytes, carBytes, cars.size, StatusBody.code, bodySize]
  | console => rfl

theorem takeBody_bytes {b : StatusBody} (h : b.fits) : takeBody b.code b.bytes = some b := by
  cases b with
  | floor phase level source authority zones changed stairs =>
    obtain ⟨hauthority, hchanged⟩ := h
    obtain ⟨hphase, hlevel, hsource⟩ := speakerByte_value phase level source
    have hzones : takeZones (fun i =>
        (StatusBody.bytes (.floor phase level source authority zones changed stairs)).getD (2 + i) 0) = zones :=
      takeZones_of_zoneBytes fun i hi => by interval_cases i <;> rfl
    unfold takeBody
    dsimp only [StatusBody.code]
    rw [hzones]
    obtain ⟨hfirst, hsecond, hseventh, heighth⟩ :
        (StatusBody.bytes (.floor phase level source authority zones changed stairs)).getD 0 0
          = speakerByte phase level source
        ∧ (StatusBody.bytes (.floor phase level source authority zones changed stairs)).getD 1 0 = byte authority
        ∧ (StatusBody.bytes (.floor phase level source authority zones changed stairs)).getD 6 0 = byte changed
        ∧ (StatusBody.bytes (.floor phase level source authority zones changed stairs)).getD 7 0 = stairByte stairs :=
      ⟨rfl, rfl, rfl, rfl⟩
    rw [hfirst, hsecond, hseventh, heighth, hphase, hlevel, hsource, Phase.ofCode_code, Level.ofCode_code,
      Source.ofCode_code, takeStairs_stairByte, byte_toNat hauthority, byte_toNat hchanged]
    rfl
  | lift cars refused =>
    have hlast : (carBytes cars ++ [byte refused]).getD 4 0 = byte refused := by
      have hlength : (carBytes cars).length = 4 := by simp [carBytes, cars.size]
      simp [List.getD_eq_getElem?_getD, hlength]
    unfold takeBody
    dsimp only [StatusBody.code, StatusBody.bytes]
    rw [takeCars_carBytes, hlast, byte_toNat h]
    rfl
  | console alive => cases alive <;> rfl

theorem takeOrigins_flatMap {origins : List (Nat × Nat)} (h : ∀ o ∈ origins, o.1 ≤ 47 ∧ o.2 ≤ 65535)
    (rest : List Byte) : takeOrigins origins.length (origins.flatMap originBytes ++ rest) = origins := by
  induction origins with
  | nil => cases rest <;> rfl
  | cons o os ih =>
    obtain ⟨hfloor, helapsed⟩ := h o List.mem_cons_self
    have htail := ih fun p hp => h p (List.mem_cons_of_mem o hp)
    show (((byte o.1).toNat, (byte (o.2 / 256)).toNat * 256 + (byte o.2).toNat)
      :: takeOrigins os.length (os.flatMap originBytes ++ rest)) = o :: os
    rw [byte_toNat (by omega), word_value helapsed, htail]

theorem originBytes_length (origins : List (Nat × Nat)) :
    (origins.flatMap originBytes).length = 3 * origins.length := by
  induction origins with
  | nil => rfl
  | cons o os ih =>
    simp only [List.flatMap_cons, List.length_append, ih, originBytes, word, List.length_cons, List.length_nil]
    omega

/-- The payload past its seven opening bytes. -/
theorem StatusRecord.payload_drop (r : StatusRecord) :
    r.payload.drop 7 = r.origins.flatMap originBytes ++ r.body.bytes := by
  rw [StatusRecord.payload, List.append_assoc]
  rfl

theorem StatusRecord.payload_drop_body (r : StatusRecord) :
    r.payload.drop (7 + 3 * r.origins.length) = r.body.bytes := by
  rw [← List.drop_drop, r.payload_drop]
  exact List.drop_left' (originBytes_length r.origins)

theorem StatusRecord.payload_length (r : StatusRecord) :
    r.payload.length = 7 + 3 * r.origins.length + bodySize r.body.code := by
  simp only [StatusRecord.payload, List.length_append, originBytes_length, r.body.bytes_length, List.length_cons,
    List.length_nil]

/-- The seven opening bytes. -/
theorem StatusRecord.payload_opening (r : StatusRecord) : r.payload.getD 0 0
      = byte (flag r.unset 0 + flag r.general 1 + flag r.listenComplete 2)
    ∧ r.payload.getD 1 0 = byte r.hold ∧ r.payload.getD 2 0 = byte r.silence ∧ r.payload.getD 3 0 = byte r.digest
    ∧ r.payload.getD 4 0 = byte r.faultCount ∧ r.payload.getD 5 0 = byte r.worstFault
    ∧ r.payload.getD 6 0 = byte r.origins.length := by
  rw [StatusRecord.payload, List.append_assoc]
  exact ⟨rfl, rfl, rfl, rfl, rfl, rfl, rfl⟩

/-- Every field of the record fits its place in the layout (3-2). -/
structure StatusRecord.Fits (r : StatusRecord) : Prop where
  hold : r.hold ≤ 255
  silence : r.silence ≤ 255
  digest : r.digest ≤ 255
  faultCount : r.faultCount ≤ 16
  worstFault : r.worstFault ≤ 255
  count : r.origins.length ≤ 8
  origins : ∀ o ∈ r.origins, o.1 ≤ 47 ∧ o.2 ≤ 65535
  body : r.body.fits

theorem takeStatus_payload {r : StatusRecord} {source : Nat} (hsource : sourceFits r.body.code source = true)
    (h : r.Fits) : takeStatus r.body.code source r.payload = some r := by
  obtain ⟨h0, h1, h2, h3, h4, h5, h6⟩ := r.payload_opening
  obtain ⟨hunset, hgeneral, hlisten⟩ := flags_getLsbD r.unset r.general r.listenComplete 0
  have hflags : flag r.unset 0 + flag r.general 1 + flag r.listenComplete 2
      = 8 * 0 + flag r.listenComplete 2 + flag r.general 1 + flag r.unset 0 := by omega
  have hcount := h.count
  have hn : (r.payload.getD 6 0).toNat = r.origins.length := by rw [h6, byte_toNat (by omega)]
  have htaken : takeOrigins r.origins.length (r.payload.drop 7) = r.origins := by
    rw [r.payload_drop]
    exact takeOrigins_flatMap h.origins _
  have hwhole : (sourceFits r.body.code source && decide (7 ≤ r.payload.length) && decide (r.origins.length ≤ 8)
      && r.payload.length == 7 + 3 * r.origins.length + bodySize r.body.code
      && r.origins.all (fun o => o.1 ≤ 47)) = true := by
    simp only [Bool.and_eq_true, decide_eq_true_eq, beq_iff_eq, List.all_eq_true]
    refine ⟨⟨⟨⟨hsource, ?_⟩, hcount⟩, r.payload_length⟩, fun o ho => (h.origins o ho).1⟩
    rw [r.payload_length]
    omega
  unfold takeStatus
  dsimp only
  rw [hn, htaken, if_pos hwhole, r.payload_drop_body, takeBody_bytes h.body, h0, h1, h2, h3, h4, h5, hflags, hunset,
    hgeneral, hlisten, byte_toNat h.hold, byte_toNat h.silence, byte_toNat h.digest,
    byte_toNat (Nat.le_trans h.faultCount (by decide)), byte_toNat h.worstFault, Nat.min_eq_right h.faultCount]
  rfl

/-! ### COMMAND (R41, R44) -/

/-- A floor mask from its six bytes, whatever follows them. -/
theorem maskOf_maskBytes (m : FloorMask) (rest : List Byte) : maskOf (maskBytes m ++ rest) = m := by
  refine BitVec.eq_of_getLsbD_eq fun f hf => ?_
  have htake : (maskBytes m ++ rest).take 6 = maskBytes m := rfl
  have hbyte (j : Nat) (hj : j < 6) : (maskBytes m).reverse.getD j 0 = m.extractLsb' (8 * j) 8 := by
    interval_cases j <;> rfl
  rw [maskOf, BitVec.getLsbD_ofNat, decide_eq_true hf, Bool.true_and, htake, foldl_bytes_testBit,
    hbyte _ (by omega), BitVec.getLsbD_extractLsb', decide_eq_true (Nat.mod_lt f (by decide)), Bool.true_and,
    Nat.div_add_mod]

/-- The destination and the arguments that the kind of a COMMAND allows (R41, R44). -/
def Command.fits (dest : Nat) : Command → Prop
  | .general => dest = 63
  | .hold e => dest = 63 ∧ e ≤ 255
  | .resume e => dest = 63 ∧ e ≤ 255
  | .silence e => dest = 63 ∧ e ≤ 255
  | .resound e => dest = 63 ∧ e ≤ 255
  | .allClear => dest = 63
  | .zoneDisable z => dest < 48 ∧ 1 ≤ z ∧ z ≤ 8
  | .zoneEnable z => dest < 48 ∧ 1 ≤ z ∧ z ≤ 8
  | .take _ n => dest = 63 ∧ n ≤ 65535
  | .keep n => dest = 63 ∧ n ≤ 65535
  | .give _ => dest = 63
  | .testAnnounce _ n => dest = 63 ∧ 1 ≤ n ∧ n ≤ 15
  | .liftRestore b => dest = b ∧ (b = 48 ∨ b = 49)

theorem Command.code_le (c : Command) : c.code ≤ 13 := by cases c <;> simp [Command.code]

theorem takeCommand_payload {c : Command} {dest : Nat} (h : c.fits dest) : takeCommand dest c.payload = some c := by
  have hkind := byte_toNat (Nat.le_trans c.code_le (by decide))
  cases c with
  | general | allClear =>
    subst h
    rfl
  | hold e | resume e | silence e | resound e =>
    obtain ⟨rfl, he⟩ := h
    simp [takeCommand, Command.payload, Command.code, byte_toNat, he]
  | zoneDisable z | zoneEnable z =>
    obtain ⟨hdest, hlow, hhigh⟩ := h
    have hzone : z ≤ 255 := by omega
    simp [takeCommand, Command.payload, Command.code, byte_toNat, hzone, hdest, hlow, hhigh]
  | take m n =>
    obtain ⟨rfl, hn⟩ := h
    have hword : ((maskBytes m ++ word n).getD 6 0).toNat * 256 + ((maskBytes m ++ word n).getD 7 0).toNat = n :=
      word_value hn
    unfold takeCommand
    dsimp only [Command.payload]
    rw [hkind, maskOf_maskBytes, hword]
    rfl
  | keep n =>
    obtain ⟨rfl, hn⟩ := h
    have hword : ((word n).getD 0 0).toNat * 256 + ((word n).getD 1 0).toNat = n := word_value hn
    unfold takeCommand
    dsimp only [Command.payload]
    rw [hkind, hword]
    rfl
  | give m =>
    subst h
    have hmask := maskOf_maskBytes m []
    rw [List.append_nil] at hmask
    unfold takeCommand
    dsimp only [Command.payload]
    rw [hkind, hmask]
    rfl
  | testAnnounce m n =>
    obtain ⟨rfl, hlow, hhigh⟩ := h
    have hmessage : ((maskBytes m ++ [byte n]).getD 6 0).toNat = n := byte_toNat (by omega)
    unfold takeCommand
    dsimp only [Command.payload]
    rw [hkind, maskOf_maskBytes]
    simp only [hmessage, hlow, hhigh, decide_true, Bool.and_true]
    rfl
  | liftRestore b =>
    obtain ⟨rfl, hbank⟩ := h
    rcases hbank with rfl | rfl <;> rfl

/-! ### MARK (R42, R44) -/

theorem takeMark_payload {m : MarkRecord} {source : Nat} (hsource : source < 48) (hcycle : 2 ≤ m.cycle)
    (hlong : m.cycle ≤ 65535) (hoffset : m.offset ≤ 255) (hhalf : 2 * m.offset ≤ m.cycle) :
    takeMark source m.payload = some m := by
  have hkind : (m.payload.getD 0 0).toNat = cadenceCode m.kind := byte_toNat (by cases m.kind <;> decide)
  have hword : (m.payload.getD 2 0).toNat * 256 + (m.payload.getD 3 0).toNat = m.cycle := word_value hlong
  have hlate : (m.payload.getD 1 0).toNat = m.offset := byte_toNat hoffset
  have hwhole : (decide (source < 48) && m.payload.length == 4 && decide (2 ≤ m.cycle)
      && decide (m.offset * 2 ≤ m.cycle)) = true := by
    simp only [Bool.and_eq_true, decide_eq_true_eq]
    exact ⟨⟨⟨hsource, rfl⟩, hcycle⟩, by omega⟩
  unfold takeMark
  dsimp only
  simp only [hkind, hword, hlate, if_pos hwhole]
  obtain ⟨kind, offset, cycle⟩ := m
  cases kind <;> rfl

/-- Settles O50: each kind of record byte by byte, then the payload as a whole. -/
theorem recordsRoundTrip : Obligations.RecordsRoundTrip := by
  refine ⟨fun r source hsource hhold hsilence hdigest hfaults hworst hcount horigins hbody => ?_, fun c dest h => ?_,
    fun m source hsource hcycle hlong hoffset hhalf => takeMark_payload hsource hcycle hlong hoffset hhalf⟩
  · exact takeStatus_payload hsource ⟨hhold, hsilence, hdigest, hfaults, hworst, hcount, horigins, by
      cases hr : r.body <;> rw [hr] at hbody <;> exact hbody⟩
  · exact takeCommand_payload (by cases c <;> exact h)

end Sys2Proof.Machine
end

section
/-! ## What a command can do: events of the station's own blocks, news from the line, and changes that are no event -/

namespace Sys2Proof.Machine

/-! ### The work of one event -/

/-- The parts that no block of the field, of sound, of the peer table or of the regime keeps. -/
def Part.aloof : List Part :=
  [.rx, .tx, .statusSlot, .fifo, .markSlots, .line, .heartbeat, .changeDue, .spacing, .snapshot, .duplicateAge, .link,
    .faults]

/-- The own work of an event that no other station has brought: what each block does before the others react. -/
inductive State.LocalWork (s : State) : State → Prop
  | classAccepted (z : Nat) (c : LoopClass) (hrole : s.actsAs .floor = true) (hdue : (s.zone z).acceptDue = true) :
    s.LocalWork (s.acceptClass z c)
  | stageExpired (z : Nat) (hrole : s.actsAs .floor = true) (hstage : (s.zone z).inStage = true) :
    s.LocalWork (s.changeZone z 0 (Zone.stageExpired s.regime.active))
  | windowExpired (z : Nat) (hrole : s.actsAs .floor = true) (hstate : (s.zone z).state = .verifyConfirm) :
    s.LocalWork (s.changeZone z 0 Zone.confirmExpired)
  | stairInput (i : Nat) (k : StairInput) (hrole : s.actsAs .floor = true) (hpresent : (s.stair i).present = true) :
    s.LocalWork (s.acceptStairInput i k)
  | mismatch (i : Nat) (hrole : s.actsAs .floor = true) (hpresent : (s.stair i).present = true) :
    s.LocalWork (s.mismatchExpired i)
  | heldOpen (i : Nat) (hrole : s.actsAs .floor = true) (hpresent : (s.stair i).present = true) :
    s.LocalWork (s.heldOpenExpired i)
  | carInput (c : Nat) (i : CarInput) (hrole : s.actsAs .lift = true) : s.LocalWork (s.acceptCarInput c i)
  | recallTimer (c : Nat) (hrole : s.actsAs .lift = true) (hstate : (s.car c).state = .recalling) :
    s.LocalWork (s.recallExpired c)
  | sound {w : State} (hrole : s.actsAs .floor = true) (h : Touches [.speaker, .cadence, .faults, .markSlots] s w) :
    s.LocalWork w
  | lapse (hrole : s.actsAs .floor = true) : s.LocalWork s.lapseAuthority
  | second : s.LocalWork s.countSecond.secondWork
  | silence (a : Nat) (hdue : s.silenceDue a = true) : s.LocalWork (s.silence a)
  | listenEnds : s.LocalWork s.listenExpired
  | aloof {w : State} (h : Touches Part.aloof s w) : s.LocalWork w

/-- What is no event: the receiver's samples, the timebase, a transaction of the link, and a lamp that turns over. -/
inductive State.Aside (s : State) : State → Prop
  | unseen {t : State} (h : Touches [.rx, .time, .link, .haltLamp, .lineLamp] s t)
      (hkeep : t.link.keep.isSome = s.link.keep.isSome) : s.Aside t
  | flash (lamp : Lamp) : s.Aside (s.onFlash lamp)

/-- One turn of a station that no other station has brought about. -/
inductive State.Turn (s : State) : State → Prop
  | event {w : State} (hacts : s.acts = true) (h : s.LocalWork w) : s.Turn (w.finish s)
  | aside {t : State} (h : s.Aside t) : s.Turn t

/-- One event of the receiver, or the completion of a frame: what brings a record of the regime into force. -/
inductive State.News (s : State) : State → Prop
  | received (e : RxEvent) (hacts : s.acts = true) : s.News (s.rxEvent State.handOn e)
  | completed (slot : SlotId) (f : Frame) (hacts : s.acts = true) : s.News ((s.complete slot f).finish s)

/-- Turns in a row, `n` of them news. -/
inductive State.Runs (s : State) : Nat → State → Prop
  | refl : s.Runs 0 s
  | turn {n : Nat} {t u : State} (h : s.Runs n t) (k : t.Turn u) : s.Runs n u
  | news {n : Nat} {t u : State} (h : s.Runs n t) (k : t.News u) : s.Runs (n + 1) u

theorem State.Runs.trans {s t u : State} {n m : Nat} (h : s.Runs n t) (k : t.Runs m u) : s.Runs (n + m) u := by
  induction k with
  | refl => exact h
  | turn _ k ih => exact ih.turn k
  | news _ k ih => exact ih.news k

theorem State.Turn.runs {s t : State} (h : s.Turn t) : s.Runs 0 t := .turn .refl h

/-- What every turn and all news keep, turns in a row keep. -/
theorem State.Runs.keeps {P : State → Prop} (hturn : ∀ {s t : State}, s.Turn t → P s → P t)
    (hnews : ∀ {s t : State}, s.News t → P s → P t) {s t : State} {n : Nat} (h : s.Runs n t) (hs : P s) : P t := by
  induction h with
  | refl => exact hs
  | turn _ k ih => exact hturn k ih
  | news _ k ih => exact hnews k ih

theorem State.Runs.foldl {α : Type} {f : State → α → State} (l : List α) (s : State)
    (h : ∀ x ∈ l, ∀ t : State, t.Runs 0 (f t x)) : s.Runs 0 (l.foldl f s) := by
  induction l generalizing s with
  | nil => exact .refl
  | cons x xs ih =>
    exact (h x (by simp) s).trans (ih (f s x) fun y hy => h y (by simp [hy]))

theorem runs_ite {p : Prop} [Decidable p] {s t : State} (h : p → s.Runs 0 t) : s.Runs 0 (if p then t else s) := by
  split
  · exact h ‹_›
  · exact .refl

theorem runs_event {due : Bool} {f : State → State} {s : State} (hacts : due = true → s.acts = true)
    (h : due = true → s.LocalWork (f s)) : s.Runs 0 (s.event due f) :=
  runs_ite fun hd => (State.Turn.event (hacts hd) (h hd)).runs

theorem State.acts_of_actsAs {r : Role} {s : State} (h : s.actsAs r = true) : s.acts = true :=
  ((State.actsAs_iff r s).1 h).1

/-- An event of a block that its role alone runs. -/
theorem runs_roleEvent {due : Bool} {r : Role} {f : State → State} {s : State} (hdue : due = true → s.actsAs r = true)
    (h : due = true → s.LocalWork (f s)) : s.Runs 0 (s.event due f) :=
  runs_event (fun hd => State.acts_of_actsAs (hdue hd)) h

/-! ### Commands that are one event of the station's own -/

theorem runs_onSecond (s : State) : s.Runs 0 s.onSecond := by
  unfold State.onSecond
  split
  · split
    · exact (State.Turn.event ‹_› .second).runs
    · exact (State.Turn.aside (.unseen ((touches_countSecond s).mono (by decide)) rfl)).runs
  · exact .refl

theorem runs_request (bytes : List Byte) {f : State → State} (response : State → List Byte) (s : State)
    (h : ∀ t, Touches [.link, .fifo] t (f t)) : s.Runs 0 (s.request bytes f response) := by
  unfold State.request
  refine runs_ite fun hready => ?_
  have hacts := State.acts_of_actsAs ((State.linkReady_iff _ s).1 hready).1
  have hwork := (touches_link { s.link with taken := true, buffer := bytes } s).andThen (h _) (rs := Part.aloof)
    (by decide) (by decide)
  exact (State.Turn.event hacts (.aloof hwork)).runs.turn (.aside (.unseen ((touches_link _ _).mono (by decide)) rfl))

/-- A change of the link's transaction alone. -/
theorem runs_link (s : State) {l : Link} (h : l.keep = s.link.keep) : s.Runs 0 { s with link := l } :=
  (State.Turn.aside (.unseen ((touches_link l s).mono (by decide)) (by rw [h]))).runs

theorem runs_answer (bytes : List Byte) (response : State → List Byte) (s : State) :
    s.Runs 0 (s.answer bytes response) := runs_ite fun _ => runs_link s rfl

/-- The guards of the timed events, as the conjunctions that they are. -/
theorem and_left_iff {a b : Bool} : (a && b) = true → a = true := fun h => (Bool.and_eq_true_iff.1 h).1

theorem runs_onClassAccepted (z : Nat) (s : State) : s.Runs 0 (s.onClassAccepted z) :=
  runs_roleEvent and_left_iff fun h => by
    obtain ⟨hrole, hdue⟩ := Bool.and_eq_true_iff.1 h
    exact .classAccepted z _ hrole hdue

theorem runs_onStageExpiry (z : Nat) (s : State) : s.Runs 0 (s.onStageExpiry z) :=
  runs_roleEvent (fun h => and_left_iff (and_left_iff h)) fun h => by
    obtain ⟨hrole, hstage⟩ := Bool.and_eq_true_iff.1 (and_left_iff h)
    exact .stageExpired z hrole hstage

theorem runs_onConfirmExpiry (z : Nat) (s : State) : s.Runs 0 (s.onConfirmExpiry z) :=
  runs_roleEvent (fun h => and_left_iff (and_left_iff h)) fun h => by
    obtain ⟨hrole, hstate⟩ := Bool.and_eq_true_iff.1 (and_left_iff h)
    exact .windowExpired z hrole (beq_iff_eq.1 hstate)

/-- The guard of an event of a present stair. -/
theorem stairGuard {s : State} {i : Nat} {due : Bool} (h : (s.actsAs .floor && (s.stair i).present && due) = true) :
    s.actsAs .floor = true ∧ (s.stair i).present = true := Bool.and_eq_true_iff.1 (and_left_iff h)

theorem runs_onStairInput (i : Nat) (k : StairInput) (s : State) : s.Runs 0 (s.onStairInput i k) :=
  runs_roleEvent (fun h => (stairGuard h).1) fun h => .stairInput i k (stairGuard h).1 (stairGuard h).2

theorem runs_onMismatchExpiry (i : Nat) (s : State) : s.Runs 0 (s.onMismatchExpiry i) :=
  runs_roleEvent (fun h => (stairGuard h).1) fun h => .mismatch i (stairGuard h).1 (stairGuard h).2

theorem runs_onHeldOpenExpiry (i : Nat) (s : State) : s.Runs 0 (s.onHeldOpenExpiry i) :=
  runs_roleEvent (fun h => (stairGuard h).1) fun h => .heldOpen i (stairGuard h).1 (stairGuard h).2

theorem runs_onCarInput (c : Nat) (i : CarInput) (s : State) : s.Runs 0 (s.onCarInput c i) :=
  runs_roleEvent (fun h => and_left_iff (and_left_iff h)) fun h => .carInput c i (and_left_iff (and_left_iff h))

theorem runs_onRecallExpiry (c : Nat) (s : State) : s.Runs 0 (s.onRecallExpiry c) :=
  runs_roleEvent (fun h => and_left_iff (and_left_iff (and_left_iff h))) fun h => by
    obtain ⟨hpresent, hstate⟩ := Bool.and_eq_true_iff.1 (and_left_iff h)
    exact .recallTimer c (and_left_iff hpresent) (beq_iff_eq.1 hstate)

theorem runs_onBusyLevel (s : State) : s.Runs 0 s.onBusyLevel :=
  runs_roleEvent and_left_iff fun h => .sound (and_left_iff h) ((touches_busyRead s).mono (by decide))

theorem runs_onMessageExpiry (s : State) : s.Runs 0 s.onMessageExpiry :=
  runs_roleEvent (fun h => and_left_iff (and_left_iff h)) fun h =>
    .sound (and_left_iff (and_left_iff h)) ((touches_messageExpired s).mono (by decide))

theorem runs_onStrobeEnd (s : State) : s.Runs 0 s.onStrobeEnd :=
  runs_roleEvent and_left_iff fun h => .sound (and_left_iff h) ((touches_speaker _ s).mono (by decide))

theorem runs_onPauseExpiry (s : State) : s.Runs 0 s.onPauseExpiry :=
  runs_roleEvent and_left_iff fun h => .sound (and_left_iff h) ((touches_pauseExpired s).mono (by decide))

theorem runs_onKeepExpiry (s : State) : s.Runs 0 s.onKeepExpiry :=
  runs_roleEvent and_left_iff fun h => .lapse (and_left_iff h)

theorem runs_onCycleStart (s : State) : s.Runs 0 s.onCycleStart :=
  runs_roleEvent and_left_iff fun h => .sound (and_left_iff h)
    (((touches_cycleEnd .alert s).trans (touches_cycleEnd .evacuate _)).mono (by decide))

theorem runs_onPulseBoundary (k : CadenceKind) (s : State) : s.Runs 0 (s.onPulseBoundary k) :=
  runs_roleEvent and_left_iff fun h => .sound (and_left_iff h) ((touches_pulseBoundary k s).mono (by decide))

theorem runs_onStrobePulseEnd (s : State) : s.Runs 0 s.onStrobePulseEnd :=
  runs_roleEvent and_left_iff fun h => .sound (and_left_iff h) ((touches_cadence _ s).mono (by decide))

theorem runs_onStandingLapse (k : CadenceKind) (s : State) : s.Runs 0 (s.onStandingLapse k) :=
  runs_roleEvent and_left_iff fun h => .sound (and_left_iff h) ((touches_standingLapsed k s).mono (by decide))

theorem runs_onListenExpiry (s : State) : s.Runs 0 s.onListenExpiry :=
  runs_event and_left_iff fun _ => .listenEnds

theorem runs_onPeerSilence (a : Nat) (s : State) : s.Runs 0 (s.onPeerSilence a) :=
  runs_event and_left_iff fun h => .silence a (Bool.and_eq_true_iff.1 h).2

/-- An event whose work none of the blocks but the line's, the builder's and the link's has a part in. -/
theorem runs_aloof {due : Bool} {ps : List Part} {f : State → State} {s : State} (hacts : due = true → s.acts = true)
    (h : Touches ps s (f s)) (hps : ps ⊆ Part.aloof) : s.Runs 0 (s.event due f) :=
  runs_event hacts fun _ => .aloof (h.mono hps)

theorem runs_flash (lamp : Lamp) (s : State) : s.Runs 0 (s.onFlash lamp) := (State.Turn.aside (.flash lamp)).runs

theorem runs_onLineDark (s : State) : s.Runs 0 s.onLineDark := by
  have h := (touches_onLineDark s).mono (qs := [.rx, .time, .link, .haltLamp, .lineLamp]) (by decide)
  refine (State.Turn.aside (.unseen h ?_)).runs
  rw [(touches_onLineDark s).link_eq (by decide)]

theorem acts_of_run {s : State} (h : s.station.lifecycle = .run) : s.acts = true := by simp [State.acts, h]

/-- Every command that is one event at most and brings no record into force: turns of the station's own. -/
theorem runs_plain {c : Instr} (hc : plainEvent c = true) (s : State) : s.Runs 0 (s.after c) := by
  cases hasks : c.asks with
  | some i =>
    rw [after_asks hasks]
    exact runs_request _ _ s (touches_issue i)
  | none =>
    cases c with
    | listenPeriodExpiry => exact runs_onListenExpiry s
    | second => exact runs_onSecond s
    | peerSilence a => exact runs_onPeerSilence a s
    | duplicateAgeLimit => exact runs_aloof and_left_iff (touches_endDuplicate s) (by decide)
    | lineWindowEnd => exact runs_aloof and_left_iff (touches_endWindow s) (by decide)
    | jamEnd => exact runs_aloof and_left_iff (touches_release s) (by decide)
    | heartbeatTimerExpiry =>
      exact runs_aloof (fun h => acts_of_run (beq_iff_eq.1 (and_left_iff h))) (touches_heartbeat s) (by decide)
    | spacingTimerOpen => exact runs_aloof and_left_iff (touches_openSpacing s) (by decide)
    | loopClassAccepted z => exact runs_onClassAccepted z s
    | stageTimerExpiry z => exact runs_onStageExpiry z s
    | confirmWindowExpiry z => exact runs_onConfirmExpiry z s
    | stairInputChange i k => exact runs_onStairInput i k s
    | mismatchTimerExpiry i => exact runs_onMismatchExpiry i s
    | heldOpenTimerExpiry i => exact runs_onHeldOpenExpiry i s
    | carInputChange n i => exact runs_onCarInput n i s
    | recallTimerExpiry n => exact runs_onRecallExpiry n s
    | busyLevel => exact runs_onBusyLevel s
    | messageTimerExpiry => exact runs_onMessageExpiry s
    | messageStrobeEnd => exact runs_onStrobeEnd s
    | pauseExpiry => exact runs_onPauseExpiry s
    | keepTimerExpiry => exact runs_onKeepExpiry s
    | cadenceCycleStart => exact runs_onCycleStart s
    | cadencePulseBoundary k => exact runs_onPulseBoundary k s
    | strobePulseEnd => exact runs_onStrobePulseEnd s
    | standingLapse k => exact runs_onStandingLapse k s
    | indicatorFlash l => exact runs_flash l s
    | lineLitExpiry => exact runs_onLineDark s
    | keepPeriodExpiry =>
      exact runs_aloof (fun h => State.acts_of_actsAs (and_left_iff (and_left_iff h))) (touches_keepPeriod s) (by decide)
    | linkKeepExpiry =>
      exact runs_aloof (fun h => State.acts_of_actsAs (and_left_iff h)) (touches_endLinkKeep s) (by decide)
    | linkKeep => exact runs_request [byte 8] (fun _ => [byte 8]) s fun t => (touches_restartLinkKeep t).mono (by decide)
    | readEntry f =>
      exact runs_answer [byte 1, f] (fun t =>
        if f.toNat ≤ 47 then (t.floorEntry f.toNat).response f.toNat else refusedRead 15) s
    | readBank b =>
      exact runs_answer [byte 2, b] (fun t =>
        if b.toNat ≤ 1 then (t.bankEntry b.toNat).response b.toNat else refusedRead 12) s
    | readRegime => exact runs_answer _ _ s
    | readFaults => exact runs_answer _ _ s
    | readCounters => exact runs_answer _ _ s
    | readResult => exact runs_answer _ _ s
    | readConsole n =>
      exact runs_answer [byte 9, n] (fun t =>
        if n.toNat ≤ 3 then (t.consoleEntry n.toNat).response n.toNat else refusedRead 8) s
    | unknownRequest code => exact runs_ite fun _ => runs_answer _ _ s
    | linkSelectActive clocked => exact runs_ite fun _ => runs_link s rfl
    | linkSelectInactive => exact runs_ite fun _ => runs_link s rfl
    | issueBadKind kind =>
      have hk : isBadKind kind = false := by simpa [Instr.asks] using hasks
      have hsame : s.after (.issueBadKind kind) = s := if_neg (by simp [hk])
      rw [hsame]
      exact .refl
    | _ => simp [Instr.asks, plainEvent, Instr.samples, startsUp] at hasks hc

/-! ### The receiver in quiet -/

/-- Whatever the receiver came to, it is in HUNTING after it (R21 to R25). -/
theorem sample_event_hunts (mine : Nat → Bool) (now : Word16) (b : Bool) (r : Receiver)
    (h : (r.sample mine now b).2.isSome = true) : (r.sample mine now b).1.phase = .hunting := by
  have hclose (r : Receiver) : r.close.1.phase = .hunting := by
    unfold Receiver.close
    split_ifs <;> rfl
  have hbyte (r : Receiver) (h : (r.byteDone mine).2.isSome = true) : (r.byteDone mine).1.phase = .hunting := by
    unfold Receiver.byteDone at h ⊢
    split_ifs at h ⊢
    · rfl
    · rfl
    · exact hclose _
    · cases h
  have hbit (r : Receiver) (h : (r.dataBit mine b).2.isSome = true) : (r.dataBit mine b).1.phase = .hunting := by
    unfold Receiver.dataBit at h ⊢
    dsimp only at h ⊢
    split_ifs at h ⊢
    all_goals first | exact hbyte _ h | cases h
  have hassemble (r : Receiver) (h : (r.assemble mine b).2.isSome = true) : (r.assemble mine b).1.phase = .hunting := by
    unfold Receiver.assemble at h ⊢
    dsimp only at h ⊢
    split_ifs at h ⊢
    all_goals first | rfl | exact hclose _ | exact hbit _ h | cases h
  unfold Receiver.sample at h ⊢
  dsimp only at h ⊢
  split at h
  · split_ifs at h <;> cases h
  · split_ifs at h ⊢
    · rfl
    · cases h
    · cases h
  · exact hassemble _ h

/-- In HUNTING a sample brings nothing, and a recessive one leaves HUNTING. -/
theorem sample_of_hunting (mine : Nat → Bool) (now : Word16) (b : Bool) {r : Receiver} (h : r.phase = .hunting) :
    (r.sample mine now b).2 = none ∧ (b = true → (r.sample mine now b).1.phase = .hunting) := by
  unfold Receiver.sample
  simp only [h]
  split
  · exact ⟨rfl, by rintro rfl; simp_all⟩
  · exact ⟨rfl, fun _ => rfl⟩

theorem feed_of_hunting (mine : Nat → Bool) (now : Word16) {bs : List Bool} (hquiet : ∀ b ∈ bs.dropLast, b = true)
    {r : Receiver} (h : r.phase = .hunting) : (r.feed mine now bs).2 = [] := by
  induction bs generalizing r with
  | nil => rfl
  | cons b bs ih =>
    obtain ⟨hnone, hstays⟩ := sample_of_hunting mine now b h
    cases bs with
    | nil => simp [Receiver.feed, hnone]
    | cons c cs =>
      have hrest := ih (fun x hx => hquiet x (by simp [hx])) (hstays (hquiet b (by simp)))
      rw [Receiver.feed]
      simp only [hnone, hrest]
      rfl

/-- Quiet, and one sample after it, bring the receiver to one thing at most. -/
theorem feed_quiet_length (mine : Nat → Bool) (now : Word16) {bs : List Bool} (hquiet : ∀ b ∈ bs.dropLast, b = true)
    (r : Receiver) : (r.feed mine now bs).2.length ≤ 1 := by
  induction bs generalizing r with
  | nil => exact Nat.zero_le _
  | cons b bs ih =>
    have hrest : ∀ x ∈ bs.dropLast, x = true := fun x hx => hquiet x (by
      cases bs with
      | nil => simp at hx
      | cons c cs => exact List.mem_cons_of_mem _ hx)
    rw [Receiver.feed]
    cases hevent : (r.sample mine now b).2 with
    | none => simpa [hevent] using ih hrest _
    | some e =>
      have hhunts := sample_event_hunts mine now b r (by simp [hevent])
      simp [hevent, feed_of_hunting mine now hrest hhunts]

/-! ### The other commands -/

theorem runs_rxEvents (es : List RxEvent) {s : State} (hacts : s.acts = true) :
    s.Runs es.length (es.foldl (State.rxEvent State.handOn) s) := by
  induction es generalizing s with
  | nil => exact .refl
  | cons e es ih =>
    have hstill : (s.rxEvent State.handOn e).acts = true :=
      (keepsDue_rxEvent s e).acts.trans hacts
    have h := (State.Runs.news .refl (.received e hacts)).trans (ih hstill)
    rwa [List.length_cons, Nat.add_comm, ← Nat.zero_add 1]

/-- The station hears what its receiver comes to, one news after the other. -/
theorem runs_hear (line : Samples) (s : State) :
    ∃ n, s.Runs n (s.hear State.handOn line) ∧ n ≤ (s.fed line).2.length := by
  by_cases h : s.acts = true ∧ s.tx = .idle
  · have hrx : s.Runs 0 { s with rx := (s.fed line).1 } :=
      (State.Turn.aside (.unseen ((touches_rx (s.fed line).1 s).mono (by decide)) rfl)).runs
    have hevents := runs_rxEvents (s.fed line).2 (s := { s with rx := (s.fed line).1 }) h.1
    refine ⟨_, hrx.trans ?_, (Nat.zero_add _).le⟩
    rwa [State.hear, if_pos h]
  · refine ⟨0, ?_, Nat.zero_le _⟩
    rw [State.hear, if_neg h]
    exact .refl

theorem runs_hear_quiet {line : Samples} (hquiet : ∀ b ∈ line.all.dropLast, b = true) (s : State) :
    ∃ n, s.Runs n (s.hear State.handOn line) ∧ n ≤ 1 := by
  obtain ⟨n, hruns, hn⟩ := runs_hear line s
  exact ⟨n, hruns, hn.trans (feed_quiet_length _ _ hquiet _)⟩

theorem runs_transmit (s : State) : s.Runs 0 s.transmit :=
  runs_ite fun h => (State.Turn.event (acts_of_run h.1) (.aloof ((touches_tryStart 3 s).mono (by decide)))).runs

theorem runs_frameStart (quiet : Nat) (bitClock : Fin 160) (s : State) :
    ∃ n, s.Runs n (s.after (.frameStart quiet bitClock)) ∧ n ≤ 1 := by
  have hquiet : ∀ b ∈ (Samples.all ⟨quiet, [], 0⟩).dropLast, b = true := fun b hb => by
    rw [Samples.all, List.append_nil] at hb
    exact List.eq_of_mem_replicate (List.mem_of_mem_dropLast hb)
  obtain ⟨n, hruns, hn⟩ := runs_hear_quiet hquiet s
  have hsent : (s.hear State.handOn ⟨quiet, [], 0⟩).Runs 0 (s.after (.frameStart quiet bitClock)) :=
    runs_ite fun _ =>
      ((State.Turn.aside (.unseen ((touches_bitClocks _ _).mono (by decide)) rfl)).runs).trans (runs_transmit _)
  exact ⟨n, hruns.trans hsent, hn⟩

theorem runs_defer (bit : Fin 2) (s : State) : ∃ n, s.Runs n (s.after (.defer bit)) ∧ n ≤ 1 := by
  show ∃ n, s.Runs n (match s.tx with
    | .sending slot _ =>
      if s.acts then ((s.defer slot).finish s).hear State.handOn { quiet := bit.val, bits := [false], sinceSync := 0 }
      else s
    | _ => s) ∧ n ≤ 1
  split
  · rename_i slot _ _
    split
    · have hquiet : ∀ b ∈ (Samples.all ⟨bit.val, [false], 0⟩).dropLast, b = true := fun b hb => by
        rw [Samples.all, List.dropLast_concat] at hb
        exact List.eq_of_mem_replicate hb
      have hdefer : s.Runs 0 ((s.defer slot).finish s) :=
        (State.Turn.event ‹_› (.aloof ((touches_defer slot s).mono (by decide)))).runs
      obtain ⟨n, hruns, hn⟩ := runs_hear_quiet hquiet ((s.defer slot).finish s)
      exact ⟨0 + n, hdefer.trans hruns, (Nat.zero_add n).trans_le hn⟩
    · exact ⟨0, .refl, Nat.zero_le 1⟩
  · exact ⟨0, .refl, Nat.zero_le 1⟩

theorem runs_collision (bit : Nat) (s : State) : s.Runs 0 (s.after (.collision bit)) := by
  show s.Runs 0 (match s.tx with
    | .sending slot f =>
      s.event (s.acts && decide (2 ≤ bit) && decide (bit < f.lineBits.length)) (State.collide slot f)
    | _ => s)
  split
  · exact runs_aloof (fun h => and_left_iff (and_left_iff h)) (touches_collide _ _ s) (by decide)
  · exact .refl

theorem runs_frameComplete (s : State) : ∃ n, s.Runs n (s.after .frameComplete) ∧ n ≤ 1 := by
  show ∃ n, s.Runs n (match s.tx with
    | .sending slot f => s.event s.acts (State.complete slot f)
    | _ => s) ∧ n ≤ 1
  split
  · unfold State.event
    split
    · exact ⟨1, .news .refl (.completed _ _ ‹_›), le_refl 1⟩
    · exact ⟨0, .refl, Nat.zero_le 1⟩
  · exact ⟨0, .refl, Nat.zero_le 1⟩

/-- Every command but TICK and those of the start-up is a row of turns, one of them news at most where the command
brings the receiver one thing at most. -/
theorem runs_after {c : Instr} (hc : startsUp c = false) (htick : ∀ pins, c ≠ .tick pins) (s : State) :
    ∃ n, s.Runs n (s.after c) ∧ (s.hearsOne c → n ≤ 1) := by
  rcases instr_cases c with ⟨line, hline⟩ | hplain | hstart | ⟨pins, rfl⟩ | ⟨quiet, bitClock, rfl⟩ | ⟨bit, rfl⟩
    | ⟨bit, rfl⟩ | rfl
  · obtain ⟨n, hruns, hn⟩ := runs_hear line s
    rw [after_samples hline]
    exact ⟨n, hruns, fun hone => hn.trans (hone line hline)⟩
  · exact ⟨0, runs_plain hplain s, fun _ => Nat.zero_le 1⟩
  · rw [hc] at hstart
    cases hstart
  · exact absurd rfl (htick pins)
  · obtain ⟨n, hruns, hn⟩ := runs_frameStart quiet bitClock s
    exact ⟨n, hruns, fun _ => hn⟩
  · obtain ⟨n, hruns, hn⟩ := runs_defer bit s
    exact ⟨n, hruns, fun _ => hn⟩
  · exact ⟨0, runs_collision bit s, fun _ => Nat.zero_le 1⟩
  · obtain ⟨n, hruns, hn⟩ := runs_frameComplete s
    exact ⟨n, hruns, fun _ => hn⟩

/-- What is left due is taken in turns. -/
theorem runs_settle (s : State) : s.Runs 0 s.settle := by
  rw [settle_eq_caughtUp]
  exact State.Runs.foldl _ s fun c hc t => runs_plain (timedCommands_plain c hc) t

theorem after_tick_of_reset {s : State} (h : s.station.lifecycle = .reset) (pins : Inputs) :
    s.after (.tick pins) = s := if_pos h

end Sys2Proof.Machine
end

section
/-! ## Alarms, alarm latches and stair releases stand until the generation changes (R66, R81, R82, R120) -/

namespace Sys2Proof.Machine

/-! ### Entries of the peer table beside their common fields -/

theorem floor_updFloor (p : Peers) (f : Nat) (g : FloorEntry → FloorEntry) {k : Nat} (hk : k < 48) :
    (p.updFloor f g).floors.at k FloorEntry.atReset
      = if k = f then g (p.floors.at k FloorEntry.atReset) else p.floors.at k FloorEntry.atReset := by
  split
  · subst k
    exact Tab.at_upd_self _ _ _ _ hk
  · exact Tab.at_upd_ne _ _ _ _ _ ‹_›

/-- A change of the common fields leaves the rest of every floor entry. -/
theorem floor_updBase (p : Peers) (a : Nat) (f : PeerBase → PeerBase) {k : Nat} (hk : k < 48) :
    ∃ b, (p.updBase a f).floors.at k FloorEntry.atReset = { p.floors.at k FloorEntry.atReset with base := b } := by
  unfold Peers.updBase
  split
  · rw [floor_updFloor _ _ _ hk]
    split
    · exact ⟨_, rfl⟩
    · exact ⟨_, rfl⟩
  · split <;> exact ⟨_, rfl⟩

theorem floor_mapBase (p : Peers) (f : Nat → PeerBase → PeerBase) {k : Nat} (hk : k < 48) :
    ∃ b, (p.mapBase f).floors.at k FloorEntry.atReset = { p.floors.at k FloorEntry.atReset with base := b } :=
  ⟨_, Tab.at_mapIdx p.floors k _ _ _ hk⟩

/-! ### What holds alarms and latches -/

/-- Alarms and disabled zones, stored zones of other floors, latches and releases stand between two states. -/
structure State.Holds (s t : State) : Prop where
  address : t.station.address = s.station.address
  zone : ∀ z < 8, ((s.zone z).state = .alarm → (t.zone z).state = .alarm)
    ∧ ((s.zone z).state = .disabled → (t.zone z).state = .disabled)
  stored : ∀ f < 48, f ≠ s.station.address → (t.floorEntry f).zones = (s.floorEntry f).zones
  latch : ∀ f < 48, ((s.floorEntry f).alarmLatch = true → (t.floorEntry f).alarmLatch = true)
    ∧ ((s.floorEntry f).lobbyLatch = true → (t.floorEntry f).lobbyLatch = true)
  release : ∀ i < 4, (s.stair i).release = true → (t.stair i).release = true

theorem State.Holds.refl (s : State) : s.Holds s :=
  ⟨rfl, fun _ _ => ⟨id, id⟩, fun _ _ _ => rfl, fun _ _ => ⟨id, id⟩, fun _ _ => id⟩

theorem State.Holds.trans {s t u : State} (h : s.Holds t) (k : t.Holds u) : s.Holds u where
  address := k.address.trans h.address
  zone z hz := ⟨fun ha => (k.zone z hz).1 ((h.zone z hz).1 ha), fun hd => (k.zone z hz).2 ((h.zone z hz).2 hd)⟩
  stored f hf hne := (k.stored f hf (h.address ▸ hne)).trans (h.stored f hf hne)
  latch f hf := ⟨fun ha => (k.latch f hf).1 ((h.latch f hf).1 ha), fun hl => (k.latch f hf).2 ((h.latch f hf).2 hl)⟩
  release i hi hr := k.release i hi (h.release i hi hr)

theorem State.Holds.ite {p : Prop} [Decidable p] {s t u : State} (ht : s.Holds t) (hu : s.Holds u) :
    s.Holds (if p then t else u) := by
  split
  · exact ht
  · exact hu

theorem State.Holds.foldl {α : Type} (f : State → α → State) (h : ∀ t x, State.Holds t (f t x)) (l : List α)
    (s : State) : s.Holds (l.foldl f s) := by
  induction l generalizing s with
  | nil => exact .refl s
  | cons x xs ih => exact (h s x).trans (ih _)

theorem Touches.holds {ps : List Part} {s t : State} (h : Touches ps s t)
    (hps : .identity ∉ ps ∧ .zones ∉ ps ∧ .peers ∉ ps ∧ .stairs ∉ ps) : s.Holds t := by
  obtain ⟨hi, hz, hp, hs⟩ := hps
  refine ⟨h.address_eq hi, fun z _ => ?_, fun f _ _ => ?_, fun f _ => ?_, fun i _ => ?_⟩
  · simp only [State.zone, h.zones_eq hz]
    exact ⟨id, id⟩
  · simp only [State.floorEntry, h.floors_eq hp]
  · simp only [State.floorEntry, h.floors_eq hp]
    exact ⟨id, id⟩
  · simp only [State.stair, h.stairs_eq hs]
    exact id

/-- What holds each alarm, then leaves it or disables it, then holds it again, is within the law. -/
theorem State.Holds.latchesHeld {s t : State} (h : s.Holds t) : s.latchesHeld t :=
  ⟨fun z hz ha => .inl ((h.zone z hz).1 ha), fun f hf hne z _ ha => .inl (by rw [h.stored f hf hne]; exact ha), h.latch,
    h.release⟩

theorem State.Holds.before {s t u : State} (h : s.Holds t) (k : t.latchesHeld u) : s.latchesHeld u := by
  obtain ⟨hzone, hstored, hlatch, hrelease⟩ := k
  refine ⟨fun z hz ha => hzone z hz ((h.zone z hz).1 ha), fun f hf hne z hz ha => ?_, fun f hf => ?_,
    fun i hi hr => hrelease i hi (h.release i hi hr)⟩
  · exact hstored f hf (h.address ▸ hne) z hz (by rw [h.stored f hf hne]; exact ha)
  · exact ⟨fun ha => (hlatch f hf).1 ((h.latch f hf).1 ha), fun hl => (hlatch f hf).2 ((h.latch f hf).2 hl)⟩

theorem State.Holds.after {s t u : State} (haddress : t.station.address = s.station.address) (h : s.latchesHeld t)
    (k : t.Holds u) : s.latchesHeld u := by
  obtain ⟨hzone, hstored, hlatch, hrelease⟩ := h
  refine ⟨fun z hz ha => ?_, fun f hf hne z hz ha => ?_, fun f hf => ?_, fun i hi hr => k.release i hi (hrelease i hi hr)⟩
  · exact (hzone z hz ha).imp (k.zone z hz).1 (k.zone z hz).2
  · rw [k.stored f hf (haddress ▸ hne)]
    exact hstored f hf hne z hz ha
  · exact ⟨fun ha => (k.latch f hf).1 ((hlatch f hf).1 ha), fun hl => (k.latch f hf).2 ((hlatch f hf).2 hl)⟩

/-! ### Zones, stairs and entries under their operations -/

@[simp] theorem Zone.account_state (old : Zone) (extra : Nat) (new : Zone) :
    (old.account extra new).state = new.state := rfl

theorem holds_updZone {z : Nat} {f : Zone → Zone} {s : State} (ha : (s.zone z).state = .alarm → (f (s.zone z)).state = .alarm)
    (hd : (s.zone z).state = .disabled → (f (s.zone z)).state = .disabled) : s.Holds (s.updZone z f) where
  address := rfl
  zone y hy := by
    by_cases h : y = z
    · subst y
      have hself : (s.updZone z f).zone z = f (s.zone z) := Tab.at_upd_self _ _ _ _ hy
      rw [hself]
      exact ⟨ha, hd⟩
    · have hother : (s.updZone z f).zone y = s.zone y := Tab.at_upd_ne _ _ _ _ _ h
      rw [hother]
      exact ⟨id, id⟩
  stored _ _ _ := rfl
  latch _ _ := ⟨id, id⟩
  release _ _ := id

theorem holds_changeZone {z e : Nat} {f : Zone → Zone} {s : State}
    (ha : (s.zone z).state = .alarm → (f (s.zone z)).state = .alarm)
    (hd : (s.zone z).state = .disabled → (f (s.zone z)).state = .disabled) : s.Holds (s.changeZone z e f) :=
  holds_updZone ha hd

/-- A change of every zone record that leaves the states. -/
theorem holds_zones {s : State} {q : Tab Zone 8}
    (h : ∀ z < 8, (q.at z (Zone.atReset .unused)).state = (s.zone z).state) : s.Holds { s with zones := q } where
  address := rfl
  zone z hz := ⟨fun ha => (h z hz).trans ha, fun hd => (h z hz).trans hd⟩
  stored _ _ _ := rfl
  latch _ _ := ⟨id, id⟩
  release _ _ := id

/-- A change of the stair records that keeps every release. -/
theorem holds_stairs {s : State} {q : Tab Stair 4}
    (h : ∀ i < 4, (s.stair i).release = true → (q.at i (Stair.atReset false 0)).release = true) :
    s.Holds { s with stairs := q } where
  address := rfl
  zone _ _ := ⟨id, id⟩
  stored _ _ _ := rfl
  latch _ _ := ⟨id, id⟩
  release := h

theorem holds_updStair {i : Nat} {f : Stair → Stair} {s : State} (h : ∀ x, (f x).release = x.release) :
    s.Holds (s.updStair i f) :=
  holds_stairs fun j hj hr => by
    rw [State.stair] at hr
    by_cases hji : j = i
    · subst j
      rw [Tab.at_upd_self _ _ _ _ hj, h, hr]
    · rw [Tab.at_upd_ne _ _ _ _ _ hji, hr]

/-- A change of the peer table that keeps the stored zones and the latches of the floor entries. -/
theorem holds_peers {s : State} {q : Peers}
    (hz : ∀ f < 48, f ≠ s.station.address → (q.floors.at f FloorEntry.atReset).zones = (s.floorEntry f).zones)
    (hl : ∀ f < 48, ((s.floorEntry f).alarmLatch = true → (q.floors.at f FloorEntry.atReset).alarmLatch = true)
      ∧ ((s.floorEntry f).lobbyLatch = true → (q.floors.at f FloorEntry.atReset).lobbyLatch = true)) :
    s.Holds { s with peers := q } :=
  ⟨rfl, fun _ _ => ⟨id, id⟩, hz, hl, fun _ _ => id⟩

/-- A change of common fields alone. -/
theorem holds_bases {s : State} {q : Peers}
    (h : ∀ f < 48, ∃ b, q.floors.at f FloorEntry.atReset = { s.floorEntry f with base := b }) :
    s.Holds { s with peers := q } :=
  holds_peers (fun f hf _ => by obtain ⟨b, hb⟩ := h f hf; rw [hb])
    fun f hf => by obtain ⟨b, hb⟩ := h f hf; rw [hb]; exact ⟨id, id⟩

theorem holds_updBase (a : Nat) (f : PeerBase → PeerBase) (s : State) :
    s.Holds { s with peers := s.peers.updBase a f } := holds_bases fun _ hk => floor_updBase _ a f hk

/-- A change of one floor entry beside its zones and latches. -/
theorem holds_updFloor {g : FloorEntry → FloorEntry} (a : Nat) (s : State)
    (hz : a ≠ s.station.address → ∀ e, (g e).zones = e.zones)
    (hl : ∀ e, (e.alarmLatch = true → (g e).alarmLatch = true) ∧ (e.lobbyLatch = true → (g e).lobbyLatch = true)) :
    s.Holds { s with peers := s.peers.updFloor a g } :=
  holds_peers
    (fun f hf hne => by
      rw [floor_updFloor _ _ _ hf]
      split
      · subst f
        exact hz hne _
      · rfl)
    fun f hf => by
      rw [floor_updFloor _ _ _ hf]
      split
      · exact hl _
      · exact ⟨id, id⟩

/-! ### Own alarms -/

theorem holds_alarmEntered (z : Nat) (s : State) : s.Holds (s.alarmEntered z) := by
  have hlatched : s.Holds (s.alarmLatched z) :=
    holds_updFloor _ s (fun h => absurd rfl h) fun e => ⟨fun _ => rfl, fun h => by simp [h]⟩
  have horigin := hlatched.trans ((touches_alarmOrigin z s).holds (by decide))
  rw [alarmEntered_eq]
  exact .ite (horigin.trans ((touches_runEntry _).holds (by decide))) horigin

/-- No acceptance takes a zone out of ALARM or out of DISABLED (R60, R66). -/
theorem Zone.nextState_stands {active : Bool} {c : LoopClass} {z : Zone} (h : z.state = .alarm ∨ z.state = .disabled) :
    z.nextState active c = z.state := by
  rcases h with h | h <;> simp [Zone.nextState, h]

theorem holds_acceptClass (z : Nat) (c : LoopClass) (s : State) : s.Holds (s.acceptClass z c) := by
  have hfaults : s.Holds (s.zoneFaults z c) :=
    (touches_zoneFaults z c s).holds (by decide)
  have hzone : (s.zoneFaults z c).zone z = s.zone z := by
    rw [State.zone, State.zone, (touches_zoneFaults z c s).zones_eq (by decide)]
  have hchange (e : Nat) :
      (s.zoneFaults z c).Holds ((s.zoneFaults z c).changeZone z e (Zone.acceptClass s.regime.active c)) :=
    holds_changeZone (fun h => (Zone.nextState_stands (.inl h)).trans h) fun h => (Zone.nextState_stands (.inr h)).trans h
  unfold State.acceptClass
  exact .ite ((hfaults.trans (hchange _)).trans (holds_alarmEntered z _)) (hfaults.trans (hchange _))

theorem holds_activateZone (s : State) (z : Nat) : s.Holds (s.activateZone z) := by
  have hstop : s.Holds (s.updZone z fun x => { x with stage := none }) := holds_updZone id id
  unfold State.activateZone
  exact .ite (.ite (hstop.trans (holds_acceptClass z .alarm _)) hstop) (.refl s)

theorem holds_zonesActivated (s : State) : s.Holds s.zonesActivated :=
  .ite (.foldl _ holds_activateZone _ _) (.refl s)

/-! ### The reactions -/

theorem Stair.release_react {demand cleared became : Bool} {limit : Nat} {x : Stair} (h : x.release = true) :
    (x.react demand cleared became limit).release = true := by
  have hdrive : (x.drive demand).release = true := by simp [Stair.drive, h]
  have hcheck : (x.drive demand).check.release = true := by
    unfold Stair.check
    split_ifs <;> exact hdrive
  have hheld : ((x.drive demand).check.heldOpenReact cleared became limit).release = true := by
    unfold Stair.heldOpenReact
    dsimp only
    split_ifs <;> exact hcheck
  unfold Stair.react Stair.settle
  split_ifs
  · exact hheld
  · exact hheld
  · exact h

theorem holds_stairsReact (c b : Bool) (s : State) : s.Holds (s.stairsReact c b) := by
  unfold State.stairsReact
  refine .ite (State.Holds.trans (holds_stairs fun i hi hr => ?_)
    ((touches_clearDoorLocks s _).holds (by decide))) (.refl s)
  rw [Tab.at_map (h := hi)]
  exact Stair.release_react hr

theorem holds_loopback (s : State) : s.Holds s.loopback := by
  unfold State.loopback
  split
  · exact holds_updFloor _ s (fun h => absurd rfl h) fun e => ⟨id, id⟩
  · exact holds_bases fun f _ => ⟨_, rfl⟩
  · exact holds_bases fun f _ => ⟨_, rfl⟩
  · exact .refl s

theorem holds_finish (s old : State) : s.Holds (s.finish old) := by
  have hreact (c b : Bool) (t : State) : t.Holds
      (((State.speakerReact old b ((t.stairsReact c b).liftsReact b)).cadenceReact.alarmLampReact).loopback.builderReact
        old) := by
    refine (holds_stairsReact c b t).trans ?_
    refine ((touches_liftsReact b _).holds (by decide)).trans ?_
    refine ((touches_speakerReact old b _).holds (by decide)).trans ?_
    refine ((touches_cadenceReact _).holds (by decide)).trans ?_
    refine ((touches_alarmLampReact _).holds (by decide)).trans ?_
    exact (holds_loopback _).trans ((touches_builderReact old _).holds (by decide))
  unfold State.finish
  exact .ite (.refl s) ((State.Holds.ite (holds_zonesActivated s) (.refl s)).trans (hreact _ _ _))

/-! ### Turns and the tick event -/

theorem holds_doorChanged (i : Nat) (s : State) : s.Holds (s.doorChanged i) := by
  unfold State.doorChanged
  exact .ite ((holds_updStair (by intro; rfl)).trans ((touches_clearFault _ _ _).holds (by decide)))
    (.ite (holds_updStair fun _ => rfl) (.refl s))

theorem holds_acceptStairInput (i : Nat) (k : StairInput) (s : State) : s.Holds (s.acceptStairInput i k) := by
  have hset : s.Holds (s.updStair i fun x => x.setInput k (x.input k).accept) :=
    holds_updStair fun x => by cases k <;> rfl
  cases k
  · exact hset.trans (holds_doorChanged i _)
  · exact hset
  · exact hset

theorem holds_secondWork (s : State) : s.Holds s.secondWork := by
  have hregime : s.Holds s.regimeSecond := (touches_regimeSecond s).holds (by decide)
  have hpeers (t : State) : t.Holds t.agePeers := holds_bases fun _ hk => floor_mapBase _ _ hk
  have hduplicate (t : State) : t.Holds t.ageDuplicate := (touches_ageDuplicate t).holds (by decide)
  exact ((hregime.trans (hpeers _)).trans (hduplicate _)).trans ((touches_line _ _).holds (by decide))

theorem State.LocalWork.holds {s w : State} (h : s.LocalWork w) : s.Holds w := by
  cases h with
  | classAccepted z c => exact holds_acceptClass z c s
  | stageExpired z _ hstage =>
    have hstate : (s.zone z).state = .verifyReset ∨ (s.zone z).state = .verifySettle := by
      simpa [Zone.inStage] using hstage
    exact holds_changeZone (fun h => by simp [h] at hstate) fun h => by simp [h] at hstate
  | windowExpired z _ hstate => exact holds_changeZone (fun h => by simp [h] at hstate) fun h => by simp [h] at hstate
  | stairInput i k => exact holds_acceptStairInput i k s
  | mismatch i => exact (holds_updStair (by intro; rfl)).trans ((touches_raise _ _ _).holds (by decide))
  | heldOpen i => exact (holds_updStair (by intro; rfl)).trans ((touches_raise _ _ _).holds (by decide))
  | carInput c i => exact (touches_acceptCarInput c i s).holds (by decide)
  | recallTimer c => exact (touches_recallExpired c s).holds (by decide)
  | sound _ h => exact h.holds (by decide)
  | lapse => exact (touches_lapseAuthority s).holds (by decide)
  | second => exact ((touches_countSecond s).holds (by decide)).trans (holds_secondWork _)
  | silence a => exact (holds_updBase a _ s).trans ((touches_raise _ _ _).holds (by decide))
  | listenEnds => exact (touches_listenExpired s).holds (by decide)
  | aloof h => exact h.holds (by decide)

theorem State.LocalWork.generation {s w : State} (h : s.LocalWork w) : w.regime.generation = s.regime.generation := by
  cases h with
  | classAccepted z c => exact (touches_acceptClass z c s).generation_eq (by decide)
  | stageExpired z => exact (touches_changeZone z 0 _ s).generation_eq (by decide)
  | windowExpired z => exact (touches_changeZone z 0 _ s).generation_eq (by decide)
  | stairInput i k => exact (touches_acceptStairInput i k s).generation_eq (by decide)
  | mismatch i => exact (touches_mismatchExpired i s).generation_eq (by decide)
  | heldOpen i => exact (touches_heldOpenExpired i s).generation_eq (by decide)
  | carInput c i => exact (touches_acceptCarInput c i s).generation_eq (by decide)
  | recallTimer c => exact (touches_recallExpired c s).generation_eq (by decide)
  | sound _ h => exact h.generation_eq (by decide)
  | lapse => exact (touches_lapseAuthority s).generation_eq (by decide)
  | second =>
    exact ((touches_secondWork _).generation_eq (by decide)).trans ((touches_countSecond s).generation_eq (by decide))
  | silence a => exact (touches_silence a s).generation_eq (by decide)
  | listenEnds => exact (touches_listenExpired s).generation_eq (by decide)
  | aloof h => exact h.generation_eq (by decide)

theorem State.Aside.holds {s t : State} (h : s.Aside t) : s.Holds t := by
  cases h with
  | unseen h => exact h.holds (by decide)
  | flash l => exact (touches_onFlash l s).holds (by cases l <;> decide)

theorem State.Turn.holds {s t : State} (h : s.Turn t) : s.Holds t := by
  cases h with
  | event _ h => exact h.holds.trans (holds_finish _ s)
  | aside h => exact h.holds

theorem finish_generation (s old : State) : (s.finish old).regime.generation = s.regime.generation :=
  (touches_finish s old).generation_eq (by decide)

theorem State.Turn.generation {s t : State} (h : s.Turn t) : t.regime.generation = s.regime.generation := by
  cases h with
  | event _ h => exact (finish_generation _ s).trans h.generation
  | aside h =>
    cases h with
    | unseen h => exact h.generation_eq (by decide)
    | flash l => exact (touches_onFlash l s).generation_eq (by cases l <;> decide)

theorem holds_tickEvent (pins : Inputs) (s : State) : s.Holds (s.tickEvent pins) := by
  cases hacts : s.acts with
  | false =>
    rw [tickEvent_of_not_acts hacts]
    exact ⟨rfl, fun _ _ => ⟨id, id⟩, fun _ _ _ => rfl, fun _ _ => ⟨id, id⟩, fun _ _ => id⟩
  | true =>
    have h := touches_tickEvent pins s
    have hstate (z : Nat) (hz : z < 8) : ((s.tickEvent pins).zone z).state = (s.zone z).state := by
      rw [tickEvent_zone hacts pins hz]
      split
      · exact (Zone.sample_eq _ _).1
      · rfl
    refine ⟨h.address_eq (by decide), fun z hz => ?_, fun f _ _ => ?_, fun f _ => ?_, fun i hi hr => ?_⟩
    · rw [hstate z hz]
      exact ⟨id, id⟩
    · simp only [State.floorEntry, h.floors_eq (by decide)]
    · simp only [State.floorEntry, h.floors_eq (by decide)]
      exact ⟨id, id⟩
    · rw [tickEvent_stair hacts pins hi]
      dsimp only
      split <;> exact hr

/-! ### News -/

/-- A newer generation has been adopted between two states. -/
def State.Passed (s t : State) : Prop := s.regime.generation ≠ none ∧ t.regime.generation ≠ s.regime.generation

/-- The work of news keeps the law, unless it brings a newer generation. -/
structure State.Brings (s w : State) : Prop where
  address : w.station.address = s.station.address
  held : s.Passed w ∨ s.latchesHeld w

theorem State.Holds.brings {s w : State} (h : s.Holds w) : s.Brings w := ⟨h.address, .inr h.latchesHeld⟩

theorem State.Brings.andThen {s w u : State} (h : s.Brings w) (k : w.Holds u)
    (hg : u.regime.generation = w.regime.generation) : s.Brings u :=
  ⟨k.address.trans h.address,
    h.held.imp (fun ⟨hset, hmoved⟩ => ⟨hset, hg ▸ hmoved⟩) fun held => State.Holds.after h.address held k⟩

theorem State.Holds.thenBrings {s w u : State} (h : s.Holds w) (hg : w.regime.generation = s.regime.generation)
    (k : w.Brings u) : s.Brings u :=
  ⟨k.address.trans h.address, k.held.imp (fun ⟨hset, hmoved⟩ => ⟨hg ▸ hset, hg ▸ hmoved⟩) h.before⟩

theorem delta_self (g : Byte) : delta g g = 0 := by simp [delta]

theorem adoptNewer_generation (g : Byte) (s : State) : (s.adoptNewer g).regime.generation = some g := by
  have h1 := touches_peersAllClear { s with regime := Regime.allClear g }
  have h2 := touches_zonesAllClear (State.peersAllClear { s with regime := Regime.allClear g })
  have h3 := touches_builderAllClear (State.peersAllClear { s with regime := Regime.allClear g }).zonesAllClear
  unfold State.adoptNewer
  dsimp only
  rw [(touches_speakerAllClear _).generation_eq (by decide), (touches_stairsAllClear _).generation_eq (by decide),
    h3.generation_eq (by decide), h2.generation_eq (by decide), h1.generation_eq (by decide)]
  rfl

/-- A generation ahead of the station's own is another one. -/
theorem passed_of_newer {g own : Byte} {s t : State} (hown : s.regime.generation = some own) (hnew : 1 ≤ delta g own)
    (ht : t.regime.generation = some g) : s.Passed t := by
  refine ⟨by simp [hown], fun h => ?_⟩
  obtain rfl : g = own := by rw [ht, hown] at h; exact Option.some.inj h
  rw [delta_self] at hnew
  cases hnew

theorem brings_adoptNewer {g own : Byte} {s : State} (hown : s.regime.generation = some own)
    (hnew : 1 ≤ delta g own) : s.Brings (s.adoptNewer g) :=
  ⟨(touches_adoptNewer g s).address_eq (by decide), .inl (passed_of_newer hown hnew (adoptNewer_generation g s))⟩

theorem brings_window (g : Byte) (s : State) : s.Brings (s.window g) := by
  unfold State.window
  split
  · exact ((touches_firstAdoption g s).holds (by decide)).brings
  · split
    · exact brings_adoptNewer ‹_› (‹1 ≤ _ ∧ _› : _ ∧ _).1
    · exact (State.Holds.refl s).brings

/-- What a command does after the window, beside zones, entries and stairs. -/
theorem State.Brings.touches {ps : List Part} {s w u : State} (h : s.Brings w) (k : Touches ps w u)
    (hps : .identity ∉ ps ∧ .zones ∉ ps ∧ .peers ∉ ps ∧ .stairs ∉ ps) (hg : .generation ∉ ps) : s.Brings u :=
  h.andThen (k.holds hps) (k.generation_eq hg)

theorem latchesHeld_updZone {z : Nat} {f : Zone → Zone} {s : State}
    (h : (s.zone z).state = .alarm → (f (s.zone z)).state = .alarm ∨ (f (s.zone z)).state = .disabled) :
    s.latchesHeld (s.updZone z f) := by
  refine ⟨fun y hy ha => ?_, fun _ _ _ _ _ => .inl, fun _ _ => ⟨id, id⟩, fun _ _ => id⟩
  by_cases hyz : y = z
  · subst y
    have hself : (s.updZone z f).zone z = f (s.zone z) := Tab.at_upd_self _ _ _ _ hy
    rw [hself]
    exact h ha
  · have hother : (s.updZone z f).zone y = s.zone y := Tab.at_upd_ne _ _ _ _ _ hyz
    rw [hother]
    exact .inl ha

/-- The faults of a zone, then a change of its record, within the law. -/
theorem brings_zoneCommand {z : Nat} {f : Zone → Zone} (s : State)
    (h : (s.zone z).state = .alarm → (f (s.zone z)).state = .alarm ∨ (f (s.zone z)).state = .disabled) :
    s.Brings ((s.clearZoneFaults z).changeZone z 0 f) :=
  ((touches_clearZoneFaults z s).holds (by decide)).thenBrings ((touches_clearZoneFaults z s).generation_eq (by decide))
    ⟨rfl, .inr (latchesHeld_updZone h)⟩

theorem brings_ite {p : Prop} [Decidable p] {s t u : State} (ht : p → s.Brings t) (hu : ¬ p → s.Brings u) :
    s.Brings (if p then t else u) := by
  split
  · exact ht ‹_›
  · exact hu ‹_›

theorem brings_disableZone (z : Nat) (s : State) : s.Brings (s.disableZone z) :=
  brings_ite (fun _ => brings_zoneCommand s fun _ => .inr rfl) fun _ => (State.Holds.refl s).brings

theorem brings_enableZone (z : Nat) (s : State) : s.Brings (s.enableZone z) :=
  brings_ite (fun ⟨_, hd⟩ => brings_zoneCommand s fun ha => by rw [hd] at ha; cases ha)
    fun _ => (State.Holds.refl s).brings

theorem passed_trans_same {s t u : State} (h : s.Passed t) (hg : u.regime.generation = t.regime.generation) :
    s.Passed u := ⟨h.1, hg ▸ h.2⟩

theorem brings_zoneAfterWindow {f : State → State} (g : Byte) (s : State) (hf : ∀ t, State.Brings t (f t))
    (htouch : ∀ t, Touches [.zones, .faults] t (f t)) : s.Brings (f (s.window g)) := by
  have haddress := (touches_window g s).address_eq (by decide)
  refine ⟨(hf _).address.trans haddress, ?_⟩
  unfold State.window
  split
  · exact (((touches_firstAdoption g s).holds (by decide)).before <| by
      rcases (hf (s.firstAdoption g)).held with hp | hh
      · exact absurd ((htouch _).generation_eq (by decide)) hp.2
      · exact hh) |> .inr
  · split
    · exact .inl (passed_trans_same (passed_of_newer ‹_› (‹1 ≤ _ ∧ _› : _ ∧ _).1 (adoptNewer_generation g s))
        ((htouch _).generation_eq (by decide)))
    · exact (hf s).held

theorem brings_regimeCommand {f : State → State} (g : Byte) (s : State)
    (hf : ∀ t, Touches [.general, .phases, .holdEpoch, .silenceEpoch] t (f t)) : s.Brings (s.regimeCommand g f) :=
  brings_ite (fun _ => (State.Holds.refl s).brings)
    fun _ => (brings_window g s).touches (hf _) (by decide) (by decide)

/-- What an owner does with a command that passed the window, where its station is addressed. -/
theorem brings_owner {ps : List Part} {p : Prop} [Decidable p] (g : Byte) {s t : State} (ht : Touches ps (s.window g) t)
    (hps : .identity ∉ ps ∧ .zones ∉ ps ∧ .peers ∉ ps ∧ .stairs ∉ ps) (hg : .generation ∉ ps) :
    s.Brings (if p then t else s.window g) :=
  brings_ite (fun _ => (brings_window g s).touches ht hps hg) fun _ => brings_window g s

theorem brings_obey (n : Nat) (g : Byte) (c : Command) (s : State) : s.Brings (s.obey n g c) := by
  cases c with
  | general => exact brings_regimeCommand g s fun t => (touches_setGeneral t).mono (by decide)
  | hold e => exact brings_regimeCommand g s fun t => (touches_adoptHold e t).mono (by decide)
  | resume e => exact brings_regimeCommand g s fun t => (touches_adoptHold e t).mono (by decide)
  | silence e => exact brings_regimeCommand g s fun t => (touches_adoptSilence e t).mono (by decide)
  | resound e => exact brings_regimeCommand g s fun t => (touches_adoptSilence e t).mono (by decide)
  | allClear => exact brings_window g s
  | zoneDisable z =>
    exact brings_ite (fun _ => brings_zoneAfterWindow g s (brings_disableZone _) (touches_disableZone _))
      fun _ => brings_window g s
  | zoneEnable z =>
    exact brings_ite (fun _ => brings_zoneAfterWindow g s (brings_enableZone _) (touches_enableZone _))
      fun _ => brings_window g s
  | take mask number => exact brings_owner g (touches_takeAuthority n number _) (by decide) (by decide)
  | keep number => exact brings_owner g (touches_keepAuthority n number _) (by decide) (by decide)
  | give mask => exact brings_owner g (touches_giveAuthority n _) (by decide) (by decide)
  | testAnnounce mask message => exact brings_owner g (touches_takeTest message _) (by decide) (by decide)
  | liftRestore bank => exact brings_owner g (touches_restoreBank _) (by decide) (by decide)

/-! ### The merge of a STATUS -/

theorem holds_checkParameters (a d : Nat) (s : State) : s.Holds (s.checkParameters a d) := by
  have h := holds_updBase a (fun b => { b with paramDisagree := d != s.station.digest }) s
  exact .ite (h.trans ((touches_raise _ _ _).holds (by decide)))
    (.ite (h.trans ((touches_clearFault _ _ _).holds (by decide))) h)

theorem holds_checkPhase (f : Nat) (s : State) : s.Holds (s.checkPhase f) := by
  have h (g : FloorEntry → FloorEntry) (hz : ∀ e, (g e).zones = e.zones)
      (hl : ∀ e, (g e).alarmLatch = e.alarmLatch ∧ (g e).lobbyLatch = e.lobbyLatch) :
      s.Holds { s with peers := s.peers.updFloor f g } :=
    holds_updFloor f s (fun _ => hz) fun e => ⟨fun ha => (hl e).1.trans ha, fun hb => (hl e).2.trans hb⟩
  unfold State.checkPhase
  dsimp only
  exact .ite ((h _ (by intro; rfl) (by intro; exact ⟨rfl, rfl⟩)).trans ((touches_clearFault _ _ _).holds (by decide)))
    (.ite ((h _ (by intro; rfl) (by intro; exact ⟨rfl, rfl⟩)).trans ((touches_raise _ _ _).holds (by decide)))
      (h _ (fun _ => rfl) fun _ => ⟨rfl, rfl⟩))

theorem holds_refresh (a : Nat) (r : StatusRecord) (s : State) : s.Holds (s.refresh a r) :=
  .ite ((holds_updBase a _ s).trans ((touches_clearFault _ _ _).holds (by decide))) (holds_updBase a _ s)

theorem holds_settleSilence (a : Nat) (s : State) : s.Holds (s.settleSilence a) :=
  .ite ((holds_updBase a _ s).trans ((touches_raise _ _ _).holds (by decide))) (.refl s)

theorem holds_takeBody (a : Nat) (body : StatusBody) (s : State) :
    s.Holds { s with peers := s.peers.takeBody a body } := by
  cases body with
  | floor => exact holds_updFloor a s (fun _ _ => rfl) fun _ => ⟨id, id⟩
  | lift => exact holds_bases fun f _ => ⟨_, rfl⟩
  | console => exact holds_bases fun f _ => ⟨_, rfl⟩

/-- A stored ALARM goes for nothing but DISABLED, and no latch is cleared (R81, R82). -/
theorem latchesHeld_mergeFloor (f : Nat) (received : Tab ZoneReport 8) (s : State) :
    s.latchesHeld (s.mergeFloor f received) := by
  let merged : State := { s with peers := s.peers.updFloor f (fun x =>
    { x.mergeZones received with
      alarmLatch := x.alarmLatch || alarmReceived received,
      lobbyLatch := x.lobbyLatch || s.image.lobbyReceived f received }) }
  have hmerged : s.latchesHeld merged := by
    refine ⟨fun _ _ => .inl, fun k hk _ z hz ha => ?_, fun k hk => ?_, fun _ _ => id⟩
    all_goals
      have hread : merged.floorEntry k = if k = f then _ else _ := floor_updFloor s.peers f _ hk
      rw [hread]
      split
    · dsimp only [FloorEntry.mergeZones]
      rw [Tab.at_mapIdx (d := ZoneReport.quiet) (h := hz)]
      change (ZoneReport.state (((s.floorEntry k).zones).at z ZoneReport.quiet)) = _ at ha
      unfold mergeZone
      by_cases hd : (received.at z ZoneReport.quiet).state = .disabled
      · exact .inr (by simp [hd])
      · exact .inl (by rw [if_pos ⟨ha, hd⟩])
    · exact .inl ha
    · exact ⟨fun ha => Bool.or_eq_true_iff.2 (.inl ha), fun hl => Bool.or_eq_true_iff.2 (.inl hl)⟩
    · exact ⟨id, id⟩
  unfold State.mergeFloor
  dsimp only
  split
  · exact State.Holds.after (t := merged) rfl hmerged ((touches_latchOrigin f merged).holds (by decide))
  · exact hmerged

theorem brings_mergeContent (a : Nat) (r : StatusRecord) (s : State) : s.Brings (s.mergeContent a r) := by
  have hcurrent := (holds_updBase a (fun b => { b with standing := .current }) s)
  unfold State.mergeContent
  split
  · rename_i phase _ _ _ zones _ _ _
    have hfloor : s.Brings ((s.setStanding a .current).mergeFloor a zones) :=
      hcurrent.thenBrings rfl ⟨(touches_mergeFloor a zones _).address_eq (by decide), .inr (latchesHeld_mergeFloor a zones _)⟩
    have hintake := hfloor.touches (touches_intake r _) (by decide) (by decide)
    have hphase (t : State) : t.Holds { t with peers := t.peers.updFloor a fun e => { e with phase := phase } } :=
      holds_updFloor a t (fun _ _ => rfl) fun _ => ⟨id, id⟩
    have halarms (t : State) (was : Bool) : t.Holds (t.ownAlarms was) := .ite (holds_zonesActivated t) (.refl t)
    have hnews := (hintake.andThen (hphase _) rfl).andThen (halarms _ s.regime.active)
      ((touches_ownAlarms _ _).generation_eq (by decide))
    dsimp only
    exact brings_ite (fun _ => hnews)
      fun _ => hnews.andThen (holds_checkPhase a _) ((touches_checkPhase a _).generation_eq (by decide))
  · exact (hcurrent.trans ((touches_intake r _).holds (by decide))).brings

theorem mergeContent_generation (a : Nat) (r : StatusRecord) (s : State) :
    (s.mergeContent a r).regime.generation = s.regime.generation :=
  (touches_mergeContent a r s).generation_eq (by decide)

theorem brings_mergeWindow (a : Nat) (g : Byte) (r : StatusRecord) (s : State) : s.Brings (s.mergeWindow a g r) := by
  unfold State.mergeWindow
  refine brings_ite (fun _ => brings_mergeContent a r s) fun _ => ?_
  split
  · rename_i hnone
    have hfirst := brings_mergeContent a r (s.firstAdoption g)
    refine ⟨hfirst.address, .inr ?_⟩
    refine ((touches_firstAdoption g s).holds (by decide)).before (hfirst.held.resolve_left fun hp => ?_)
    exact hp.2 (mergeContent_generation a r _)
  · rename_i own hown
    refine brings_ite (fun _ => brings_mergeContent a r s) fun hne => brings_ite (fun _ => ?_) fun _ => ?_
    · refine ⟨((touches_mergeContent a r _).address_eq (by decide)).trans ((touches_adoptNewer g s).address_eq (by decide)),
        .inl (passed_of_newer hown (Nat.one_le_iff_ne_zero.2 hne) ?_)⟩
      exact (mergeContent_generation a r _).trans (adoptNewer_generation g s)
    · exact (holds_updBase a _ s).brings

theorem brings_merge (a : Nat) (g : Byte) (r : StatusRecord) (s : State) : s.Brings (s.merge a g r) := by
  have hrefreshed := ((holds_settleSilence a s).trans (holds_refresh a r _)).trans (holds_checkParameters a r.digest _)
  refine (hrefreshed.trans (holds_takeBody a r.body _)).thenBrings ?_ (brings_mergeWindow a g r _)
  exact ((touches_checkParameters a r.digest _).generation_eq (by decide)).trans
    (((touches_refresh a r _).generation_eq (by decide)).trans ((touches_settleSilence a s).generation_eq (by decide)))

/-! ### Reception and completion -/

theorem brings_takeStatusFrame (f : Frame) (s : State) : s.Brings (s.takeStatusFrame f) := by
  unfold State.takeStatusFrame
  split
  · exact brings_merge _ _ _ s
  · exact ((touches_setAside s).holds (by decide)).brings

theorem brings_handOn (f : Frame) (w : Word16) (s : State) : s.Brings (s.handOn f w) := by
  unfold State.handOn
  split
  · exact brings_takeStatusFrame f s
  · exact brings_takeStatusFrame f s
  · exact brings_takeStatusFrame f s
  · unfold State.takeCommandFrame
    split
    · exact brings_obey _ _ _ s
    · exact ((touches_setAside s).holds (by decide)).brings
  · unfold State.takeMarkFrame
    split
    · exact ((touches_followMark _ _ w s).holds (by decide)).brings
    · exact ((touches_setAside s).holds (by decide)).brings
  · exact (State.Holds.refl s).brings

theorem touches_countAccepted (s : State) : Touches [.line, .lineLamp] s s.countAccepted :=
  (touches_line { s.line with accepted := bump16 s.line.accepted } s).andThen (touches_lineLamp (Timer.start 5) _)
    (by decide) (by decide)

theorem brings_rxAct (e : RxEvent) (s : State) : s.Brings (s.rxAct State.handOn e) := by
  by_cases haccepted : ∃ f t, e = .accepted f t
  · obtain ⟨f, t, rfl⟩ := haccepted
    have hcount := touches_countAccepted s
    refine (hcount.holds (by decide)).thenBrings (hcount.generation_eq (by decide)) ?_
    refine brings_ite (fun _ => ((touches_duplicateHeard _).holds (by decide)).brings) fun _ =>
      brings_ite (fun _ => ((touches_raiseAtOnce _ _ _).holds (by decide)).brings) fun _ => brings_handOn f t _
  · exact ((touches_discard (fun f t h => haccepted ⟨f, t, h⟩) _ s).holds (by decide)).brings

theorem holds_statusCompleted (s : State) : s.Holds s.statusCompleted := by
  have hzone (k : Kept) (z : Zone) : (z.reported k).state = z.state := by
    unfold Zone.reported
    split <;> rfl
  have hstair (k : Kept) (x : Stair) : (x.reported k).release = x.release := by
    unfold Stair.reported
    split <;> rfl
  unfold State.statusCompleted
  split
  · exact ⟨rfl, fun _ _ => ⟨id, id⟩, fun _ _ _ => rfl, fun _ _ => ⟨id, id⟩, fun _ _ => id⟩
  · rename_i k _
    have hzones := holds_zones (s := s) (q := s.zones.mapIdx fun i z => z.reported (k.zones.at i Kept.none))
      fun z hz => by rw [Tab.at_mapIdx (h := hz), hzone]; rfl
    refine (hzones.trans (holds_stairs (q := s.stairs.mapIdx fun i x => x.reported (k.stairs.at i Kept.none))
      fun i hi hr => ?_)).trans ⟨rfl, fun _ _ => ⟨id, id⟩, fun _ _ _ => rfl, fun _ _ => ⟨id, id⟩, fun _ _ => id⟩
    rw [Tab.at_mapIdx (h := hi), hstair]
    exact hr

theorem brings_applyOwn (e : CommandEntry) (s : State) : s.Brings (s.applyOwn e) := by
  unfold State.applyOwn
  split
  · exact brings_obey 0 _ .general s
  · exact brings_obey 0 _ (.hold _) s
  · exact brings_obey 0 _ (.resume _) s
  · exact brings_obey 0 _ (.silence _) s
  · exact brings_obey 0 _ (.resound _) s
  · exact brings_obey 0 _ .allClear s
  · exact ((touches_ownTake _ _ s).holds (by decide)).brings
  · exact ((touches_ownGive _ s).holds (by decide)).brings
  · exact (State.Holds.refl s).brings

theorem brings_commandCompleted (e : CommandEntry) (s : State) : s.Brings (s.commandCompleted e) :=
  brings_ite (fun _ =>
    ((touches_link { s.link with result := { s.link.result with outcome := .sent, reason := .none } } s).holds
      (by decide)).thenBrings rfl (brings_applyOwn e _))
    fun _ => (State.Holds.refl s).brings

/-- What the end of any flight does before its owner is told (R35, R173). -/
def State.landed (slot : SlotId) (f : Frame) (s : State) : State :=
  State.clearFault .frameDropped f.code { s.release with
    line := { s.release.line with sent := bump16 s.release.line.sent }, slots := s.release.slots.remove slot }

theorem complete_eq (slot : SlotId) (f : Frame) (s : State) :
    s.complete slot f = State.ownerCompleted slot s.slots.fifo.head? (s.landed slot f) := rfl

theorem touches_landed (slot : SlotId) (f : Frame) (s : State) : Touches Part.aloof s (s.landed slot f) := by
  have hrelease := (touches_release s).mono (qs := Part.aloof) (by decide)
  have hslots := (touches_slots (s.release.slots.remove slot) s.release).mono (qs := Part.aloof) (by decide)
  have hline (t : State) := (touches_line { t.line with sent := bump16 t.line.sent } t).mono (qs := Part.aloof) (by decide)
  exact ((hrelease.trans hslots).trans (hline _)).trans ((touches_clearFault .frameDropped f.code _).mono (by decide))

theorem brings_complete (slot : SlotId) (f : Frame) (s : State) : s.Brings (s.complete slot f) := by
  have hlanded := touches_landed slot f s
  rw [complete_eq]
  refine (hlanded.holds (by decide)).thenBrings (hlanded.generation_eq (by decide)) ?_
  unfold State.ownerCompleted
  split
  · exact (holds_statusCompleted _).brings
  · exact brings_commandCompleted _ _
  · exact (State.Holds.refl _).brings

theorem State.News.brings {s t : State} (h : s.News t) : s.Brings t := by
  cases h with
  | received e => exact (brings_rxAct e s).andThen (holds_finish _ s) (finish_generation _ s)
  | completed slot f => exact (brings_complete slot f s).andThen (holds_finish _ s) (finish_generation _ s)

/-! ### Every command -/

/-- Turns of the station's own, without news. -/
theorem State.Runs.holds {s t : State} (h : s.Runs 0 t) :
    s.Holds t ∧ t.regime.generation = s.regime.generation := by
  generalize hn : 0 = n at h
  induction h with
  | refl => exact ⟨.refl s, rfl⟩
  | turn _ k ih => exact ⟨(ih hn).1.trans k.holds, k.generation.trans (ih hn).2⟩
  | news => cases hn

theorem State.Runs.brings {s t : State} {n : Nat} (h : s.Runs n t) (hn : n ≤ 1) : s.Brings t := by
  induction h with
  | refl => exact (State.Holds.refl s).brings
  | turn _ k ih => exact (ih hn).andThen k.holds k.generation
  | news h k ih =>
    obtain rfl : _ = 0 := Nat.le_zero.1 (Nat.le_of_succ_le_succ hn)
    exact h.holds.1.thenBrings h.holds.2 k.brings

theorem brings_tick (pins : Inputs) (s : State) : s.Brings (s.after (.tick pins)) := by
  by_cases hl : s.station.lifecycle = .reset
  · rw [after_tick_of_reset hl]
    exact (State.Holds.refl s).brings
  · rw [after_tick hl]
    exact ((runs_settle s).holds.1.trans (holds_tickEvent pins _)).brings

theorem loopback_latches (s : State) (f : Nat) : (s.loopback.floorEntry f).alarmLatch = (s.floorEntry f).alarmLatch
    ∧ (s.loopback.floorEntry f).lobbyLatch = (s.floorEntry f).lobbyLatch := by
  by_cases h : s.station.role = some .floor ∧ f = s.station.address ∧ f < 48
  · obtain ⟨hrole, hown, hf⟩ := h
    have hread : s.loopback.floorEntry f = s.ownFloor (s.floorEntry f) := by
      subst hown
      simp only [State.loopback, hrole]
      exact floorEntry_updFloor_self s _ _ hf
    rw [hread]
    exact ⟨rfl, rfl⟩
  · have hread : s.loopback.floorEntry f = s.floorEntry f := by
      by_cases hf : f < 48
      · exact loopback_floorEntry s f fun hrole hown => h ⟨hrole, hown, hf⟩
      · rw [State.floorEntry, State.floorEntry, Tab.at_out _ _ _ (Nat.le_of_not_lt hf),
          Tab.at_out _ _ _ (Nat.le_of_not_lt hf)]
    rw [hread]
    exact ⟨rfl, rfl⟩

/-- A station that does not act has no alarm, no latch and no release. -/
theorem latchesHeld_of_dormant {s : State} (hd : s.dormantLaw) (ha : s.acts = false) (t : State) : s.latchesHeld t := by
  generalize hu : ({ State.reset with
    pending := s.pending, pins := s.pins, time := s.time, station := s.station,
    lamps := { Lamps.off with haltLit := s.lamps.haltLit, haltFlash := s.lamps.haltFlash } } : State) = u
  have hs : s = u.loopback := hu ▸ hd ha
  have htouch := touches_loopback u
  have hzone (z : Nat) : s.zone z = Zone.atReset .unused := by
    rw [hs, State.zone, htouch.zones_eq (by decide), ← hu]
    exact reset_zone z
  have hstair (i : Nat) : s.stair i = Stair.atReset false 0 := by
    rw [hs, State.stair, htouch.stairs_eq (by decide), ← hu]
    exact reset_stair i
  have hfloor (f : Nat) : u.floorEntry f = FloorEntry.atReset := by
    rw [← hu]
    exact reset_floorEntry f
  have hlatch (f : Nat) : (s.floorEntry f).alarmLatch = false ∧ (s.floorEntry f).lobbyLatch = false := by
    rw [hs, (loopback_latches u f).1, (loopback_latches u f).2, hfloor]
    exact ⟨rfl, rfl⟩
  refine ⟨fun z _ h => ?_, fun f _ hne z _ h => ?_, fun f _ => ⟨fun h => ?_, fun h => ?_⟩, fun i _ h => ?_⟩
  · rw [hzone] at h
    cases h
  · have hother : s.floorEntry f = FloorEntry.atReset := by
      have haddress : u.station.address = s.station.address := by rw [← hu]
      rw [hs, loopback_floorEntry u f fun _ => haddress ▸ hne, hfloor]
    rw [hother, FloorEntry.atReset, Tab.at_fill] at h
    cases h
  · rw [(hlatch f).1] at h
    cases h
  · rw [(hlatch f).2] at h
    cases h
  · rw [hstair] at h
    cases h

/-- Settles O49: each turn of the station's own holds every alarm and latch; news leaves them within the law or brings
a newer generation, and a command brings one news at most. -/
theorem latchesHoldUntilTheAllClear : Obligations.LatchesHoldUntilTheAllClear := by
  have hbrings {s t : State} (h : s.Brings t)
      (hg : s.regime.generation = none ∨ t.regime.generation = s.regime.generation) : s.latchesHeld t :=
    h.held.resolve_left fun hp => hg.elim hp.1 hp.2
  refine ⟨fun c s t hs hone hexec hreset hload hg => ?_, fun e s _ hacts hg => ?_⟩
  · obtain rfl : s.after c = t := by rw [exec_eq_after] at hexec; exact Host.Outcome.next.inj hexec
    cases hacts : s.acts with
    | false => exact latchesHeld_of_dormant hs.1 hacts _
    | true =>
      by_cases htick : ∃ pins, c = .tick pins
      · obtain ⟨pins, rfl⟩ := htick
        exact hbrings (brings_tick pins s) hg
      · cases hstart : startsUp c with
        | true =>
          rw [after_startsUp_of_acts hacts hstart hreset]
          exact (State.Holds.refl s).latchesHeld
        | false =>
          obtain ⟨n, hruns, hn⟩ := runs_after hstart (fun pins h => htick ⟨pins, h⟩) s
          exact hbrings (hruns.brings (hn hone)) hg
  · exact hbrings (State.News.brings (.received e hacts)) hg

end Sys2Proof.Machine
end

section
/-! ## The laws of one zone, stair, car and floor entry, under each operation on it -/

namespace Sys2Proof.Machine

/-! ### Zones (R56, R58, R63) -/

/-- The run of samples and the stage timer of a zone record. -/
structure Zone.Timed (z : Zone) : Prop where
  run : z.run ≤ 4
  runs : z.inStage = true → z.stage.isSome = true
  stopped : z.inStage = false → z.state ≠ .verifyConfirm → z.stage = none

/-- A zone record as a station of this role keeps it. -/
def Zone.Stands (role : Option Role) (kind : ZoneKind) (z : Zone) : Prop :=
  z.kind = kind ∧ z.count ≤ 255 ∧ z.Timed ∧ (role ≠ some .floor ∨ kind = .unused → z = Zone.atReset kind)

theorem Zone.timed_atReset (kind : ZoneKind) : (Zone.atReset kind).Timed :=
  ⟨Nat.zero_le 4, nofun, fun _ _ => rfl⟩

theorem Zone.stands_iff (role : Option Role) (kind : ZoneKind) (z : Zone) :
    z.Stands role kind ↔ z.lawful kind ∧ (role ≠ some .floor → z = Zone.atReset kind) := by
  constructor
  · rintro ⟨hkind, hcount, ⟨hrun, hruns, hstopped⟩, haside⟩
    exact ⟨⟨hkind, hrun, hcount, fun h => by rw [haside (.inr h), h], hruns, hstopped⟩, fun h => haside (.inl h)⟩
  · rintro ⟨⟨hkind, hrun, hcount, hunused, hruns, hstopped⟩, haside⟩
    refine ⟨hkind, hcount, ⟨hrun, hruns, hstopped⟩, fun h => ?_⟩
    rcases h with h | rfl
    · exact haside h
    · exact hunused rfl

theorem Zone.stands_atReset (role : Option Role) (kind : ZoneKind) : (Zone.atReset kind).Stands role kind :=
  ⟨rfl, Nat.zero_le 255, Zone.timed_atReset kind, fun _ => rfl⟩

theorem Zone.supervised_iff (z : Zone) : z.supervised = true ↔ z.kind ≠ .unused := by simp [Zone.supervised]

/-- A supervised zone of a FLOOR station may change within its timing. -/
theorem Zone.Stands.change {kind : ZoneKind} {z new : Zone} (h : z.Stands (some .floor) kind)
    (hsupervised : z.supervised = true) (hkind : new.kind = z.kind) (hcount : new.count ≤ 255) (htimed : new.Timed) :
    new.Stands (some .floor) kind := by
  refine ⟨hkind.trans h.1, hcount, htimed, fun haside => ?_⟩
  rcases haside with haside | rfl
  · exact absurd rfl haside
  · exact absurd h.1 ((Zone.supervised_iff z).1 hsupervised)

theorem wrapCount_le (n k : Nat) : wrapCount n k ≤ 255 := Nat.le_of_lt_succ (Nat.mod_lt _ (by decide))

theorem Zone.Timed.account {old new : Zone} (extra : Nat) (h : new.Timed) : (old.account extra new).Timed :=
  ⟨h.run, h.runs, h.stopped⟩

theorem Zone.inStage_iff (z : Zone) : z.inStage = true ↔ z.state = .verifyReset ∨ z.state = .verifySettle := by
  simp [Zone.inStage]

/-- A zone whose state has no timer, and no timer. -/
theorem Zone.timed_of_stopped {z : Zone} (hrun : z.run ≤ 4) (hstage : z.stage = none)
    (hstate : z.state ≠ .verifyReset ∧ z.state ≠ .verifySettle) : z.Timed :=
  ⟨hrun, fun h => ((Zone.inStage_iff z).1 h).elim (absurd · hstate.1) (absurd · hstate.2), fun _ _ => hstage⟩

/-- Only the end of VERIFY-RESET leads into VERIFY-SETTLE (R63). -/
theorem Zone.nextState_ne_settle {active : Bool} {c : LoopClass} {z : Zone} (h : z.state ≠ .verifySettle) :
    z.nextState active c ≠ .verifySettle := by
  unfold Zone.nextState
  split
  case h_3 => split <;> [nofun; (split <;> nofun); nofun]
  case h_4 => exact h
  all_goals split <;> [(split <;> nofun); nofun; nofun]

theorem Zone.stage_acceptClass (active : Bool) (c : LoopClass) (z : Zone) : (z.acceptClass active c).stage
    = if z.nextState active c = .verifyReset then Timer.start verifyResetTicks
      else if z.nextState active c = .verifyConfirm then z.stage else none := rfl

theorem Zone.Timed.acceptClass {z : Zone} (h : z.Timed) (active : Bool) (c : LoopClass)
    (hstate : z.inStage = false) : (z.acceptClass active c).Timed := by
  rw [Bool.eq_false_iff, Ne, Zone.inStage_iff, not_or] at hstate
  have hnext : (z.acceptClass active c).state = z.nextState active c := rfl
  refine ⟨h.run, fun hin => ?_, fun hin hne => ?_⟩
  · have hreset := ((Zone.inStage_iff _).1 hin).resolve_right (Zone.nextState_ne_settle hstate.2)
    rw [Zone.stage_acceptClass, if_pos (hnext ▸ hreset)]
    rfl
  · rw [Bool.eq_false_iff, Ne, Zone.inStage_iff, not_or] at hin
    rw [Zone.stage_acceptClass, if_neg (hnext ▸ hin.1), if_neg (hnext ▸ hne)]

theorem Zone.inStage_of_classified {z : Zone} (h : z.classified = true) : z.inStage = false := by
  obtain ⟨-, hstate⟩ := (Zone.classified_iff z).1 h
  cases hs : z.state <;> simp_all [Zone.inStage]

theorem Zone.Timed.stageExpired {z : Zone} (h : z.Timed) (active : Bool) (hstage : z.inStage = true) :
    (z.stageExpired active).Timed := by
  unfold Zone.stageExpired
  rcases (Zone.inStage_iff z).1 hstage with hs | hs <;> rw [hs]
  · exact ⟨h.run, fun _ => rfl, nofun⟩
  · exact ⟨Nat.zero_le 4, nofun, fun _ hne => absurd rfl hne⟩

theorem Zone.Timed.confirmExpired {z : Zone} (h : z.Timed) : z.confirmExpired.Timed :=
  Zone.timed_of_stopped h.run rfl (by simp [Zone.confirmExpired])

theorem Zone.Timed.disable {z : Zone} (h : z.Timed) : z.disable.Timed :=
  Zone.timed_of_stopped h.run rfl (by simp [Zone.disable])

theorem Zone.Timed.enable {z : Zone} (h : z.Timed) (hstate : z.state = .disabled) : z.enable.Timed :=
  Zone.timed_of_stopped (Nat.zero_le 4)
    (h.stopped (by rw [Bool.eq_false_iff, Ne, Zone.inStage_iff]; simp [hstate]) (by simp [hstate])) (by simp [Zone.enable])

theorem Zone.Timed.allClear {z : Zone} (h : z.Timed) : z.allClear.Timed := by
  unfold Zone.allClear
  dsimp only
  split
  case h_5 => exact h
  all_goals
    refine Zone.timed_of_stopped ?_ rfl ⟨by simp, by simp⟩
    dsimp only
    split_ifs <;> simp [Zone.restart]

theorem Zone.kind_allClear (z : Zone) : z.allClear.kind = z.kind := by
  unfold Zone.allClear Zone.restart
  dsimp only
  split <;> (try split_ifs) <;> rfl

theorem Zone.kind_stageExpired (active : Bool) (z : Zone) : (z.stageExpired active).kind = z.kind := by
  unfold Zone.stageExpired Zone.restart
  split <;> rfl

theorem Zone.Timed.sample {z : Zone} (h : z.Timed) (c : LoopClass) : (z.sample c).Timed := by
  obtain ⟨hstate, -, hstage, -, hrun⟩ := Zone.sample_eq c z
  have hin : (z.sample c).inStage = z.inStage := by rw [Zone.inStage, Zone.inStage, hstate]
  refine ⟨?_, fun hi => ?_, fun hi hne => ?_⟩
  · rw [hrun]
    split_ifs
    · exact Nat.min_le_left 4 _
    · decide
  · rw [hstage]
    exact h.runs (hin ▸ hi)
  · rw [hstage]
    exact h.stopped (hin ▸ hi) (hstate ▸ hne)

/-! ### Stairs (R114, R119, R121) -/

/-- A stair record as a station of this role keeps it, within an event. -/
def Stair.Stands (role : Option Role) (present : Bool) (minterm : Nat) (x : Stair) : Prop :=
  x.present = present ∧ x.minterm = minterm ∧ x.count ≤ 255
  ∧ (role ≠ some .floor ∨ present = false → x = Stair.atReset present minterm)

/-- What the end of every event gives a present stair: the state of its record, and a release that unlocks. -/
def Stair.Shown (x : Stair) : Prop := x.present = true → x.state = x.derived ∧ (x.release = true → x.unlock = true)

theorem Stair.stands_atReset (role : Option Role) (present : Bool) (minterm : Nat) :
    (Stair.atReset present minterm).Stands role present minterm := ⟨rfl, rfl, Nat.zero_le 255, fun _ => rfl⟩

theorem Stair.lawful_iff (role : Option Role) (present : Bool) (minterm : Nat) (x : Stair) :
    x.Stands role present minterm ∧ x.Shown
      ↔ x.lawful present minterm ∧ (role ≠ some .floor → x = Stair.atReset present minterm) := by
  constructor
  · rintro ⟨⟨hpresent, hminterm, hcount, haside⟩, hshown⟩
    exact ⟨⟨hpresent, hminterm, hcount, fun h => by rw [haside (.inr h), h], fun h => hshown (hpresent.trans h)⟩,
      fun h => haside (.inl h)⟩
  · rintro ⟨⟨hpresent, hminterm, hcount, habsent, hshown⟩, haside⟩
    refine ⟨⟨hpresent, hminterm, hcount, fun h => ?_⟩, fun h => hshown (hpresent.symm.trans h)⟩
    rcases h with h | rfl
    · exact haside h
    · exact habsent rfl

/-- A present stair of a FLOOR station may change beside its presence and its mask. -/
theorem Stair.Stands.change {present : Bool} {minterm : Nat} {x new : Stair}
    (h : x.Stands (some .floor) present minterm) (hhere : x.present = true)
    (hlines : new.present = x.present ∧ new.minterm = x.minterm) (hcount : new.count ≤ 255) :
    new.Stands (some .floor) present minterm := by
  refine ⟨hlines.1.trans h.1, hlines.2.trans h.2.1, hcount, fun haside => ?_⟩
  rcases haside with haside | rfl
  · exact absurd rfl haside
  · rw [h.1] at hhere
    cases hhere

theorem Stair.count_react {demand cleared became : Bool} {limit : Nat} {x : Stair} (h : x.count ≤ 255) :
    (x.react demand cleared became limit).count ≤ 255 := by
  have hcheck : (x.drive demand).check.count = x.count := by
    unfold Stair.check
    split_ifs <;> rfl
  have hheld : ((x.drive demand).check.heldOpenReact cleared became limit).count = x.count := by
    unfold Stair.heldOpenReact
    dsimp only
    split_ifs <;> exact hcheck
  unfold Stair.react Stair.settle
  split_ifs
  · rw [hheld]
    exact h
  · exact wrapCount_le _ _
  · exact h

/-- The comparison and the held-open timer change neither release nor unlock. -/
theorem Stair.drive_through (demand cleared became : Bool) (limit : Nat) (x : Stair) :
    let y := (x.drive demand).check.heldOpenReact cleared became limit
    y.release = (x.drive demand).release ∧ y.unlock = (x.drive demand).unlock
      ∧ y.feedbackFault = (x.drive demand).check.feedbackFault ∧ y.mismatch = (x.drive demand).check.mismatch := by
  have hcheck (x : Stair) : x.check.release = x.release ∧ x.check.unlock = x.unlock := by
    unfold Stair.check
    split_ifs <;> exact ⟨rfl, rfl⟩
  have hheld (x : Stair) : let y := x.heldOpenReact cleared became limit
      y.release = x.release ∧ y.unlock = x.unlock ∧ y.feedbackFault = x.feedbackFault ∧ y.mismatch = x.mismatch := by
    unfold Stair.heldOpenReact
    dsimp only
    split_ifs <;> exact ⟨rfl, rfl, rfl, rfl⟩
  obtain ⟨hr, hu, hf, hm⟩ := hheld (x.drive demand).check
  exact ⟨hr.trans (hcheck _).1, hu.trans (hcheck _).2, hf, hm⟩

/-- The state at the end is the one that the record gives, and the rest of the record stays. -/
theorem Stair.settle_eq (x : Stair) :
    x.settle.release = x.release ∧ x.settle.unlock = x.unlock ∧ x.settle.feedbackFault = x.feedbackFault
      ∧ x.settle.mismatch = x.mismatch ∧ x.settle.state = x.derived ∧ x.settle.derived = x.derived := by
  unfold Stair.settle
  split
  · exact ⟨rfl, rfl, rfl, rfl, (‹x.derived = x.state›).symm, rfl⟩
  · exact ⟨rfl, rfl, rfl, rfl, rfl, rfl⟩

theorem Stair.react_eq {demand cleared became : Bool} {limit : Nat} {x : Stair} (h : x.present = true) :
    let y := x.react demand cleared became limit
    y.release = (x.drive demand).release ∧ y.unlock = (x.drive demand).unlock
      ∧ y.feedbackFault = (x.drive demand).check.feedbackFault ∧ y.mismatch = (x.drive demand).check.mismatch
      ∧ y.state = y.derived := by
  obtain ⟨hr, hu, hf, hm⟩ := Stair.drive_through demand cleared became limit x
  obtain ⟨kr, ku, kf, km, ks, kd⟩ := Stair.settle_eq ((x.drive demand).check.heldOpenReact cleared became limit)
  unfold Stair.react
  rw [if_pos h]
  exact ⟨kr.trans hr, ku.trans hu, kf.trans hf, km.trans hm, ks.trans kd.symm⟩

theorem Stair.present_react (demand cleared became : Bool) (limit : Nat) (x : Stair) :
    (x.react demand cleared became limit).present = x.present ∧ (x.react demand cleared became limit).minterm = x.minterm :=
  have h := Stair.of_lines (Stair.lines_react demand cleared became limit x)
  ⟨h.1, h.2.1⟩

theorem Stair.shown_react (demand cleared became : Bool) (limit : Nat) (x : Stair) :
    (x.react demand cleared became limit).Shown := by
  intro hpresent
  rw [(Stair.present_react demand cleared became limit x).1] at hpresent
  obtain ⟨hrelease, hunlock, -, -, hstate⟩ := Stair.react_eq (demand := demand) (cleared := cleared) (became := became)
    (limit := limit) hpresent
  refine ⟨hstate, fun h => ?_⟩
  rw [hrelease] at h
  rw [hunlock]
  change (_ || _) = true
  change (x.release || demand) = true at h
  rw [Bool.or_eq_true]
  exact .inl h

/-! ### Cars (R126 to R139) -/

/-- The law of a car record, without presence. -/
structure Car.Ordered (c : Car) : Prop where
  count : c.count ≤ 255
  target : c.target = .none ↔ c.state = .normal
  timer : c.recallTimer.isSome = true ↔ c.state = .recalling
  late : c.state = .normal → c.late = false
  fault : c.inputFault = (c.atPrimary.accepted && c.atAlternate.accepted)
  restore : c.restorePending = true → c.state = .firefighter

/-- A car record as a station of this role keeps it. -/
def Car.Stands (role : Option Role) (present : Bool) (c : Car) : Prop :=
  c.present = present ∧ c.Ordered ∧ (role ≠ some .lift ∨ present = false → c = Car.atReset present)

theorem Car.ordered_atReset (present : Bool) : (Car.atReset present).Ordered :=
  ⟨Nat.zero_le 255, ⟨fun _ => rfl, fun _ => rfl⟩, ⟨nofun, nofun⟩, fun _ => rfl, rfl,
    nofun⟩

theorem Car.stands_atReset (role : Option Role) (present : Bool) : (Car.atReset present).Stands role present :=
  ⟨rfl, Car.ordered_atReset present, fun _ => rfl⟩

theorem Car.stands_iff (role : Option Role) (present : Bool) (c : Car) :
    c.Stands role present ↔ c.lawful present ∧ (c.restorePending = true → c.state = .firefighter)
      ∧ (role ≠ some .lift → c = Car.atReset present) := by
  constructor
  · rintro ⟨hpresent, ⟨hcount, htarget, htimer, hlate, hfault, hrestore⟩, haside⟩
    exact ⟨⟨hpresent, hcount, fun h => by rw [haside (.inr h), h], htarget, htimer, hlate, hfault⟩, hrestore,
      fun h => haside (.inl h)⟩
  · rintro ⟨⟨hpresent, hcount, habsent, htarget, htimer, hlate, hfault⟩, hrestore, haside⟩
    refine ⟨hpresent, ⟨hcount, htarget, htimer, hlate, hfault, hrestore⟩, fun h => ?_⟩
    rcases h with h | rfl
    · exact haside h
    · exact habsent rfl

theorem Car.Stands.change {present : Bool} {c new : Car} (h : c.Stands (some .lift) present) (hhere : c.present = true)
    (hpresent : new.present = c.present) (hordered : new.Ordered) : new.Stands (some .lift) present := by
  refine ⟨hpresent.trans h.1, hordered, fun haside => ?_⟩
  rcases haside with haside | rfl
  · exact absurd rfl haside
  · rw [h.1] at hhere
    cases hhere

/-- Every change of a car is accounted: its count stays a byte. -/
theorem Car.ordered_account {old new : Car} (htarget : new.target = .none ↔ new.state = .normal)
    (htimer : new.recallTimer.isSome = true ↔ new.state = .recalling) (hlate : new.state = .normal → new.late = false)
    (hfault : new.inputFault = (new.atPrimary.accepted && new.atAlternate.accepted))
    (hrestore : new.restorePending = true → new.state = .firefighter) : (old.account new).Ordered :=
  ⟨wrapCount_le _ _, htarget, htimer, hlate, hfault, hrestore⟩

/-- A car bound for a floor, with no restore pending and its input fault as its inputs give it. -/
structure Car.Bound (c : Car) : Prop where
  target : c.target ≠ .none
  fault : c.inputFault = (c.atPrimary.accepted && c.atAlternate.accepted)
  restore : c.restorePending = false

theorem Car.Ordered.bound {c : Car} (h : c.Ordered) (hstate : c.state ≠ .normal) (hrestore : c.restorePending = false) :
    c.Bound := ⟨fun ht => hstate (h.target.1 ht), h.fault, hrestore⟩

/-- A car out of FIREFIGHTER has no restore pending. -/
theorem Car.Ordered.idle {c : Car} (h : c.Ordered) (hstate : c.state ≠ .firefighter) : c.restorePending = false :=
  Bool.eq_false_iff.2 fun hp => hstate (h.restore hp)

theorem Car.Ordered.tryFirefighter {c : Car} (h : c.Ordered) (hstate : c.state ≠ .normal) : c.tryFirefighter.Ordered := by
  unfold Car.tryFirefighter
  split
  · exact Car.ordered_account ⟨fun ht => absurd (h.target.1 ht) hstate, nofun⟩
      ⟨nofun, nofun⟩ nofun h.fault fun _ => rfl
  · exact h

theorem Car.Bound.park {c : Car} (h : c.Bound) : c.park.Ordered := by
  refine Car.Ordered.tryFirefighter (Car.ordered_account ⟨fun ht => absurd ht h.target, nofun⟩
    ⟨nofun, nofun⟩ nofun h.fault fun hp => ?_) (by simp [Car.account])
  rw [h.restore] at hp
  cases hp

theorem Car.Bound.lose {c : Car} (h : c.Bound) : c.lose.Ordered :=
  Car.ordered_account ⟨fun ht => absurd ht h.target, nofun⟩
    ⟨nofun, nofun⟩ nofun h.fault
    fun hp => by rw [h.restore] at hp; cases hp

theorem Car.ordered_release {c : Car} (hfault : c.inputFault = (c.atPrimary.accepted && c.atAlternate.accepted)) :
    c.release.Ordered :=
  Car.ordered_account ⟨fun _ => rfl, fun _ => rfl⟩ ⟨nofun, nofun⟩ (fun _ => rfl) hfault
    nofun

/-- A car sent on its way, at a full timer. -/
theorem Car.ordered_sent {old c : Car} (h : c.Bound) (n : Nat) (hstate : c.state = .recalling)
    (htimer : c.recallTimer = some n) : (old.account c).Ordered :=
  Car.ordered_account ⟨fun ht => absurd ht h.target, fun hs => (by rw [hstate] at hs; cases hs)⟩
    ⟨fun _ => hstate, fun _ => by rw [htimer]; rfl⟩ (fun hs => by rw [hstate] at hs; cases hs) h.fault
    fun hp => by rw [h.restore] at hp; cases hp

theorem Car.Bound.account {old c : Car} (h : c.Bound) : (old.account c).Bound := ⟨h.target, h.fault, h.restore⟩

theorem Car.ordered_recall {c : Car} {target : Target} (timeout : Nat) (htarget : target ≠ .none)
    (hfault : c.inputFault = (c.atPrimary.accepted && c.atAlternate.accepted)) (hrestore : c.restorePending = false) :
    (c.recall timeout target).Ordered := by
  have hbound : Car.Bound { c with state := .recalling, target := target, recallTimer := Timer.start (100 * timeout) } :=
    ⟨htarget, hfault, hrestore⟩
  unfold Car.recall
  dsimp only
  split_ifs
  · exact hbound.account.park
  · exact hbound.account.lose
  · exact Car.ordered_sent hbound _ rfl rfl

theorem Car.Ordered.activate {c : Car} (h : c.Ordered) (timeout : Nat) (compromised : Bool) :
    (c.activate timeout compromised).Ordered := by
  unfold Car.activate
  split
  · rename_i hs
    exact Car.ordered_recall timeout (by split <;> simp) h.fault (h.idle (by simp [hs]))
  · rename_i hs
    refine Car.ordered_account h.target h.timer h.late h.fault fun hp => ?_
    cases hp
  · exact h

theorem Car.Ordered.retarget {c : Car} (h : c.Ordered) (timeout : Nat) : (c.retarget timeout).Ordered := by
  unfold Car.retarget
  split
  · exact h
  · rename_i ht
    have ht : c.target = .primary := not_not.1 ht
    have hnormal : c.state ≠ .normal := fun hs => by rw [h.target.2 hs] at ht; cases ht
    have hbound (hs : c.state ≠ .firefighter) : (c.account { c with target := .alternate }).Bound :=
      ⟨by simp [Car.account], h.fault, h.idle hs⟩
    have hstays : (c.account { c with target := .alternate }).Ordered :=
      Car.ordered_account ⟨nofun, fun hs => absurd hs hnormal⟩ h.timer (fun hs => absurd hs hnormal)
        h.fault h.restore
    have hsent (hs : c.state ≠ .firefighter) : Car.Bound { c.account { c with target := .alternate } with
        state := .recalling, recallTimer := Timer.start (100 * timeout) } :=
      ⟨(hbound hs).target, (hbound hs).fault, (hbound hs).restore⟩
    dsimp only
    split
    · rename_i hs
      split_ifs
      · exact (hsent (by simp [hs])).account.park
      · exact Car.ordered_sent (hsent (by simp [hs])) _ rfl rfl
    · rename_i hs
      split_ifs
      · exact (hsent (by simp [hs])).account.park
      · exact Car.ordered_sent (hsent (by simp [hs])) _ rfl rfl
    · rename_i hs
      split_ifs
      · exact (hbound (by simp [hs])).park
      · exact hstays
    · exact hstays
    · exact h

theorem Car.Ordered.restored {c : Car} (h : c.Ordered) : c.restore.Ordered := by
  unfold Car.restore
  split
  · exact h
  · rename_i hs
    exact Car.ordered_account h.target h.timer h.late h.fault fun _ => hs
  · exact Car.ordered_release h.fault

theorem Car.Ordered.deriveFault {c : Car} (h : c.Ordered) (i : CarInput) (d : Debounced) :
    (c.setInput i d).deriveFault.Ordered := by
  cases i <;> exact Car.ordered_account h.target h.timer h.late rfl h.restore

theorem Car.Ordered.act {c : Car} (h : c.Ordered) (timeout : Nat) {active : Bool} (arrived : Bool) (i : CarInput)
    (hactive : active = true → c.restorePending = false) : (c.act timeout active arrived i).Ordered := by
  unfold Car.act
  split
  · exact h
  · rename_i hs
    have hbound := h.bound (by simp [hs]) (h.idle (by simp [hs]))
    split_ifs
    · exact hbound.park
    · exact hbound.lose
    · exact h
  · rename_i hs
    split_ifs
    · exact (h.bound (by simp [hs]) (h.idle (by simp [hs]))).park
    · exact h
  · rename_i hs
    exact h.tryFirefighter (by simp [hs])
  · rename_i hs
    split_ifs with hkey hgo
    · exact Car.ordered_release h.fault
    · refine Car.ordered_recall timeout (fun ht => ?_) h.fault ?_
      · rw [h.target.1 ht] at hs
        cases hs
      · cases hactive' : active
        · simpa [hactive'] using hgo
        · exact hactive hactive'
    · exact h

theorem Car.restorePending_setInput (c : Car) (i : CarInput) (d : Debounced) :
    (c.setInput i d).deriveFault.restorePending = c.restorePending := by cases i <;> rfl

theorem Car.Ordered.acceptInput {c : Car} (h : c.Ordered) (timeout : Nat) {active : Bool} (i : CarInput)
    (hactive : active = true → c.restorePending = false) : (c.acceptInput timeout active i).Ordered :=
  (h.deriveFault i _).act timeout _ i fun ha => (Car.restorePending_setInput c i _).trans (hactive ha)

end Sys2Proof.Machine
end

section
/-! ## The blocks' records within an event: field, sound and peer table -/

namespace Sys2Proof.Machine

/-! ### The laws that hold throughout an event -/

/-- The zone records of a station (R56, R72). -/
def State.ZonesStand (s : State) : Prop :=
  ∀ z < 8, (s.zone z).Stands s.station.role (s.image.zoneKinds.at z .unused)

/-- The stair records of a station (R114). -/
def State.StairsStand (s : State) : Prop :=
  ∀ i < 4, (s.stair i).Stands s.station.role (s.image.stairsPresent.at i false) (s.image.minterms.at i 0)

/-- The car records of a station, and its count of refused restores (R126, R139). -/
def State.CarsStand (s : State) : Prop :=
  s.restoreRefused ≤ 255 ∧ ∀ c < 4, (s.car c).Stands s.station.role (s.image.carsPresent.at c false)

/-- Authority, and the blocks of sound at a station of another role (R142, R153 to R155). -/
structure State.SoundStands (s : State) : Prop where
  keep : s.authority.console.isSome = s.authority.keep.isSome
  holder : ∀ c ∈ s.authority.console, 56 ≤ c ∧ c ≤ 59
  aside : s.station.role ≠ some .floor → s.authority = Authority.none ∧ s.cadence = CadenceUnit.atReset
    ∧ s.speaker = { Speaker.atReset with source := s.speaker.source }

/-- The common fields of the own entry (R75). -/
def PeerBase.Own (b : PeerBase) : Prop := b.presence = .live ∧ b.age = 0 ∧ b.standing = .current

/-- The latches and the disagreement count of a floor entry (R82, R88). -/
def FloorEntry.Stands (e : FloorEntry) : Prop :=
  (e.lobbyLatch = true → e.alarmLatch = true) ∧ e.disagreements ≤ 3 ∧ e.disagree = (e.disagreements == 3)

/-- The peer table of an acting station (R74, R75, R82, R86, R88). -/
structure State.PeersStand (s : State) : Prop where
  own : (s.peers.base s.station.address).Own
  entry : ∀ f < 48, (s.floorEntry f).Stands
  age : ∀ a, isPeerAddress a = true → (s.peers.base a).age ≤ 255

/-- All of it, at a station whose role is its address's. -/
structure State.Tidy (s : State) : Prop where
  post : ∃ r, s.station.role = some r ∧ roleOf s.station.address = some r
  zones : s.ZonesStand
  stairs : s.StairsStand
  cars : s.CarsStand
  sound : s.SoundStands
  peers : s.PeersStand

section
variable {ps : List Part} {s t : State} (h : Touches ps s t)
include h

theorem Touches.zonesStand (hps : .identity ∉ ps ∧ .image ∉ ps ∧ .zones ∉ ps) (hs : s.ZonesStand) : t.ZonesStand := by
  intro z hz
  rw [State.zone, h.role_eq hps.1, h.image_eq hps.2.1, h.zones_eq hps.2.2]
  exact hs z hz

theorem Touches.stairsStand (hps : .identity ∉ ps ∧ .image ∉ ps ∧ .stairs ∉ ps) (hs : s.StairsStand) :
    t.StairsStand := by
  intro i hi
  rw [State.stair, h.role_eq hps.1, h.image_eq hps.2.1, h.stairs_eq hps.2.2]
  exact hs i hi

theorem Touches.carsStand (hps : .identity ∉ ps ∧ .image ∉ ps ∧ .cars ∉ ps ∧ .restoreRefused ∉ ps) (hs : s.CarsStand) :
    t.CarsStand := by
  refine ⟨by rw [h.restoreRefused_eq hps.2.2.2]; exact hs.1, fun c hc => ?_⟩
  rw [State.car, h.role_eq hps.1, h.image_eq hps.2.1, h.cars_eq hps.2.2.1]
  exact hs.2 c hc

theorem Touches.soundStands (hps : .identity ∉ ps ∧ .authority ∉ ps ∧ .cadence ∉ ps ∧ .speaker ∉ ps)
    (hs : s.SoundStands) : t.SoundStands := by
  refine ⟨?_, ?_, ?_⟩
  · rw [h.authority_eq hps.2.1]
    exact hs.keep
  · rw [h.authority_eq hps.2.1]
    exact hs.holder
  · rw [h.role_eq hps.1, h.authority_eq hps.2.1, h.cadence_eq hps.2.2.1, h.speaker_eq hps.2.2.2]
    exact hs.aside

theorem Touches.peersStand (hps : .identity ∉ ps ∧ .peers ∉ ps) (hs : s.PeersStand) : t.PeersStand := by
  have hbase (a : Nat) : t.peers.base a = s.peers.base a := by
    rw [Peers.base, Peers.base, h.floors_eq hps.2, h.banks_eq hps.2, h.consoles_eq hps.2]
  refine ⟨?_, fun f hf => ?_, fun a ha => ?_⟩
  · rw [hbase, h.address_eq hps.1]
    exact hs.own
  · rw [State.floorEntry, h.floors_eq hps.2]
    exact hs.entry f hf
  · rw [hbase]
    exact hs.age a ha

theorem Touches.post (hps : .identity ∉ ps) (hs : ∃ r, s.station.role = some r ∧ roleOf s.station.address = some r) :
    ∃ r, t.station.role = some r ∧ roleOf t.station.address = some r := by
  rw [h.role_eq hps, h.address_eq hps]
  exact hs

/-- A change beside all of these blocks. -/
theorem Touches.tidy (hps : ∀ p ∈ [Part.identity, .image, .zones, .stairs, .cars, .restoreRefused, .authority, .cadence,
    .speaker, .peers], p ∉ ps) (hs : s.Tidy) : t.Tidy where
  post := h.post (hps _ (by decide)) hs.post
  zones := h.zonesStand ⟨hps _ (by decide), hps _ (by decide), hps _ (by decide)⟩ hs.zones
  stairs := h.stairsStand ⟨hps _ (by decide), hps _ (by decide), hps _ (by decide)⟩ hs.stairs
  cars := h.carsStand ⟨hps _ (by decide), hps _ (by decide), hps _ (by decide), hps _ (by decide)⟩ hs.cars
  sound := h.soundStands ⟨hps _ (by decide), hps _ (by decide), hps _ (by decide), hps _ (by decide)⟩ hs.sound
  peers := h.peersStand ⟨hps _ (by decide), hps _ (by decide)⟩ hs.peers

/-- A change of the zones, and of nothing else of these blocks. -/
theorem Touches.tidyZones (hps : ∀ p ∈ [Part.identity, .image, .stairs, .cars, .restoreRefused, .authority, .cadence,
    .speaker, .peers], p ∉ ps) (hs : s.Tidy) (ht : t.ZonesStand) : t.Tidy where
  post := h.post (hps _ (by decide)) hs.post
  zones := ht
  stairs := h.stairsStand ⟨hps _ (by decide), hps _ (by decide), hps _ (by decide)⟩ hs.stairs
  cars := h.carsStand ⟨hps _ (by decide), hps _ (by decide), hps _ (by decide), hps _ (by decide)⟩ hs.cars
  sound := h.soundStands ⟨hps _ (by decide), hps _ (by decide), hps _ (by decide), hps _ (by decide)⟩ hs.sound
  peers := h.peersStand ⟨hps _ (by decide), hps _ (by decide)⟩ hs.peers

theorem Touches.tidyStairs (hps : ∀ p ∈ [Part.identity, .image, .zones, .cars, .restoreRefused, .authority, .cadence,
    .speaker, .peers], p ∉ ps) (hs : s.Tidy) (ht : t.StairsStand) : t.Tidy where
  post := h.post (hps _ (by decide)) hs.post
  zones := h.zonesStand ⟨hps _ (by decide), hps _ (by decide), hps _ (by decide)⟩ hs.zones
  stairs := ht
  cars := h.carsStand ⟨hps _ (by decide), hps _ (by decide), hps _ (by decide), hps _ (by decide)⟩ hs.cars
  sound := h.soundStands ⟨hps _ (by decide), hps _ (by decide), hps _ (by decide), hps _ (by decide)⟩ hs.sound
  peers := h.peersStand ⟨hps _ (by decide), hps _ (by decide)⟩ hs.peers

theorem Touches.tidyCars (hps : ∀ p ∈ [Part.identity, .image, .zones, .stairs, .authority, .cadence, .speaker, .peers],
    p ∉ ps) (hs : s.Tidy) (ht : t.CarsStand) : t.Tidy where
  post := h.post (hps _ (by decide)) hs.post
  zones := h.zonesStand ⟨hps _ (by decide), hps _ (by decide), hps _ (by decide)⟩ hs.zones
  stairs := h.stairsStand ⟨hps _ (by decide), hps _ (by decide), hps _ (by decide)⟩ hs.stairs
  cars := ht
  sound := h.soundStands ⟨hps _ (by decide), hps _ (by decide), hps _ (by decide), hps _ (by decide)⟩ hs.sound
  peers := h.peersStand ⟨hps _ (by decide), hps _ (by decide)⟩ hs.peers

theorem Touches.tidySound (hps : ∀ p ∈ [Part.identity, .image, .zones, .stairs, .cars, .restoreRefused, .peers], p ∉ ps)
    (hs : s.Tidy) (ht : t.SoundStands) : t.Tidy where
  post := h.post (hps _ (by decide)) hs.post
  zones := h.zonesStand ⟨hps _ (by decide), hps _ (by decide), hps _ (by decide)⟩ hs.zones
  stairs := h.stairsStand ⟨hps _ (by decide), hps _ (by decide), hps _ (by decide)⟩ hs.stairs
  cars := h.carsStand ⟨hps _ (by decide), hps _ (by decide), hps _ (by decide), hps _ (by decide)⟩ hs.cars
  sound := ht
  peers := h.peersStand ⟨hps _ (by decide), hps _ (by decide)⟩ hs.peers

theorem Touches.tidyPeers (hps : ∀ p ∈ [Part.identity, .image, .zones, .stairs, .cars, .restoreRefused, .authority,
    .cadence, .speaker], p ∉ ps) (hs : s.Tidy) (ht : t.PeersStand) : t.Tidy where
  post := h.post (hps _ (by decide)) hs.post
  zones := h.zonesStand ⟨hps _ (by decide), hps _ (by decide), hps _ (by decide)⟩ hs.zones
  stairs := h.stairsStand ⟨hps _ (by decide), hps _ (by decide), hps _ (by decide)⟩ hs.stairs
  cars := h.carsStand ⟨hps _ (by decide), hps _ (by decide), hps _ (by decide), hps _ (by decide)⟩ hs.cars
  sound := h.soundStands ⟨hps _ (by decide), hps _ (by decide), hps _ (by decide), hps _ (by decide)⟩ hs.sound
  peers := ht

end

/-! ### Folds -/

theorem foldl_keeps {α : Type} {P : State → Prop} {f : State → α → State} (l : List α)
    (h : ∀ x ∈ l, ∀ t, P t → P (f t x)) {s : State} (hs : P s) : P (l.foldl f s) := by
  induction l generalizing s with
  | nil => exact hs
  | cons x xs ih => exact ih (fun y hy => h y (List.mem_cons_of_mem x hy)) (h x List.mem_cons_self s hs)

/-! ### Zones -/

theorem zone_updZone (s : State) (z : Nat) (f : Zone → Zone) {y : Nat} (hy : y < 8) :
    (s.updZone z f).zone y = if y = z then f (s.zone y) else s.zone y := by
  split
  · subst y
    exact Tab.at_upd_self _ _ _ _ hy
  · exact Tab.at_upd_ne _ _ _ _ _ ‹_›

theorem zonesStand_updZone {s : State} {z : Nat} {f : Zone → Zone} (hs : s.ZonesStand)
    (hf : ∀ kind, (s.zone z).Stands s.station.role kind → (f (s.zone z)).Stands s.station.role kind) :
    (s.updZone z f).ZonesStand := by
  intro y hy
  rw [zone_updZone s z f hy]
  split
  · subst y
    exact hf _ (hs z hy)
  · exact hs y hy

theorem State.Tidy.changeZone {s : State} {z e : Nat} {f : Zone → Zone} (hs : s.Tidy) (hrole : s.station.role = some .floor)
    (hsupervised : (s.zone z).supervised = true) (hkind : (f (s.zone z)).kind = (s.zone z).kind)
    (htimed : (s.zone z).Timed → (f (s.zone z)).Timed) : (s.changeZone z e f).Tidy :=
  (touches_changeZone z e f s).tidyZones (by decide) hs <| zonesStand_updZone hs.zones fun kind h => by
    rw [hrole] at h ⊢
    exact h.change hsupervised hkind (wrapCount_le _ _) ((htimed h.2.2.1).account e)

theorem State.Tidy.faults {s t : State} (hs : s.Tidy) (h : Touches [.faults] s t) : t.Tidy := h.tidy (by decide) hs

/-- The faults of a zone, then a change of its record. -/
theorem State.Tidy.zoneCommand {s : State} {z : Nat} {f : Zone → Zone} (hs : s.Tidy) (hrole : s.station.role = some .floor)
    (hsupervised : (s.zone z).supervised = true) (hkind : ∀ x : Zone, (f x).kind = x.kind)
    (htimed : (s.zone z).Timed → (f (s.zone z)).Timed) : ((s.clearZoneFaults z).changeZone z 0 f).Tidy := by
  have h := touches_clearZoneFaults z s
  have hzone : (s.clearZoneFaults z).zone z = s.zone z := by rw [State.zone, State.zone, h.zones_eq (by decide)]
  refine State.Tidy.changeZone (hs.faults h) ((h.role_eq (by decide)).trans hrole) ?_ (hkind _) ?_
  · rw [hzone]
    exact hsupervised
  · rw [hzone]
    exact htimed

theorem State.Tidy.disableZone {s : State} (hs : s.Tidy) (hrole : s.station.role = some .floor) (z : Nat) :
    (s.disableZone z).Tidy := by
  unfold State.disableZone
  split
  · exact hs.zoneCommand hrole (‹_ ∧ _› : _ ∧ _).1 (fun _ => rfl) Zone.Timed.disable
  · exact hs

theorem State.Tidy.enableZone {s : State} (hs : s.Tidy) (hrole : s.station.role = some .floor) (z : Nat) :
    (s.enableZone z).Tidy := by
  unfold State.enableZone
  split
  · rename_i h
    exact hs.zoneCommand hrole h.1 (fun _ => rfl) fun ht => ht.enable h.2
  · exact hs

theorem State.Tidy.zonesAllClear {s : State} (hs : s.Tidy) : s.zonesAllClear.Tidy := by
  unfold State.zonesAllClear
  split
  · rename_i hrole
    have hfold : ((List.range 8).foldl State.allClearZone s).Tidy
        ∧ ((List.range 8).foldl State.allClearZone s).station.role = some .floor := by
      refine foldl_keeps (P := fun t => t.Tidy ∧ t.station.role = some .floor) _ (fun z _ t ht => ?_)
        ⟨hs, beq_iff_eq.1 hrole⟩
      refine ⟨?_, ((touches_allClearZone t z).role_eq (by decide)).trans ht.2⟩
      unfold State.allClearZone
      split
      · exact ht.1.zoneCommand ht.2 (‹_ ∧ _› : _ ∧ _).1 Zone.kind_allClear Zone.Timed.allClear
      · exact ht.1
    exact hfold.1
  · exact hs

theorem Zone.Stands.unmarked {role : Option Role} {kind : ZoneKind} {z : Zone} (h : z.Stands role kind) (latch mark : Bool)
    (hlatch : latch = true → z.latch = true) (hmark : mark = true → z.mark = true) :
    Zone.Stands role kind { z with latch := latch, mark := mark } := by
  refine ⟨h.1, h.2.1, ⟨h.2.2.1.run, h.2.2.1.runs, h.2.2.1.stopped⟩, fun haside => ?_⟩
  have hz := h.2.2.2 haside
  have hl : latch = false := Bool.eq_false_iff.2 fun hl => by have := hlatch hl; rw [hz] at this; cases this
  have hm : mark = false := Bool.eq_false_iff.2 fun hm => by have := hmark hm; rw [hz] at this; cases this
  rw [hz, hl, hm]
  rfl

theorem State.Tidy.builderAllClear {s : State} (hs : s.Tidy) : s.builderAllClear.Tidy := by
  refine (touches_builderAllClear s).tidyZones (by decide) hs fun z hz => ?_
  have hread : s.builderAllClear.zone z = { s.zone z with mark := false } := Tab.at_map (h := hz) ..
  rw [hread]
  exact (hs.zones z hz).unmarked _ false id nofun

/-! ### Own alarms -/

theorem State.Tidy.acts {s : State} {r : Role} (_hs : s.Tidy) (h : s.actsAs r = true) : s.station.role = some r :=
  ((State.actsAs_iff r s).1 h).2

/-- A change of one floor entry that keeps the law of the entries and the common fields. -/
theorem State.PeersStand.updFloor {s : State} (hs : s.PeersStand) (f : Nat) {g : FloorEntry → FloorEntry}
    (hbase : ∀ e, (g e).base = e.base) (hstands : ∀ e : FloorEntry, e.Stands → (g e).Stands) :
    State.PeersStand { s with peers := s.peers.updFloor f g } := by
  refine ⟨?_, fun k hk => ?_, fun a ha => ?_⟩
  · change ((s.peers.updFloor f g).base s.station.address).Own
    rw [base_updFloor _ _ _ hbase]
    exact hs.own
  · change ((s.peers.updFloor f g).floors.at k FloorEntry.atReset).Stands
    rw [floor_updFloor _ _ _ hk]
    split
    · exact hstands _ (hs.entry k hk)
    · exact hs.entry k hk
  · change ((s.peers.updFloor f g).base a).age ≤ 255
    rw [base_updFloor _ _ _ hbase]
    exact hs.age a ha

theorem State.Tidy.updFloor {s : State} (hs : s.Tidy) (f : Nat) {g : FloorEntry → FloorEntry}
    (hbase : ∀ e, (g e).base = e.base) (hstands : ∀ e : FloorEntry, e.Stands → (g e).Stands) :
    State.Tidy { s with peers := s.peers.updFloor f g } :=
  (touches_peers s (by simp)).tidyPeers (by decide) hs (hs.peers.updFloor f hbase hstands)

theorem State.Tidy.alarmEntered {s : State} (hs : s.Tidy) (z : Nat) : (s.alarmEntered z).Tidy := by
  have hlatched : (s.alarmLatched z).Tidy :=
    hs.updFloor _ (by intro; rfl) (by rintro e ⟨-, hcount, hdisagree⟩; exact ⟨fun _ => rfl, hcount, hdisagree⟩)
  have horigin := (touches_alarmOrigin z s).tidy (by decide) hlatched
  rw [alarmEntered_eq]
  split
  · exact (touches_runEntry _).tidy (by decide) horigin
  · exact horigin

theorem State.Tidy.acceptClass {s : State} (hs : s.Tidy) (hrole : s.station.role = some .floor) {z : Nat}
    (hsupervised : (s.zone z).supervised = true) (hstage : (s.zone z).inStage = false) (c : LoopClass) :
    (s.acceptClass z c).Tidy := by
  have h := touches_zoneFaults z c s
  have hzone : (s.zoneFaults z c).zone z = s.zone z := by rw [State.zone, State.zone, h.zones_eq (by decide)]
  have hrecord (e : Nat) : ((s.zoneFaults z c).changeZone z e (Zone.acceptClass s.regime.active c)).Tidy := by
    refine State.Tidy.changeZone (hs.faults h) ((h.role_eq (by decide)).trans hrole) ?_ rfl ?_
    · rw [hzone]
      exact hsupervised
    · rw [hzone]
      exact fun ht => ht.acceptClass _ c hstage
  unfold State.acceptClass
  dsimp only
  split
  · exact (hrecord _).alarmEntered z
  · exact hrecord _

theorem State.Tidy.activateZone {s : State} (hs : s.Tidy) (hrole : s.station.role = some .floor) (z : Nat) :
    (s.activateZone z).Tidy := by
  unfold State.activateZone
  dsimp only
  split
  · rename_i hconfirm
    obtain ⟨hsupervised, hstate⟩ := hconfirm
    have hkeeps (kind : ZoneKind) (h : (s.zone z).Stands s.station.role kind) :
        Zone.Stands s.station.role kind { s.zone z with stage := none } := by
      rw [hrole] at h ⊢
      exact h.change hsupervised rfl h.2.1 (Zone.timed_of_stopped h.2.2.1.run rfl (by simp [hstate]))
    have hstop : (s.updZone z fun x => { x with stage := none }).Tidy :=
      (touches_updZone z _ s).tidyZones (by decide) hs (zonesStand_updZone hs.zones hkeeps)
    have hread : (s.updZone z fun x => { x with stage := none }).zone z = { s.zone z with stage := none } := by
      by_cases hz : z < 8
      · rw [zone_updZone _ _ _ hz, if_pos rfl]
      · have hout : s.zone z = Zone.atReset .unused := Tab.at_out _ _ _ (Nat.le_of_not_lt hz)
        rw [hout] at hstate
        cases hstate
    split
    · refine hstop.acceptClass hrole ?_ ?_ .alarm
      · rw [hread]
        exact hsupervised
      · rw [hread, Zone.inStage, hstate]
        rfl
    · exact hstop
  · exact hs

theorem State.Tidy.zonesActivated {s : State} (hs : s.Tidy) : s.zonesActivated.Tidy := by
  unfold State.zonesActivated
  split
  · rename_i hrole
    have hfold := foldl_keeps (P := fun t => t.Tidy ∧ t.station.role = some .floor) (f := State.activateZone)
      (List.range 8) (fun z _ t ht => ⟨ht.1.activateZone ht.2 z,
        ((touches_activateZone t z).role_eq (by decide)).trans ht.2⟩) ⟨hs, hs.acts hrole⟩
    exact hfold.1
  · exact hs

/-! ### Stairs -/

theorem stair_updStair (s : State) (i : Nat) (f : Stair → Stair) {j : Nat} (hj : j < 4) :
    (s.updStair i f).stair j = if j = i then f (s.stair j) else s.stair j := by
  split
  · subst j
    exact Tab.at_upd_self _ _ _ _ hj
  · exact Tab.at_upd_ne _ _ _ _ _ ‹_›

theorem State.Tidy.updStair {s : State} {i : Nat} {f : Stair → Stair} (hs : s.Tidy) (hrole : s.station.role = some .floor)
    (hhere : (s.stair i).present = true) (hf : ∀ x, (f x).present = x.present ∧ (f x).minterm = x.minterm)
    (hcount : ∀ x, (f x).count = x.count) : (s.updStair i f).Tidy := by
  refine (touches_updStair i f s).tidyStairs (by decide) hs fun j hj => ?_
  rw [stair_updStair s i f hj]
  split
  · subst j
    have h := hs.stairs i hj
    change Stair.Stands s.station.role _ _ _
    rw [hrole] at h ⊢
    exact h.change hhere (hf _) (by rw [hcount]; exact h.2.2.1)
  · exact hs.stairs j hj

theorem State.Tidy.doorChanged {s : State} {i : Nat} (hs : s.Tidy) (hrole : s.station.role = some .floor)
    (hhere : (s.stair i).present = true) : (s.doorChanged i).Tidy := by
  unfold State.doorChanged
  split
  · exact (State.Tidy.updStair hs hrole hhere (by intro; exact ⟨rfl, rfl⟩) (by intro; rfl)).faults (touches_clearFault _ _ _)
  · split
    · exact State.Tidy.updStair hs hrole hhere (fun _ => ⟨rfl, rfl⟩) fun _ => rfl
    · exact hs

theorem State.Tidy.acceptStairInput {s : State} {i : Nat} (hs : s.Tidy) (hrole : s.station.role = some .floor)
    (hhere : (s.stair i).present = true) (k : StairInput) : (s.acceptStairInput i k).Tidy := by
  have hset : (s.updStair i fun x => x.setInput k (x.input k).accept).Tidy :=
    hs.updStair hrole hhere (fun x => by cases k <;> exact ⟨rfl, rfl⟩) fun x => by cases k <;> rfl
  unfold State.acceptStairInput
  dsimp only
  split
  · refine hset.doorChanged hrole ?_
    by_cases hi : i < 4
    · rw [stair_updStair _ _ _ hi, if_pos rfl]
      exact hhere
    · rw [State.stair, Tab.at_out _ _ _ (Nat.le_of_not_lt hi)] at hhere
      cases hhere
  · exact hset

theorem State.Tidy.stairsAllClear {s : State} (hs : s.Tidy) : s.stairsAllClear.Tidy := by
  unfold State.stairsAllClear
  split
  · rename_i hrole
    have hrole := beq_iff_eq.1 hrole
    refine (show Touches [.stairs] s _ from ?_).tidyStairs (by decide) hs fun i hi => ?_
    · have h := touches_stairsAllClear s
      rwa [State.stairsAllClear, if_pos (by simp [hrole])] at h
    · have h := hs.stairs i hi
      have hread : State.stair { s with stairs := s.stairs.map fun x => if x.present then { x with release := false } else x } i
          = if (s.stair i).present then { s.stair i with release := false } else s.stair i := Tab.at_map (h := hi) ..
      rw [hread]
      split
      · change Stair.Stands s.station.role _ _ _
        rw [hrole] at h ⊢
        exact h.change ‹_› ⟨rfl, rfl⟩ h.2.2.1
      · exact h
  · exact hs

theorem stairsReact_stair (cleared became : Bool) (s : State) {i : Nat} (hi : i < 4) :
    (s.stairsReact cleared became).stair i
      = if s.actsAs .floor = true then (s.stair i).react s.demand cleared became s.image.heldOpenLimit else s.stair i := by
  unfold State.stairsReact
  split
  · have h := touches_clearDoorLocks s
      { s with stairs := s.stairs.map (Stair.react s.demand cleared became s.image.heldOpenLimit) }
    rw [State.stair, h.stairs_eq (by decide)]
    exact Tab.at_map (h := hi) ..
  · rfl

theorem State.Tidy.stairsReact {s : State} (hs : s.Tidy) (cleared became : Bool) : (s.stairsReact cleared became).Tidy := by
  have ht := touches_stairsReact cleared became s
  refine ht.tidyStairs (by decide) hs fun i hi => ?_
  rw [stairsReact_stair cleared became s hi, ht.role_eq (by decide), ht.image_eq (by decide)]
  split
  · rename_i hrole
    have h := hs.stairs i hi
    cases hhere : (s.stair i).present with
    | false =>
      rw [Stair.react, if_neg (by simp [hhere])]
      exact h
    | true =>
      rw [hs.acts hrole] at h ⊢
      exact h.change hhere (Stair.present_react _ _ _ _ _) (Stair.count_react h.2.2.1)
  · exact hs.stairs i hi

/-! ### Cars -/

theorem car_updCar (s : State) (c : Nat) (f : Car → Car) {n : Nat} (hn : n < 4) :
    (s.updCar c f).car n = if n = c then f (s.car n) else s.car n := by
  split
  · subst n
    exact Tab.at_upd_self _ _ _ _ hn
  · exact Tab.at_upd_ne _ _ _ _ _ ‹_›

theorem car_changeCar (s : State) (c : Nat) (f : Car → Car) {n : Nat} (hn : n < 4) :
    (s.changeCar c f).car n = if n = c ∧ (s.car c).present = true then f (s.car n) else s.car n := by
  unfold State.changeCar
  by_cases hpresent : (s.car c).present = true
  · have h := touches_carFaults c (s.car c) (f (s.car c)) (s.updCar c f)
    rw [if_pos hpresent, State.car, h.cars_eq (by decide)]
    simp only [hpresent, and_true]
    exact car_updCar s c f hn
  · simp [hpresent]

theorem State.Tidy.changeCar {s : State} {c : Nat} {f : Car → Car} (hs : s.Tidy) (hrole : s.station.role = some .lift)
    (hpresent : ∀ x, (f x).present = x.present) (hordered : (s.car c).Ordered → (f (s.car c)).Ordered) :
    (s.changeCar c f).Tidy := by
  have ht := touches_changeCar c f s
  refine ht.tidyCars (by decide) hs ⟨by rw [ht.restoreRefused_eq (by decide)]; exact hs.cars.1, fun n hn => ?_⟩
  rw [car_changeCar s c f hn, ht.role_eq (by decide), ht.image_eq (by decide)]
  split
  · rename_i hcar
    obtain ⟨rfl, hhere⟩ := hcar
    have h := hs.cars.2 n hn
    rw [hrole] at h ⊢
    exact h.change hhere (hpresent _) (hordered h.2.1)
  · exact hs.cars.2 n hn

/-- What the lift unit makes of a car at the end of an event. -/
def Car.react (timeout : Nat) (compromised became : Bool) (c : Car) : Car :=
  let c1 := if became then c.activate timeout compromised else c
  if compromised then c1.retarget timeout else c1

theorem carReact_eq (became : Bool) (s : State) (c : Nat) :
    s.carReact became c = s.changeCar c (Car.react s.image.recallTimeout s.compromised became) := rfl

theorem Car.lines_react (timeout : Nat) (compromised became : Bool) (c : Car) :
    (c.react timeout compromised became).lines = c.lines := by
  unfold Car.react
  cases became <;> cases compromised <;> simp [Car.lines_retarget, Car.lines_activate]

theorem Car.Ordered.react {c : Car} (h : c.Ordered) (timeout : Nat) (compromised became : Bool) :
    (c.react timeout compromised became).Ordered := by
  unfold Car.react
  cases became <;> cases compromised
  · exact h
  · exact h.retarget timeout
  · exact h.activate timeout false
  · exact (h.activate timeout true).retarget timeout

/-- A fold over the four cars of a LIFT station. -/
theorem State.Tidy.foldCars {f : State → Nat → State} (hf : ∀ (t : State) (c : Nat), Touches [.cars, .faults] t (f t c))
    (h : ∀ (t : State) (c : Nat), t.Tidy → t.station.role = some .lift → (f t c).Tidy) {s : State} (hs : s.Tidy)
    (hrole : s.station.role = some .lift) (l : List Nat) : (l.foldl f s).Tidy :=
  (foldl_keeps (P := fun t => t.Tidy ∧ t.station.role = some .lift) l
    (fun c _ t ht => ⟨h t c ht.1 ht.2, ((hf t c).role_eq (by decide)).trans ht.2⟩) ⟨hs, hrole⟩).1

theorem Touches.compromised_eq {ps : List Part} {s t : State} (h : Touches ps s t) (hi : .image ∉ ps) (ho : .origins ∉ ps)
    (hp : .peers ∉ ps) : t.compromised = s.compromised := by
  rw [State.compromised, State.compromised, Regime.originFloors, Regime.originFloors, State.floorEntry, State.floorEntry,
    h.image_eq hi, h.origins_eq ho, h.floors_eq hp]

theorem foldl_carReact_car (became : Bool) {l : List Nat} (hl : l.Nodup) (s : State) {n : Nat} (hn : n < 4) :
    (l.foldl (State.carReact became) s).car n = if n ∈ l ∧ (s.car n).present = true
      then (s.car n).react s.image.recallTimeout s.compromised became else s.car n := by
  induction l generalizing s with
  | nil => simp
  | cons c cs ih =>
    have ht := touches_changeCar c (Car.react s.image.recallTimeout s.compromised became) s
    have hstep := car_changeCar s c (Car.react s.image.recallTimeout s.compromised became) hn
    rw [← carReact_eq] at ht hstep
    rw [List.foldl_cons, ih hl.of_cons, ht.image_eq (by decide),
      ht.compromised_eq (by decide) (by decide) (by decide), hstep]
    by_cases hnc : n = c
    · subst hnc
      have hout : n ∉ cs := (List.nodup_cons.1 hl).1
      simp [hout]
    · simp [hnc]

theorem liftsReact_car (became : Bool) (s : State) {n : Nat} (hn : n < 4) :
    (s.liftsReact became).car n = if s.actsAs .lift = true ∧ (s.car n).present = true
      then (s.car n).react s.image.recallTimeout s.compromised became else s.car n := by
  unfold State.liftsReact
  by_cases hrole : s.actsAs .lift = true
  · rw [if_pos hrole, foldl_carReact_car became List.nodup_range s hn]
    simp [hrole, hn]
  · simp [hrole]

theorem State.Tidy.liftsReact {s : State} (hs : s.Tidy) (became : Bool) : (s.liftsReact became).Tidy := by
  unfold State.liftsReact
  split
  · exact hs.foldCars (fun t c => touches_changeCar c _ t)
      (fun t c ht hrole => ht.changeCar hrole (fun x => (Car.of_lines (Car.lines_react _ _ _ x)).1)
        fun h => h.react _ _ _) (hs.acts ‹_›) _
  · exact hs

theorem Car.present_restore (c : Car) : c.restore.present = c.present := by
  unfold Car.restore
  split <;> rfl

theorem State.Tidy.restoreBank {s : State} (hs : s.Tidy) (hrole : s.station.role = some .lift) : s.restoreBank.Tidy := by
  unfold State.restoreBank
  split
  · refine Touches.tidyCars (ps := [.restoreRefused]) ?_ (by decide) hs ⟨Nat.min_le_left 255 _, hs.cars.2⟩
    refine .of rfl fun p => ?_
    cases p <;> first | exact .inl (by decide) | exact .inr rfl | exact .inr ⟨rfl, rfl⟩ | exact .inr ⟨rfl, rfl, rfl⟩ | exact .inr ⟨rfl, rfl, rfl, rfl⟩
  · exact hs.foldCars (fun t c => touches_changeCar c _ t)
      (fun t c ht hr => ht.changeCar hr Car.present_restore Car.Ordered.restored) hrole _

theorem Car.present_acceptInput (timeout : Nat) (active : Bool) (i : CarInput) (c : Car) :
    (c.acceptInput timeout active i).present = c.present := by
  have hset : (c.setInput i (c.input i).accept).deriveFault.present = c.present := by cases i <;> rfl
  have hlines (x : Car) (arrived : Bool) : (x.act timeout active arrived i).lines = x.lines := by
    unfold Car.act
    split
    · rfl
    · split_ifs
      · exact Car.lines_park x
      · rfl
      · rfl
    · split_ifs
      · exact Car.lines_park x
      · rfl
    · exact Car.lines_tryFirefighter x
    · split_ifs
      · rfl
      · exact Car.lines_recall _ _ x
      · rfl
  exact (Car.of_lines (hlines _ _)).1.trans hset

/-- An input of a car that is accepted where no restore is pending under an active regime (R139). -/
theorem State.Tidy.acceptCarInput {s : State} (hs : s.Tidy) (hrole : s.station.role = some .lift) (c : Nat) (i : CarInput)
    (hpending : s.regime.active = true → (s.car c).restorePending = false) : (s.acceptCarInput c i).Tidy :=
  hs.changeCar hrole (Car.present_acceptInput _ _ i) fun h => h.acceptInput _ i hpending

theorem State.Tidy.recallExpired {s : State} (hs : s.Tidy) (hrole : s.station.role = some .lift) {c : Nat}
    (hstate : (s.car c).state = .recalling) : (s.recallExpired c).Tidy :=
  hs.changeCar hrole (fun _ => rfl) fun h => (h.bound (by simp [hstate]) (h.idle (by simp [hstate]))).lose

/-! ### Restores pending -/

/-- No restore has become pending under an active regime. -/
def State.Pends (s t : State) : Prop :=
  ∀ c < 4, (t.car c).restorePending = true → (s.car c).restorePending = true ∨ t.regime.active = false

theorem State.Pends.of_cars {s t : State} (h : t.cars = s.cars) : s.Pends t := fun c _ hp => by
  rw [State.car, h] at hp
  exact .inl hp

theorem Touches.pends {ps : List Part} {s t : State} (h : Touches ps s t) (hps : .cars ∉ ps) : s.Pends t :=
  .of_cars (h.cars_eq hps)

/-- Two works in a row, where the second leaves the regime. -/
theorem State.Pends.then {s t u : State} (h : s.Pends t) (k : t.Pends u) (hactive : u.regime.active = t.regime.active) :
    s.Pends u := fun c hc hp => (k c hc hp).elim (fun hp => (h c hc hp).imp_right hactive.trans) .inr

/-- A change of one car that lets no restore become pending. -/
theorem pends_changeCar {s : State} {c : Nat} {f : Car → Car}
    (hf : (f (s.car c)).restorePending = true → (s.car c).restorePending = true) : s.Pends (s.changeCar c f) := by
  intro n hn hp
  rw [car_changeCar s c f hn] at hp
  split at hp
  · rename_i hcar
    obtain ⟨rfl, -⟩ := hcar
    exact .inl (hf hp)
  · exact .inl hp

theorem Car.restorePending_tryFirefighter (c : Car) : c.tryFirefighter.restorePending = c.restorePending := by
  unfold Car.tryFirefighter
  split <;> rfl

theorem Car.restorePending_park (c : Car) : c.park.restorePending = c.restorePending :=
  Car.restorePending_tryFirefighter _

theorem Car.restorePending_recall (timeout : Nat) (target : Target) (c : Car) :
    (c.recall timeout target).restorePending = c.restorePending := by
  unfold Car.recall
  dsimp only
  split_ifs
  · exact Car.restorePending_park _
  · rfl
  · rfl

theorem Car.restorePending_acceptInput {timeout : Nat} {active : Bool} {i : CarInput} {c : Car}
    (h : (c.acceptInput timeout active i).restorePending = true) : c.restorePending = true := by
  have hact (x : Car) (arrived : Bool) (hx : (x.act timeout active arrived i).restorePending = true) :
      x.restorePending = true := by
    unfold Car.act at hx
    split at hx
    · exact hx
    · split_ifs at hx
      · exact (Car.restorePending_park x).symm.trans hx
      · exact hx
      · exact hx
    · split_ifs at hx
      · exact (Car.restorePending_park x).symm.trans hx
      · exact hx
    · exact (Car.restorePending_tryFirefighter x).symm.trans hx
    · split_ifs at hx
      · cases hx
      · exact (Car.restorePending_recall _ _ x).symm.trans hx
      · exact hx
  exact (Car.restorePending_setInput c i _).symm.trans (hact _ _ h)

theorem pends_acceptCarInput (c : Nat) (i : CarInput) (s : State) : s.Pends (s.acceptCarInput c i) :=
  pends_changeCar Car.restorePending_acceptInput

theorem pends_recallExpired (c : Nat) (s : State) : s.Pends (s.recallExpired c) := pends_changeCar id

theorem pends_restoreBank (s : State) : s.Pends s.restoreBank := by
  have ht := touches_restoreBank s
  cases hactive : s.regime.active with
  | true =>
    rw [State.restoreBank, if_pos hactive]
    exact .of_cars rfl
  | false => exact fun _ _ _ => .inr ((ht.active_eq (by decide) (by decide)).trans hactive)

theorem Car.restorePending_retarget (timeout : Nat) (c : Car) :
    (c.retarget timeout).restorePending = c.restorePending := by
  unfold Car.retarget
  dsimp only
  split
  · rfl
  · split
    · split_ifs
      · exact Car.restorePending_park _
      · rfl
    · split_ifs
      · exact Car.restorePending_park _
      · rfl
    · split_ifs
      · exact Car.restorePending_park _
      · rfl
    · rfl
    · rfl

/-- As the regime becomes active no restore stays pending (R132). -/
theorem Car.Ordered.restorePending_activate {c : Car} (h : c.Ordered) (timeout : Nat) (compromised : Bool) :
    (c.activate timeout compromised).restorePending = false := by
  unfold Car.activate
  split
  · rename_i hs
    exact (Car.restorePending_recall _ _ c).trans (h.idle (by simp [hs]))
  · rfl
  · exact h.idle ‹_›

theorem Car.Ordered.restorePending_react {c : Car} (h : c.Ordered) (timeout : Nat) (compromised became : Bool) :
    (c.react timeout compromised became).restorePending = (c.restorePending && !became) := by
  unfold Car.react
  cases became <;> cases compromised <;>
    simp [Car.restorePending_retarget, h.restorePending_activate]

/-! ### Sound and authority -/

/-- At a FLOOR station the blocks of sound may change, authority left. -/
theorem State.Tidy.sound_of_authority {s t : State} (hs : s.Tidy) (hrole : s.station.role = some .floor)
    (h : Touches [.speaker, .cadence, .faults, .markSlots] s t) : t.Tidy := by
  refine h.tidySound (by decide) hs ⟨?_, ?_, fun hn => absurd ((h.role_eq (by decide)).trans hrole) hn⟩
  · rw [h.authority_eq (by decide)]
    exact hs.sound.keep
  · rw [h.authority_eq (by decide)]
    exact hs.sound.holder

/-- At a FLOOR station authority may change within its law. -/
theorem State.Tidy.authority {s t : State} (hs : s.Tidy) (hrole : s.station.role = some .floor)
    (h : Touches [.authority, .faults] s t) (hkeep : t.authority.console.isSome = t.authority.keep.isSome)
    (hholder : ∀ c ∈ t.authority.console, 56 ≤ c ∧ c ≤ 59) : t.Tidy :=
  h.tidySound (by decide) hs ⟨hkeep, hholder, fun hn => absurd ((h.role_eq (by decide)).trans hrole) hn⟩

theorem State.Tidy.takeAuthority {s : State} (hs : s.Tidy) (hrole : s.station.role = some .floor) {console : Nat}
    (hconsole : 56 ≤ console ∧ console ≤ 59) (number : Nat) : (s.takeAuthority console number).Tidy := by
  have ht := touches_takeAuthority console number s
  unfold State.takeAuthority at ht ⊢
  split
  · rename_i hfree
    rw [if_pos hfree] at ht
    exact hs.authority hrole ht rfl fun c hc => by cases hc; exact hconsole
  · exact hs

theorem State.Tidy.endAuthority {s : State} (hs : s.Tidy) (hrole : s.station.role = some .floor) : s.endAuthority.Tidy :=
  hs.authority hrole ((touches_endAuthority s).mono (by decide)) rfl nofun

theorem State.Tidy.giveAuthority {s : State} (hs : s.Tidy) (hrole : s.station.role = some .floor) (console : Nat) :
    (s.giveAuthority console).Tidy := by
  unfold State.giveAuthority
  split
  · exact hs.endAuthority hrole
  · exact hs

theorem State.Tidy.lapseAuthority {s : State} (hs : s.Tidy) (hrole : s.station.role = some .floor) :
    s.lapseAuthority.Tidy := by
  unfold State.lapseAuthority
  split
  · exact (hs.endAuthority hrole).faults (touches_raise _ _ _)
  · exact hs

theorem State.Tidy.keepAuthority {s : State} (hs : s.Tidy) (hrole : s.station.role = some .floor) (console number : Nat) :
    (s.keepAuthority console number).Tidy := by
  have ht := touches_keepAuthority console number s
  unfold State.keepAuthority at ht ⊢
  split_ifs at ht ⊢ with hholds hnumber
  · exact hs.authority hrole ht (by rw [hholds]; rfl) hs.sound.holder
  · exact hs.lapseAuthority hrole
  · exact hs

theorem State.Tidy.followMark {s : State} (hs : s.Tidy) (source : Nat) (m : MarkRecord) (at_ : Word16) :
    (s.followMark source m at_).Tidy := by
  have ht := touches_followMark source m at_ s
  unfold State.followMark at ht ⊢
  dsimp only at ht ⊢
  split
  · rename_i h
    rw [if_pos h] at ht
    exact hs.sound_of_authority (beq_iff_eq.1 (and_left_iff h)) (ht.mono (by decide))
  · exact hs

theorem State.Tidy.speakerAllClear {s : State} (hs : s.Tidy) : s.speakerAllClear.Tidy := by
  have ht := touches_speakerAllClear s
  unfold State.speakerAllClear at ht ⊢
  split
  · rename_i h
    rw [if_pos h] at ht
    exact hs.sound_of_authority (beq_iff_eq.1 h) (ht.mono (by decide))
  · exact hs

theorem State.Tidy.cadenceReact {s : State} (hs : s.Tidy) : s.cadenceReact.Tidy := by
  have ht := touches_cadenceReact s
  unfold State.cadenceReact at ht ⊢
  split
  · rename_i h
    rw [if_pos h] at ht
    exact hs.sound_of_authority (hs.acts h) (ht.mono (by decide))
  · exact hs

/-- At a station of another role the reaction writes the source alone (R142). -/
theorem State.Tidy.speakerReact {s : State} (hs : s.Tidy) (old : State) (became : Bool) :
    (State.speakerReact old became s).Tidy := by
  have ht := touches_speakerReact old became s
  cases hrole : s.actsAs .floor with
  | true => exact hs.sound_of_authority (hs.acts hrole) (ht.mono (by decide))
  | false =>
    refine ht.tidySound (by decide) hs ⟨?_, ?_, fun hn => ?_⟩
    · rw [ht.authority_eq (by decide)]
      exact hs.sound.keep
    · rw [ht.authority_eq (by decide)]
      exact hs.sound.holder
    · rw [ht.role_eq (by decide)] at hn
      obtain ⟨hauthority, hcadence, hspeaker⟩ := hs.sound.aside hn
      refine ⟨(ht.authority_eq (by decide)).trans hauthority, (ht.cadence_eq (by decide)).trans hcadence, ?_⟩
      rw [State.speakerReact, hrole]
      exact congrArg (fun p : Speaker => { p with source := if s.regime.active then .mute else .tenant }) hspeaker

/-! ### The peer table -/

/-- A change of the common fields of one entry other than the own. -/
theorem State.PeersStand.updBase {s : State} (hs : s.PeersStand) (hown : isPeerAddress s.station.address = true) {a : Nat}
    (ha : isPeerAddress a = true) (hne : a ≠ s.station.address) {f : PeerBase → PeerBase}
    (hage : ∀ b : PeerBase, b.age ≤ 255 → (f b).age ≤ 255) :
    State.PeersStand { s with peers := s.peers.updBase a f } := by
  refine ⟨?_, fun k hk => ?_, fun b hb => ?_⟩
  · change ((s.peers.updBase a f).base s.station.address).Own
    rw [base_updBase_ne _ _ _ _ ha hown hne.symm]
    exact hs.own
  · change ((s.peers.updBase a f).floors.at k FloorEntry.atReset).Stands
    obtain ⟨b, hb⟩ := floor_updBase s.peers a f hk
    rw [hb]
    exact hs.entry k hk
  · change ((s.peers.updBase a f).base b).age ≤ 255
    by_cases hba : b = a
    · subst hba
      rw [base_updBase_self _ _ _ ha]
      exact hage _ (hs.age b ha)
    · rw [base_updBase_ne _ _ _ _ ha hb hba]
      exact hs.age b hb

/-- The address of the own entry is one of the table. -/
theorem State.Tidy.ownAddress {s : State} (hs : s.Tidy) : isPeerAddress s.station.address = true := by
  obtain ⟨r, -, hr⟩ := hs.post
  exact roleOf_some hr

theorem State.Tidy.peersOnly {s : State} {q : Peers} (hs : s.Tidy) (hdup : q.duplicateAge = s.peers.duplicateAge)
    (h : State.PeersStand { s with peers := q }) : State.Tidy { s with peers := q } :=
  (touches_peers s hdup).tidyPeers (by decide) hs h

theorem duplicateAge_updBase (p : Peers) (a : Nat) (f : PeerBase → PeerBase) :
    (p.updBase a f).duplicateAge = p.duplicateAge := by
  unfold Peers.updBase
  split_ifs <;> rfl

theorem State.Tidy.updBase {s : State} (hs : s.Tidy) {a : Nat} (ha : isPeerAddress a = true)
    (hne : a ≠ s.station.address) {f : PeerBase → PeerBase} (hage : ∀ b : PeerBase, b.age ≤ 255 → (f b).age ≤ 255) :
    State.Tidy { s with peers := s.peers.updBase a f } :=
  hs.peersOnly (duplicateAge_updBase _ _ _) (hs.peers.updBase hs.ownAddress ha hne hage)

theorem base_updBank (p : Peers) (k : Nat) (g : BankEntry → BankEntry) (h : ∀ e, (g e).base = e.base) (a : Nat) :
    (p.updBank k g).base a = p.base a := by
  have hbank (n : Nat) : ((p.banks.upd k g).at n BankEntry.atReset).base = (p.banks.at n BankEntry.atReset).base := by
    by_cases hk : k < 2
    · rw [Tab.at_upd _ _ _ _ _ hk]
      split
      · rw [h, ‹n = k›]
      · rfl
    · rw [Tab.upd_out _ _ _ (Nat.le_of_not_lt hk)]
  unfold Peers.base Peers.updBank
  dsimp only
  split_ifs
  · rfl
  · exact hbank _
  · rfl

theorem base_updConsole (p : Peers) (k : Nat) (g : ConsoleEntry → ConsoleEntry) (h : ∀ e, (g e).base = e.base) (a : Nat) :
    (p.updConsole k g).base a = p.base a := by
  have hconsole (n : Nat) :
      ((p.consoles.upd k g).at n ConsoleEntry.atReset).base = (p.consoles.at n ConsoleEntry.atReset).base := by
    by_cases hk : k < 4
    · rw [Tab.at_upd _ _ _ _ _ hk]
      split
      · rw [h, ‹n = k›]
      · rfl
    · rw [Tab.upd_out _ _ _ (Nat.le_of_not_lt hk)]
  unfold Peers.base Peers.updConsole
  dsimp only
  split_ifs
  · rfl
  · rfl
  · exact hconsole _

/-- The floor entries and the common fields decide the law of the table. -/
theorem State.PeersStand.congr {s : State} {q : Peers} (hs : s.PeersStand) (hfloors : q.floors = s.peers.floors)
    (hbase : ∀ a, q.base a = s.peers.base a) : State.PeersStand { s with peers := q } where
  own := by
    change (q.base s.station.address).Own
    rw [hbase]
    exact hs.own
  entry f hf := by
    change (q.floors.at f FloorEntry.atReset).Stands
    rw [hfloors]
    exact hs.entry f hf
  age a ha := by
    change (q.base a).age ≤ 255
    rw [hbase]
    exact hs.age a ha

theorem State.Tidy.takeBody {s : State} (hs : s.Tidy) (a : Nat) (body : StatusBody) :
    State.Tidy { s with peers := s.peers.takeBody a body } := by
  cases body with
  | floor phase level source authority zones changed stairs => exact hs.updFloor a (fun _ => rfl) fun _ he => he
  | lift cars refused =>
    exact hs.peersOnly rfl (hs.peers.congr rfl fun b => base_updBank _ _ _ (by intro; rfl) b)
  | console alive =>
    exact hs.peersOnly rfl (hs.peers.congr rfl fun b => base_updConsole _ _ _ (by intro; rfl) b)

theorem State.Tidy.silence {s : State} (hs : s.Tidy) {a : Nat} (hdue : s.silenceDue a = true) : (s.silence a).Tidy := by
  have hguard : (isPeerAddress a && a != s.station.address) = true := and_left_iff (and_left_iff hdue)
  obtain ⟨ha, hne⟩ := Bool.and_eq_true_iff.1 hguard
  have hwritten : State.Tidy { s with peers := s.peers.updBase a fun b => { b with presence := .silent } } :=
    hs.updBase ha (bne_iff_ne.1 hne) fun _ h => h
  exact hwritten.faults (touches_raise _ _ _)

theorem State.Tidy.settleSilence {s : State} (hs : s.Tidy) (a : Nat) : (s.settleSilence a).Tidy := by
  unfold State.settleSilence
  split
  · exact hs.silence ‹_›
  · exact hs

theorem State.Tidy.refresh {s : State} (hs : s.Tidy) {a : Nat} (ha : isPeerAddress a = true)
    (hne : a ≠ s.station.address) (r : StatusRecord) : (s.refresh a r).Tidy := by
  have hwritten : State.Tidy { s with peers := s.peers.updBase a fun b =>
      { b with presence := .live, age := 0, listenComplete := r.listenComplete, digest := r.digest,
               faultCount := r.faultCount, worstFault := r.worstFault } } :=
    hs.updBase ha hne fun _ _ => Nat.zero_le 255
  unfold State.refresh
  dsimp only
  split
  · exact hwritten.faults (touches_clearFault _ _ _)
  · exact hwritten

theorem State.Tidy.checkParameters {s : State} (hs : s.Tidy) {a : Nat} (ha : isPeerAddress a = true)
    (hne : a ≠ s.station.address) (digest : Nat) : (s.checkParameters a digest).Tidy := by
  have hwritten (d : Bool) : State.Tidy { s with peers := s.peers.updBase a fun b => { b with paramDisagree := d } } :=
    hs.updBase ha hne fun _ h => h
  unfold State.checkParameters
  dsimp only
  split_ifs
  · exact (hwritten _).faults (touches_raise _ _ _)
  · exact (hwritten _).faults (touches_clearFault _ _ _)
  · exact hwritten _

theorem State.Tidy.setStanding {s : State} (hs : s.Tidy) {a : Nat} (ha : isPeerAddress a = true)
    (hne : a ≠ s.station.address) (st : PeerStanding) : (s.setStanding a st).Tidy := hs.updBase ha hne fun _ h => h

/-- A lobby in ALARM is a zone in ALARM (R82). -/
theorem alarmReceived_of_lobby {i : Image} {f : Nat} {received : Tab ZoneReport 8}
    (h : i.lobbyReceived f received = true) : alarmReceived received = true := by
  obtain ⟨-, hany⟩ := Bool.and_eq_true_iff.1 h
  obtain ⟨z, hz, hzone⟩ := List.any_eq_true.1 hany
  exact (Tab.any_iff _ _ _).2 ⟨z, List.mem_range.1 hz, (Bool.and_eq_true_iff.1 hzone).2⟩

theorem State.Tidy.latchOrigin {s : State} (hs : s.Tidy) (f : Nat) : (s.latchOrigin f).Tidy :=
  (touches_latchOrigin f s).tidy (by decide) hs

theorem State.Tidy.mergeFloor {s : State} (hs : s.Tidy) (f : Nat) (received : Tab ZoneReport 8) :
    (s.mergeFloor f received).Tidy := by
  have hwritten : State.Tidy { s with peers := s.peers.updFloor f fun x =>
      { x.mergeZones received with alarmLatch := x.alarmLatch || alarmReceived received,
                                   lobbyLatch := x.lobbyLatch || s.image.lobbyReceived f received } } := by
    refine hs.updFloor f (by intro; rfl) ?_
    rintro e ⟨hlobby, hcount, hdisagree⟩
    refine ⟨fun h => ?_, hcount, hdisagree⟩
    rcases Bool.or_eq_true_iff.1 h with h | h
    · exact Bool.or_eq_true_iff.2 (.inl (hlobby h))
    · exact Bool.or_eq_true_iff.2 (.inr (alarmReceived_of_lobby h))
  unfold State.mergeFloor
  dsimp only
  split
  · exact hwritten.latchOrigin f
  · exact hwritten

theorem State.Tidy.checkPhase {s : State} (hs : s.Tidy) (f : Nat) : (s.checkPhase f).Tidy := by
  unfold State.checkPhase
  dsimp only
  split
  · have hwritten : State.Tidy { s with peers := s.peers.updFloor f fun x =>
        { x with disagreements := 0, disagree := false } } :=
      hs.updFloor f (by intro; rfl) fun e he => ⟨he.1, Nat.zero_le 3, rfl⟩
    exact hwritten.faults (touches_clearFault _ _ _)
  · have hwritten : State.Tidy { s with peers := s.peers.updFloor f fun x =>
        { x with disagreements := min 3 ((s.floorEntry f).disagreements + 1),
                 disagree := x.disagree || min 3 ((s.floorEntry f).disagreements + 1) == 3 } } := by
      refine hs.peersOnly rfl ⟨?_, fun k hk => ?_, fun a ha => ?_⟩
      · change (Peers.base (s.peers.updFloor f _) s.station.address).Own
        rw [base_updFloor _ _ _ (by intro; rfl)]
        exact hs.peers.own
      · change FloorEntry.Stands (Tab.at (s.peers.updFloor f _).floors k FloorEntry.atReset)
        rw [floor_updFloor _ _ _ hk]
        split
        · subst k
          obtain ⟨hlobby, -, hdisagree⟩ := hs.peers.entry f hk
          refine ⟨hlobby, Nat.min_le_left 3 _, ?_⟩
          change ((s.floorEntry f).disagree || _) = _
          rw [hdisagree]
          rw [Bool.eq_iff_iff]
          simp only [Bool.or_eq_true, beq_iff_eq]
          omega
        · exact hs.peers.entry k hk
      · change (Peers.base (s.peers.updFloor f _) a).age ≤ 255
        rw [base_updFloor _ _ _ (by intro; rfl)]
        exact hs.peers.age a ha
    split
    · exact hwritten.faults (touches_raise _ _ _)
    · exact hwritten

theorem duplicateAge_mapBase (p : Peers) (f : Nat → PeerBase → PeerBase) :
    (p.mapBase f).duplicateAge = p.duplicateAge := rfl

/-- A change of the common fields of the entries that leaves the own one. -/
theorem State.PeersStand.mapBase {s : State} (hs : s.PeersStand) (hown : isPeerAddress s.station.address = true)
    {f : Nat → PeerBase → PeerBase} (hf : ∀ b, f s.station.address b = b)
    (hage : ∀ (a : Nat) (b : PeerBase), b.age ≤ 255 → (f a b).age ≤ 255) :
    State.PeersStand { s with peers := s.peers.mapBase f } where
  own := by
    change ((s.peers.mapBase f).base s.station.address).Own
    rw [base_mapBase _ _ _ hown, hf]
    exact hs.own
  entry k hk := by
    change ((s.peers.mapBase f).floors.at k FloorEntry.atReset).Stands
    obtain ⟨b, hb⟩ := floor_mapBase s.peers f hk
    rw [hb]
    exact hs.entry k hk
  age a ha := by
    change ((s.peers.mapBase f).base a).age ≤ 255
    rw [base_mapBase _ _ _ ha]
    exact hage _ _ (hs.age a ha)

theorem State.Tidy.agePeers {s : State} (hs : s.Tidy) : s.agePeers.Tidy := by
  refine hs.peersOnly rfl (hs.peers.mapBase hs.ownAddress (fun b => if_pos rfl) fun a b hb => ?_)
  unfold PeerBase.second
  split_ifs
  · exact hb
  · exact hb
  · exact Nat.min_le_left 255 _

/-- The floor entries at the all-clear, before the standings (R85). -/
def Peers.floorsCleared (own : Nat) (p : Peers) : Peers :=
  { p with floors := p.floors.mapIdx fun i e =>
      if i = own then { e with alarmLatch := false, lobbyLatch := false } else e.allClear }

/-- The standings at the all-clear (R85). -/
def PeerBase.awaits (own a : Nat) (b : PeerBase) : PeerBase := if a = own then b else { b with standing := .awaiting }

theorem Peers.allClear_eq (own : Nat) (p : Peers) :
    p.allClear own = (p.floorsCleared own).mapBase (PeerBase.awaits own) := rfl

theorem floor_floorsCleared (own : Nat) (p : Peers) {k : Nat} (hk : k < 48) :
    (p.floorsCleared own).floors.at k FloorEntry.atReset = if k = own
      then { p.floors.at k FloorEntry.atReset with alarmLatch := false, lobbyLatch := false }
      else (p.floors.at k FloorEntry.atReset).allClear := Tab.at_mapIdx (h := hk) ..

theorem base_floorsCleared (own : Nat) (p : Peers) (a : Nat) :
    (p.floorsCleared own).base a = if a < 48 ∧ a ≠ own then { p.base a with standing := .awaiting } else p.base a := by
  by_cases hfloor : a < 48
  · have hread (q : Peers) : q.base a = (q.floors.at a FloorEntry.atReset).base := if_pos hfloor
    rw [hread, hread, floor_floorsCleared own p hfloor]
    by_cases hown : a = own
    · simp [hown]
    · simp [hown, hfloor, FloorEntry.allClear]
  · simp [Peers.base, hfloor, Peers.floorsCleared]

theorem FloorEntry.Stands.cleared {e : FloorEntry} (h : e.Stands) :
    FloorEntry.Stands { e with alarmLatch := false, lobbyLatch := false } := ⟨nofun, h.2⟩

theorem FloorEntry.stands_allClear (e : FloorEntry) : e.allClear.Stands := ⟨nofun, Nat.zero_le 3, rfl⟩

theorem State.PeersStand.floorsCleared {s : State} (hs : s.PeersStand) :
    State.PeersStand { s with peers := s.peers.floorsCleared s.station.address } where
  own := by
    change ((s.peers.floorsCleared s.station.address).base s.station.address).Own
    rw [base_floorsCleared, if_neg fun h => h.2 rfl]
    exact hs.own
  entry k hk := by
    change ((s.peers.floorsCleared s.station.address).floors.at k FloorEntry.atReset).Stands
    rw [floor_floorsCleared _ _ hk]
    split_ifs
    · exact (hs.entry k hk).cleared
    · exact FloorEntry.stands_allClear _
  age a ha := by
    change ((s.peers.floorsCleared s.station.address).base a).age ≤ 255
    rw [base_floorsCleared]
    split_ifs <;> exact hs.age a ha

theorem PeerBase.age_awaits (own a : Nat) (b : PeerBase) : (b.awaits own a).age = b.age := by
  unfold PeerBase.awaits
  split_ifs <;> rfl

theorem State.Tidy.peersAllClear {s : State} (hs : s.Tidy) : s.peersAllClear.Tidy := by
  have hwritten : State.Tidy { s with peers := s.peers.allClear s.station.address } :=
    hs.peersOnly rfl (hs.peers.floorsCleared.mapBase (f := PeerBase.awaits s.station.address) hs.ownAddress
      (fun b => if_pos rfl) fun a b hb => (PeerBase.age_awaits _ a b).trans_le hb)
  exact hwritten.faults (touches_clearFaults _ _)

/-- Loopback writes no latch and no disagreement (R75). -/
theorem entryStands_loopback {s : State} {f : Nat} (hf : f < 48) (h : (s.floorEntry f).Stands) :
    (s.loopback.floorEntry f).Stands := by
  by_cases hwritten : s.station.role = some .floor ∧ f = s.station.address
  · have hentry : s.loopback.floorEntry f = s.ownFloor (s.floorEntry f) := by
      rw [State.loopback, hwritten.1, hwritten.2]
      exact floorEntry_updFloor_self _ _ _ (hwritten.2 ▸ hf)
    rw [hentry]
    exact h
  · rwa [loopback_floorEntry s f fun hfloor hf => hwritten ⟨hfloor, hf⟩]

/-- Loopback writes LIVE, age 0 and CURRENT (R75). -/
theorem peersStand_loopback {s : State} {r : Role} (hr : s.station.role = some r) (ha : roleOf s.station.address = some r)
    (hentry : ∀ f < 48, (s.floorEntry f).Stands)
    (hage : ∀ a, isPeerAddress a = true → (s.peers.base a).age ≤ 255) : s.loopback.PeersStand := by
  have ht := touches_loopback s
  have hown := loopback_base_own hr ha
  refine ⟨?_, fun f hf => entryStands_loopback hf (hentry f hf), fun a haddress => ?_⟩
  · rw [ht.address_eq (by decide), hown]
    exact ⟨rfl, rfl, rfl⟩
  · by_cases hne : a = s.station.address
    · rw [hne, hown]
      exact Nat.zero_le 255
    · rw [loopback_base s a (hr.trans ha.symm) haddress hne]
      exact hage a haddress

theorem State.Tidy.loopback {s : State} (hs : s.Tidy) : s.loopback.Tidy := by
  obtain ⟨r, hr, ha⟩ := hs.post
  exact (touches_loopback s).tidyPeers (by decide) hs (peersStand_loopback hr ha hs.peers.entry hs.peers.age)

/-! ### The work of an event -/

theorem State.Tidy.adoptNewer {s : State} (hs : s.Tidy) (g : Byte) : (s.adoptNewer g).Tidy := by
  have hregime : State.Tidy { s with regime := Regime.allClear g } := ⟨hs.post, hs.zones, hs.stairs, hs.cars,
    ⟨hs.sound.keep, hs.sound.holder, hs.sound.aside⟩, ⟨hs.peers.own, hs.peers.entry, hs.peers.age⟩⟩
  exact hregime.peersAllClear.zonesAllClear.builderAllClear.stairsAllClear.speakerAllClear

theorem State.Tidy.window {s : State} (hs : s.Tidy) (g : Byte) : (s.window g).Tidy := by
  unfold State.window
  split
  · exact (touches_firstAdoption g s).tidy (by decide) hs
  · split
    · exact hs.adoptNewer g
    · exact hs

theorem State.Tidy.regimeCommand {s : State} (hs : s.Tidy) (g : Byte) {f : State → State}
    (h : ∀ t, Touches [.general, .phases, .holdEpoch, .silenceEpoch] t (f t)) : (s.regimeCommand g f).Tidy := by
  unfold State.regimeCommand
  split
  · exact hs
  · exact (h _).tidy (by decide) (hs.window g)

/-- A command that acts after the window, at its owner alone. -/
theorem tidy_owner {p : Prop} [Decidable p] {s t : State} (hs : s.Tidy) (h : p → t.Tidy) :
    (if p then t else s).Tidy := by
  split
  · exact h ‹_›
  · exact hs

theorem State.masked_role {s : State} {mask : FloorMask} (h : s.masked mask = true) : s.station.role = some .floor :=
  beq_iff_eq.1 (and_left_iff h)

theorem State.Tidy.takeTest {s : State} (hs : s.Tidy) (hrole : s.station.role = some .floor) (message : Nat) :
    (s.takeTest message).Tidy := hs.sound_of_authority hrole ((touches_takeTest message s).mono (by decide))

theorem State.Tidy.obey {s : State} (hs : s.Tidy) {console : Nat} (hconsole : 56 ≤ console ∧ console ≤ 59) (g : Byte)
    (c : Command) : (s.obey console g c).Tidy := by
  have hw := hs.window g
  cases c with
  | general => exact hs.regimeCommand g fun t => (touches_setGeneral t).mono (by decide)
  | hold e => exact hs.regimeCommand g fun t => (touches_adoptHold e t).mono (by decide)
  | resume e => exact hs.regimeCommand g fun t => (touches_adoptHold e t).mono (by decide)
  | silence e => exact hs.regimeCommand g fun t => (touches_adoptSilence e t).mono (by decide)
  | resound e => exact hs.regimeCommand g fun t => (touches_adoptSilence e t).mono (by decide)
  | allClear => exact hw
  | zoneDisable z => exact tidy_owner hw fun h => hw.disableZone (beq_iff_eq.1 h) _
  | zoneEnable z => exact tidy_owner hw fun h => hw.enableZone (beq_iff_eq.1 h) _
  | take mask number => exact tidy_owner hw fun h => hw.takeAuthority (State.masked_role h) hconsole number
  | keep number => exact tidy_owner hw fun h => hw.keepAuthority (beq_iff_eq.1 h) _ _
  | give mask => exact tidy_owner hw fun h => hw.giveAuthority (State.masked_role h) _
  | testAnnounce mask message => exact tidy_owner hw fun h => hw.takeTest (State.masked_role h) message
  | liftRestore bank => exact tidy_owner hw fun h => hw.restoreBank (beq_iff_eq.1 h)

theorem State.Tidy.ownAlarms {s : State} (hs : s.Tidy) (was : Bool) : (s.ownAlarms was).Tidy :=
  tidy_owner hs fun _ => hs.zonesActivated

section
variable {a : Nat}

theorem State.Tidy.mergeContent {s : State} (hs : s.Tidy) (ha : isPeerAddress a = true) (hne : a ≠ s.station.address)
    (r : StatusRecord) : (s.mergeContent a r).Tidy := by
  have hstanding := hs.setStanding ha hne .current
  have hintake (t : State) (ht : t.Tidy) : (t.intake r).Tidy := (touches_intake r t).tidy (by decide) ht
  unfold State.mergeContent
  split
  · rename_i phase _ _ _ zones _ _ _
    have hphase (t : State) (ht : t.Tidy) :
        State.Tidy { t with peers := t.peers.updFloor a fun e => { e with phase := phase } } :=
      ht.updFloor a (fun _ => rfl) fun _ he => he
    have hzones := (hphase _ (hintake _ (hstanding.mergeFloor a zones))).ownAlarms s.regime.active
    dsimp only
    split
    · exact hzones
    · exact hzones.checkPhase a
  · exact hintake _ hstanding

theorem State.Tidy.mergeWindow {s : State} (hs : s.Tidy) (ha : isPeerAddress a = true) (hne : a ≠ s.station.address)
    (g : Byte) (r : StatusRecord) : (s.mergeWindow a g r).Tidy := by
  unfold State.mergeWindow
  split
  · exact hs.mergeContent ha hne r
  · split
    · exact ((touches_firstAdoption g s).tidy (by decide) hs).mergeContent ha hne r
    · split
      · exact hs.mergeContent ha hne r
      · split
        · refine (hs.adoptNewer g).mergeContent ha ?_ r
          rw [(touches_adoptNewer g s).address_eq (by decide)]
          exact hne
        · exact hs.setStanding ha hne .stale

/-- What every record brings, before the window (R79, R86, R89). -/
def State.refreshed (a : Nat) (r : StatusRecord) (s : State) : State :=
  ((s.settleSilence a).refresh a r).checkParameters a r.digest

theorem merge_eq (a : Nat) (g : Byte) (r : StatusRecord) (s : State) : s.merge a g r =
    State.mergeWindow a g r
      { s.refreshed a r with peers := (s.refreshed a r).peers.takeBody a r.body } := rfl

theorem touches_refreshed (a : Nat) (r : StatusRecord) (s : State) : Touches [.peers, .faults] s (s.refreshed a r) :=
  ((touches_settleSilence a s).trans (touches_refresh a r _)).trans (touches_checkParameters a r.digest _)

theorem State.Tidy.merge {s : State} (hs : s.Tidy) (ha : isPeerAddress a = true) (hne : a ≠ s.station.address)
    (g : Byte) (r : StatusRecord) : (s.merge a g r).Tidy := by
  have hsilence := touches_settleSilence a s
  have hrefresh := hsilence.trans (touches_refresh a r _)
  have hwritten : (s.refreshed a r).Tidy := by
    refine ((hs.settleSilence a).refresh ha ?_ r).checkParameters ha ?_ r.digest
    · rw [hsilence.address_eq (by decide)]
      exact hne
    · rw [hrefresh.address_eq (by decide)]
      exact hne
  rw [merge_eq]
  refine (hwritten.takeBody a r.body).mergeWindow ha ?_ g r
  change a ≠ (s.refreshed a r).station.address
  rw [(touches_refreshed a r s).address_eq (by decide)]
  exact hne

end

/-- A whole STATUS comes from an address of the table (R43). -/
theorem takeStatus_source {code source : Nat} {payload : List Byte} {r : StatusRecord}
    (h : takeStatus code source payload = some r) : isPeerAddress source = true := by
  have hfits : sourceFits code source = true := by
    unfold takeStatus at h
    dsimp only at h
    split at h
    · rename_i hguard
      exact and_left_iff (and_left_iff (and_left_iff (and_left_iff hguard)))
    · cases h
  unfold sourceFits at hfits
  rw [isPeerAddress_iff]
  split at hfits
  · exact .inl (of_decide_eq_true hfits)
  · simp only [Bool.or_eq_true, beq_iff_eq] at hfits
    omega
  · simp only [Bool.and_eq_true, decide_eq_true_eq] at hfits
    omega
  · cases hfits

theorem State.Tidy.takeStatusFrame {s : State} (hs : s.Tidy) {f : Frame} (hne : f.source ≠ s.station.address) :
    (s.takeStatusFrame f).Tidy := by
  unfold State.takeStatusFrame
  split
  · exact hs.merge (takeStatus_source ‹_›) hne _ _
  · exact (touches_setAside s).tidy (by decide) hs

theorem State.Tidy.takeCommandFrame {s : State} (hs : s.Tidy) {f : Frame}
    (hconsole : 56 ≤ f.source ∧ f.source ≤ 59) : (s.takeCommandFrame f).Tidy := by
  unfold State.takeCommandFrame
  split
  · exact hs.obey hconsole _ _
  · exact (touches_setAside s).tidy (by decide) hs

theorem State.Tidy.takeMarkFrame {s : State} (hs : s.Tidy) (f : Frame) (at_ : Word16) :
    (s.takeMarkFrame f at_).Tidy := by
  unfold State.takeMarkFrame
  split
  · exact hs.followMark _ _ _
  · exact (touches_setAside s).tidy (by decide) hs

theorem Frame.console_of_not_foreign {f : Frame} (h : f.foreign ≠ true) (hcode : f.code = 4) :
    56 ≤ f.source ∧ f.source ≤ 59 := by
  simpa [Frame.foreign, hcode] using h

theorem State.Tidy.handOn {s : State} (hs : s.Tidy) {f : Frame} (hne : f.source ≠ s.station.address)
    (hforeign : f.foreign ≠ true) (at_ : Word16) : (s.handOn f at_).Tidy := by
  unfold State.handOn
  split
  · exact hs.takeStatusFrame hne
  · exact hs.takeStatusFrame hne
  · exact hs.takeStatusFrame hne
  · exact hs.takeCommandFrame (Frame.console_of_not_foreign hforeign ‹_›)
  · exact hs.takeMarkFrame f at_
  · exact hs

theorem State.Tidy.rxAct {s : State} (hs : s.Tidy) (e : RxEvent) : (s.rxAct State.handOn e).Tidy := by
  by_cases haccepted : ∃ f at_, e = .accepted f at_
  · obtain ⟨f, at_, rfl⟩ := haccepted
    have hcount := touches_countAccepted s
    have hcounted := hcount.tidy (by decide) hs
    change (s.accept State.handOn f at_).Tidy
    unfold State.accept
    dsimp only
    split
    · exact (touches_duplicateHeard _).tidy (by decide) hcounted
    · split
      · exact (touches_raiseAtOnce _ _ _).tidy (by decide) hcounted
      · exact hcounted.handOn ‹_› ‹_› at_
  · exact (touches_discard (fun f a h => haccepted ⟨f, a, h⟩) State.handOn s).tidy (by decide) hs

/-- The end of a STATUS leaves the records beside their latches and marks (R52). -/
theorem Zone.stands_reported {role : Option Role} {kind : ZoneKind} {z : Zone} (h : z.Stands role kind) (k : Kept) :
    (z.reported k).Stands role kind := by
  unfold Zone.reported
  split
  · exact h.unmarked _ _ and_left_iff and_left_iff
  · exact h

theorem Stair.stands_reported {role : Option Role} {present : Bool} {minterm : Nat} {x : Stair}
    (h : x.Stands role present minterm) (k : Kept) : (x.reported k).Stands role present minterm := by
  unfold Stair.reported
  split
  · refine ⟨h.1, h.2.1, h.2.2.1, fun haside => ?_⟩
    have hx := h.2.2.2 haside
    rw [hx]
    rfl
  · exact h

theorem Car.stands_reported {role : Option Role} {present : Bool} {c : Car} (h : c.Stands role present) (k : Kept) :
    (c.reported k).Stands role present := by
  unfold Car.reported
  split
  · obtain ⟨hpresent, ⟨hcount, htarget, htimer, hlate, hfault, hrestore⟩, haside⟩ := h
    refine ⟨hpresent, ⟨hcount, htarget, htimer, hlate, hfault, hrestore⟩, fun ha => ?_⟩
    rw [haside ha]
    rfl
  · exact h

theorem Car.restorePending_reported (k : Kept) (c : Car) : (c.reported k).restorePending = c.restorePending := by
  unfold Car.reported
  split <;> rfl

theorem State.Tidy.statusCompleted {s : State} (hs : s.Tidy) : s.statusCompleted.Tidy ∧ s.Pends s.statusCompleted := by
  unfold State.statusCompleted
  split
  · exact ⟨⟨hs.post, hs.zones, hs.stairs, hs.cars, ⟨hs.sound.keep, hs.sound.holder, hs.sound.aside⟩,
      ⟨hs.peers.own, hs.peers.entry, hs.peers.age⟩⟩, .of_cars rfl⟩
  · rename_i k _
    have hcar (c : Nat) (hc : c < 4) :
        (s.cars.mapIdx fun i c => c.reported (k.cars.at i Kept.none)).at c (Car.atReset false)
          = (s.car c).reported (k.cars.at c Kept.none) := Tab.at_mapIdx (h := hc) ..
    refine ⟨⟨hs.post, fun z hz => ?_, fun i hi => ?_, ⟨hs.cars.1, fun c hc => ?_⟩,
      ⟨hs.sound.keep, hs.sound.holder, hs.sound.aside⟩, ⟨hs.peers.own, hs.peers.entry, hs.peers.age⟩⟩, fun c hc hp => ?_⟩
    · rw [State.zone, Tab.at_mapIdx (h := hz) (d := Zone.atReset .unused)]
      exact Zone.stands_reported (hs.zones z hz) _
    · rw [State.stair, Tab.at_mapIdx (h := hi) (d := Stair.atReset false 0)]
      exact Stair.stands_reported (hs.stairs i hi) _
    · rw [State.car, hcar c hc]
      exact Car.stands_reported (hs.cars.2 c hc) _
    · rw [State.car, hcar c hc, Car.restorePending_reported] at hp
      exact .inl hp

theorem State.Tidy.commandCompleted {s : State} (hs : s.Tidy) (e : CommandEntry) : (s.commandCompleted e).Tidy := by
  have hsent := (touches_link { s.link with result := { s.link.result with outcome := .sent, reason := .none } } s).tidy
    (by decide) hs
  refine tidy_owner hs fun _ => ?_
  unfold State.applyOwn
  split
  · exact hsent.regimeCommand _ fun t => (touches_setGeneral t).mono (by decide)
  · exact hsent.regimeCommand _ fun t => (touches_adoptHold _ t).mono (by decide)
  · exact hsent.regimeCommand _ fun t => (touches_adoptHold _ t).mono (by decide)
  · exact hsent.regimeCommand _ fun t => (touches_adoptSilence _ t).mono (by decide)
  · exact hsent.regimeCommand _ fun t => (touches_adoptSilence _ t).mono (by decide)
  · exact hsent.window _
  · exact (touches_ownTake _ _ _).tidy (by decide) hsent
  · exact (touches_ownGive _ _).tidy (by decide) hsent
  · exact hsent

theorem State.Tidy.complete {s : State} (hs : s.Tidy) (slot : SlotId) (f : Frame) :
    (s.complete slot f).Tidy ∧ s.Pends (s.complete slot f) := by
  have hlanded := touches_landed slot f s
  have hl := hlanded.tidy (by decide) hs
  rw [complete_eq]
  unfold State.ownerCompleted
  split
  · obtain ⟨htidy, hpends⟩ := hl.statusCompleted
    exact ⟨htidy, (hlanded.pends (by decide)).then hpends
      ((touches_statusCompleted _).active_eq (by decide) (by decide))⟩
  · refine ⟨hl.commandCompleted _, .of_cars ?_⟩
    rw [(touches_commandCompleted _ _).cars_eq (by decide), hlanded.cars_eq (by decide)]
  · exact ⟨hl, hlanded.pends (by decide)⟩

/-- Only LIFT RESTORE lets a restore become pending (R139). -/
theorem pends_obey (console : Nat) (g : Byte) (c : Command) (s : State) : s.Pends (s.obey console g c) := by
  have hw := touches_window g s
  have hregime {f : State → State} (h : ∀ t, Touches [.general, .phases, .holdEpoch, .silenceEpoch] t (f t)) :
      s.Pends (s.regimeCommand g f) := (touches_regimeCommand g f s h).pends (by decide)
  have howner {p : Prop} [Decidable p] {ps : List Part} {t : State} (h : Touches ps (s.window g) t)
      (hps : .cars ∉ ps) : s.Pends (if p then t else s.window g) := by
    split
    · exact .of_cars ((h.cars_eq hps).trans (hw.cars_eq (by decide)))
    · exact hw.pends (by decide)
  cases c with
  | general => exact hregime fun t => (touches_setGeneral t).mono (by decide)
  | hold e => exact hregime fun t => (touches_adoptHold e t).mono (by decide)
  | resume e => exact hregime fun t => (touches_adoptHold e t).mono (by decide)
  | silence e => exact hregime fun t => (touches_adoptSilence e t).mono (by decide)
  | resound e => exact hregime fun t => (touches_adoptSilence e t).mono (by decide)
  | allClear => exact hw.pends (by decide)
  | zoneDisable z => exact howner (touches_disableZone _ _) (by decide)
  | zoneEnable z => exact howner (touches_enableZone _ _) (by decide)
  | take mask number => exact howner (touches_takeAuthority _ _ _) (by decide)
  | keep number => exact howner (touches_keepAuthority _ _ _) (by decide)
  | give mask => exact howner (touches_giveAuthority _ _) (by decide)
  | testAnnounce mask message => exact howner (touches_takeTest _ _) (by decide)
  | liftRestore bank =>
    change s.Pends (if _ then (s.window g).restoreBank else s.window g)
    split
    · intro c hc hp
      refine (pends_restoreBank (s.window g) c hc hp).imp_left fun h => ?_
      rwa [State.car, hw.cars_eq (by decide)] at h
    · exact hw.pends (by decide)

theorem pends_handOn (f : Frame) (at_ : Word16) (s : State) : s.Pends (s.handOn f at_) := by
  have hstatus : s.Pends (s.takeStatusFrame f) := by
    unfold State.takeStatusFrame
    split
    · exact (touches_merge _ _ _ _).pends (by decide)
    · exact (touches_setAside s).pends (by decide)
  unfold State.handOn
  split
  · exact hstatus
  · exact hstatus
  · exact hstatus
  · unfold State.takeCommandFrame
    split
    · exact pends_obey _ _ _ s
    · exact (touches_setAside s).pends (by decide)
  · unfold State.takeMarkFrame
    split
    · exact (touches_followMark _ _ _ s).pends (by decide)
    · exact (touches_setAside s).pends (by decide)
  · exact .of_cars rfl

theorem pends_rxAct (e : RxEvent) (s : State) : s.Pends (s.rxAct State.handOn e) := by
  by_cases haccepted : ∃ f at_, e = .accepted f at_
  · obtain ⟨f, at_, rfl⟩ := haccepted
    change s.Pends (s.accept State.handOn f at_)
    unfold State.accept
    dsimp only
    split
    · exact ((touches_countAccepted s).andThen (touches_duplicateHeard _) (rs := [.line, .lineLamp, .duplicateAge, .faults])
        (by decide) (by decide)).pends (by decide)
    · split
      · exact ((touches_countAccepted s).andThen (touches_raiseAtOnce _ _ _) (rs := [.line, .lineLamp, .faults])
          (by decide) (by decide)).pends (by decide)
      · exact pends_handOn f at_ s.countAccepted
  · exact (touches_discard (fun f a h => haccepted ⟨f, a, h⟩) State.handOn s).pends (by decide)

theorem State.Tidy.secondWork {s : State} (hs : s.Tidy) : s.secondWork.Tidy := by
  have haged := ((touches_regimeSecond s).tidy (by decide) hs).agePeers
  have hduplicate := (touches_ageDuplicate s.regimeSecond.agePeers).tidy (by decide) haged
  exact (touches_line _ _).tidy (by decide) hduplicate

/-- A zone out of NORMAL is a supervised one. -/
theorem State.Tidy.supervised {s : State} (hs : s.Tidy) {z : Nat} (hstate : (s.zone z).state ≠ .normal) :
    (s.zone z).supervised = true := by
  by_cases hz : z < 8
  · obtain ⟨hkind, -, -, haside⟩ := hs.zones z hz
    refine (Zone.supervised_iff _).2 fun hk => hstate ?_
    rw [haside (.inr (hkind.symm.trans hk))]
    rfl
  · exact absurd (congrArg Zone.state (Tab.at_out s.zones z _ (Nat.le_of_not_lt hz))) hstate

/-- What the own work of an event keeps, where no restore is pending under an active regime. -/
theorem State.Tidy.localWork {s w : State} (hs : s.Tidy) (h : s.LocalWork w)
    (hrestore : ∀ c < 4, (s.car c).restorePending = true → s.regime.active = false) : w.Tidy ∧ s.Pends w := by
  cases h with
  | classAccepted z c hrole hdue =>
    have hclassified : (s.zone z).classified = true := and_left_iff (and_left_iff hdue)
    exact ⟨hs.acceptClass (hs.acts hrole) (and_left_iff hclassified) (Zone.inStage_of_classified hclassified) c,
      (touches_acceptClass z c s).pends (by decide)⟩
  | stageExpired z hrole hstage =>
    have hsupervised : (s.zone z).supervised = true := hs.supervised fun h => by simp [Zone.inStage, h] at hstage
    exact ⟨hs.changeZone (hs.acts hrole) hsupervised (Zone.kind_stageExpired _ _) fun ht => ht.stageExpired _ hstage,
      (touches_changeZone _ _ _ s).pends (by decide)⟩
  | windowExpired z hrole hstate =>
    have hsupervised : (s.zone z).supervised = true := hs.supervised (by simp [hstate])
    exact ⟨hs.changeZone (hs.acts hrole) hsupervised rfl fun ht => ht.confirmExpired,
      (touches_changeZone _ _ _ s).pends (by decide)⟩
  | stairInput i k hrole hpresent =>
    exact ⟨hs.acceptStairInput (hs.acts hrole) hpresent k, (touches_acceptStairInput i k s).pends (by decide)⟩
  | mismatch i hrole hpresent =>
    exact ⟨(hs.updStair (i := i) (f := fun x => { x with mismatch := none, feedbackFault := true }) (hs.acts hrole)
      hpresent (fun _ => ⟨rfl, rfl⟩) fun _ => rfl).faults (touches_raise _ _ _),
      (touches_mismatchExpired i s).pends (by decide)⟩
  | heldOpen i hrole hpresent =>
    exact ⟨(hs.updStair (i := i) (f := fun x => { x with heldOpen := none }) (hs.acts hrole) hpresent
      (fun _ => ⟨rfl, rfl⟩) fun _ => rfl).faults (touches_raise _ _ _),
      (touches_heldOpenExpired i s).pends (by decide)⟩
  | carInput c i hrole =>
    refine ⟨?_, pends_acceptCarInput c i s⟩
    by_cases hc : c < 4
    · exact hs.acceptCarInput (hs.acts hrole) c i fun ha => Bool.eq_false_iff.2 fun hp => by simp [hrestore c hc hp] at ha
    · refine hs.acceptCarInput (hs.acts hrole) c i fun _ => ?_
      rw [State.car, Tab.at_out _ _ _ (Nat.le_of_not_lt hc)]
      rfl
  | recallTimer c hrole hstate =>
    exact ⟨hs.recallExpired (hs.acts hrole) hstate, pends_recallExpired c s⟩
  | sound hrole h => exact ⟨hs.sound_of_authority (hs.acts hrole) h, h.pends (by decide)⟩
  | lapse hrole => exact ⟨hs.lapseAuthority (hs.acts hrole), (touches_lapseAuthority s).pends (by decide)⟩
  | second =>
    exact ⟨((touches_countSecond s).tidy (by decide) hs).secondWork,
      .of_cars (((touches_secondWork _).cars_eq (by decide)).trans ((touches_countSecond s).cars_eq (by decide)))⟩
  | silence a hdue => exact ⟨hs.silence hdue, (touches_silence a s).pends (by decide)⟩
  | listenEnds => exact ⟨(touches_listenExpired s).tidy (by decide) hs, (touches_listenExpired s).pends (by decide)⟩
  | aloof h => exact ⟨h.tidy (by decide) hs, h.pends (by decide)⟩

end Sys2Proof.Machine
end

section
/-! ## The end of an event, stage by stage, and what it keeps of the records -/

namespace Sys2Proof.Machine

/-! ### The stages -/

/-- The own zones have acted on a regime that has become active (R65). -/
def State.activated (s old : State) : State := if becameActive old s then s.zonesActivated else s

/-- Stairs and cars have reacted (R116 to R124, R131 to R136). -/
def State.fielded (s old : State) : State :=
  ((s.activated old).stairsReact (clearedBetween old s) (becameActive old s)).liftsReact (becameActive old s)

/-- The speaker has reacted (R143, R144, R148). -/
def State.spoken (s old : State) : State := State.speakerReact old (becameActive old s) (s.fielded old)

/-- Every block but loopback and the builder has reacted. -/
def State.reacted (s old : State) : State := (s.spoken old).cadenceReact.alarmLampReact

theorem finish_eq_reacted {s : State} (h : s.acts = true) (old : State) :
    s.finish old = (s.reacted old).loopback.builderReact old := by
  unfold State.finish
  simp only [h, Bool.not_true, Bool.false_eq_true, if_false]
  rfl

theorem evolves_activated (old s : State) : Evolves s (s.activated old) := .ite (evolves_zonesActivated s) (.refl s)

theorem touches_activated (old s : State) : Touches (.zones :: Part.alarm) s (s.activated old) :=
  .ite (touches_zonesActivated s) (.refl _ s)

theorem touches_fielded (old s : State) : Touches [.stairs, .cars, .faults] (s.activated old) (s.fielded old) :=
  (touches_stairsReact _ _ _).andThen (touches_liftsReact _ _) (by decide) (by decide)

theorem touches_reacted (old s : State) : Touches [.cadence, .alarmLamp] (s.spoken old) (s.reacted old) :=
  (touches_cadenceReact _).andThen (touches_alarmLampReact _) (by decide) (by decide)

/-- What follows the speaker's reaction. -/
theorem touches_finish_spoken {s : State} (h : s.acts = true) (old : State) :
    Touches [.cadence, .alarmLamp, .peers, .changeDue, .statusSlot] (s.spoken old) (s.finish old) := by
  rw [finish_eq_reacted h]
  exact (((touches_reacted old s).andThen (touches_loopback _) (rs := [.cadence, .alarmLamp, .peers]) (by decide)
    (by decide)).andThen (touches_builderReact old _) (by decide) (by decide))

/-- What follows the reactions of stairs and cars. -/
theorem touches_finish_fielded {s : State} (h : s.acts = true) (old : State) :
    Touches [.speaker, .cadence, .alarmLamp, .peers, .changeDue, .statusSlot] (s.fielded old) (s.finish old) :=
  (touches_speakerReact old _ _).andThen (touches_finish_spoken h old) (by decide) (by decide)

/-- What follows the own zones' alarms. -/
theorem touches_finish_activated {s : State} (h : s.acts = true) (old : State) :
    Touches Part.reactions (s.activated old) (s.finish old) :=
  (touches_fielded old s).andThen (touches_finish_fielded h old) (by decide) (by decide)

theorem activated_of_quiet {old s : State} (h : becameActive old s = false) : s.activated old = s :=
  if_neg (by simp [h])

theorem acts_activated {s : State} (h : s.acts = true) (old : State) : (s.activated old).acts = true :=
  (evolves_activated old s).acts.trans h

theorem acts_fielded {s : State} (h : s.acts = true) (old : State) : (s.fielded old).acts = true :=
  ((touches_fielded old s).acts_eq (by decide)).trans (acts_activated h old)

theorem acts_spoken {s : State} (h : s.acts = true) (old : State) : (s.spoken old).acts = true :=
  ((touches_speakerReact old _ _).acts_eq (by decide)).trans (acts_fielded h old)

/-- Cars at the end of an event. -/
theorem finish_car {s : State} (h : s.acts = true) (old : State) {c : Nat} (hc : c < 4) :
    (s.finish old).car c = if s.station.role = some .lift ∧ (s.car c).present = true
      then (s.car c).react s.image.recallTimeout (s.activated old).compromised (becameActive old s) else s.car c := by
  have hactivated := touches_activated old s
  have hstairs := touches_stairsReact (clearedBetween old s) (becameActive old s) (s.activated old)
  have hlater : (s.finish old).car c = (s.fielded old).car c := by
    rw [State.car, (touches_finish_fielded h old).cars_eq (by decide), State.car]
  have hearlier : ((s.activated old).stairsReact (clearedBetween old s) (becameActive old s)).car c = s.car c := by
    rw [State.car, hstairs.cars_eq (by decide), hactivated.cars_eq (by decide), State.car]
  rw [hlater, State.fielded, liftsReact_car _ _ hc, hearlier, hstairs.image_eq (by decide), hactivated.image_eq (by decide),
    hstairs.compromised_eq (by decide) (by decide) (by decide)]
  have hacts : ((s.activated old).stairsReact (clearedBetween old s) (becameActive old s)).acts = true :=
    (hstairs.acts_eq (by decide)).trans (acts_activated h old)
  simp only [State.actsAs_of_acts hacts, hstairs.role_eq (by decide), hactivated.role_eq (by decide)]

/-- Stairs at the end of an event. -/
theorem finish_stair {s : State} (h : s.acts = true) (old : State) {i : Nat} (hi : i < 4) :
    (s.finish old).stair i = if s.station.role = some .floor then (s.stair i).react (s.activated old).demand
      (clearedBetween old s) (becameActive old s) s.image.heldOpenLimit else s.stair i := by
  have hactivated := touches_activated old s
  have hlater : (s.finish old).stair i
      = ((s.activated old).stairsReact (clearedBetween old s) (becameActive old s)).stair i := by
    rw [State.stair, (touches_finish_fielded h old).stairs_eq (by decide), State.fielded,
      (touches_liftsReact _ _).stairs_eq (by decide), State.stair]
  have hearlier : (s.activated old).stair i = s.stair i := by rw [State.stair, hactivated.stairs_eq (by decide), State.stair]
  rw [hlater, stairsReact_stair _ _ _ hi, hearlier, hactivated.image_eq (by decide)]
  simp only [State.actsAs_of_acts (acts_activated h old), hactivated.role_eq (by decide)]

/-! ### The records at the end of an event -/

/-- What every event leaves of the records of an acting station. -/
structure State.Kept (s : State) : Prop extends s.Tidy where
  shown : ∀ i < 4, (s.stair i).Shown
  idle : ∀ c < 4, (s.car c).restorePending = true → s.regime.active = false
  audible : s.regime.active = true → s.speaker.source ≠ .tenant

theorem State.Tidy.activated {s : State} (hs : s.Tidy) (old : State) : (s.activated old).Tidy :=
  tidy_owner hs fun _ => hs.zonesActivated

theorem State.Tidy.builderReact {s : State} (hs : s.Tidy) (old : State) : (s.builderReact old).Tidy :=
  (touches_builderReact old s).tidy (by decide) hs

theorem State.Tidy.finish {s : State} (hs : s.Tidy) (old : State) : (s.finish old).Tidy := by
  cases h : s.acts with
  | false =>
    rw [finish_of_not_acts h]
    exact hs
  | true =>
    rw [finish_eq_reacted h]
    have hspoken : (s.spoken old).Tidy :=
      (((hs.activated old).stairsReact _ _).liftsReact _).speakerReact old _
    have hlamp := (touches_alarmLampReact _).tidy (by decide) hspoken.cadenceReact
    exact hlamp.loopback.builderReact old

/-- A source that is not TENANT where the regime is active (R144). -/
theorem sourceNow_ne_tenant {v : SpeakerView} (h : v.active = true) (p : Speaker) : p.sourceNow v ≠ .tenant := by
  unfold Speaker.sourceNow
  split
  · simp [h]
  · nofun
  · split <;> nofun

theorem speakerReact_source {s : State} (h : s.regime.active = true) (old : State) (became : Bool) :
    (State.speakerReact old became s).speaker.source ≠ .tenant := by
  unfold State.speakerReact
  dsimp only
  split
  · exact sourceNow_ne_tenant (v := s.speakerView) h _
  · nofun

theorem Stair.shown_atReset (present : Bool) (minterm : Nat) : (Stair.atReset present minterm).Shown :=
  fun _ => ⟨rfl, nofun⟩

/-- The end of an event, where a restore is pending only under a regime that is inactive or becomes active now. -/
theorem State.Tidy.kept {s : State} (hs : s.Tidy) (hacts : s.acts = true) {old : State}
    (hpending : ∀ c < 4, (s.car c).restorePending = true → s.regime.active = true → becameActive old s = true) :
    (s.finish old).Kept where
  toTidy := hs.finish old
  shown i hi := by
    rw [finish_stair hacts old hi]
    split
    · exact Stair.shown_react _ _ _ _ _
    · rw [(hs.stairs i hi).2.2.2 (.inl ‹_›)]
      exact Stair.shown_atReset _ _
  idle c hc hp := by
    have hcar := hs.cars.2 c hc
    rw [finish_car hacts old hc] at hp
    split at hp
    · rw [hcar.2.1.restorePending_react] at hp
      obtain ⟨hp, hbecame⟩ := Bool.and_eq_true_iff.1 hp
      have hquiet : becameActive old s = false := Bool.not_eq_true' _ ▸ hbecame
      rw [(touches_finish_quiet s old hquiet).active_eq (by decide) (by decide)]
      by_contra hactive
      have h := hpending c hc hp (by simpa using hactive)
      rw [hquiet] at h
      cases h
    · rename_i haside
      have hreset : s.car c = Car.atReset (s.image.carsPresent.at c false) := hcar.2.2 <| by
        rw [hcar.1] at haside
        by_contra hnot
        simp only [not_or, ne_eq, not_not, Bool.not_eq_false] at hnot
        exact haside hnot
      rw [hreset] at hp
      cases hp
  audible hactive := by
    have hlater := touches_finish_spoken hacts old
    rw [hlater.active_eq (by decide) (by decide)] at hactive
    rw [hlater.speaker_eq (by decide)]
    refine speakerReact_source ?_ old _
    rwa [State.spoken, (touches_speakerReact old _ _).active_eq (by decide) (by decide)] at hactive

/-- The end of an event whose work lets no restore become pending under an active regime. -/
theorem State.Kept.event {s w : State} (hs : s.Kept) (hw : w.Tidy) (hacts : w.acts = true) (hpends : s.Pends w) :
    (w.finish s).Kept := by
  refine hw.kept hacts fun c hc hp hactive => ?_
  have hinactive : s.regime.active = false := by
    rcases hpends c hc hp with hbefore | hafter
    · exact hs.idle c hc hbefore
    · rw [hafter] at hactive
      cases hactive
  simp [becameActive, hactive, hinactive]

theorem State.LocalWork.acts {s w : State} (h : s.LocalWork w) : w.acts = s.acts := by
  cases h with
  | classAccepted z c => exact (evolves_acceptClass z c s).acts
  | stageExpired z => exact (touches_changeZone z 0 _ s).acts_eq (by decide)
  | windowExpired z => exact (touches_changeZone z 0 _ s).acts_eq (by decide)
  | stairInput i k => exact (touches_acceptStairInput i k s).acts_eq (by decide)
  | mismatch i => exact (touches_mismatchExpired i s).acts_eq (by decide)
  | heldOpen i => exact (touches_heldOpenExpired i s).acts_eq (by decide)
  | carInput c i => exact (touches_acceptCarInput c i s).acts_eq (by decide)
  | recallTimer c => exact (touches_recallExpired c s).acts_eq (by decide)
  | sound _ h => exact h.acts_eq (by decide)
  | lapse => exact (touches_lapseAuthority s).acts_eq (by decide)
  | second => exact ((touches_secondWork _).acts_eq (by decide)).trans ((touches_countSecond s).acts_eq (by decide))
  | silence a => exact (touches_silence a s).acts_eq (by decide)
  | listenEnds =>
    unfold State.listenExpired
    dsimp only
    split
    · rename_i hlisten
      simp [State.runEntry, State.acts, hlisten]
    · rfl
  | aloof h => exact h.acts_eq (by decide)

theorem State.Kept.aside {s t : State} (hs : s.Kept) (h : s.Aside t) : t.Kept := by
  have hflash (l : Lamp) := touches_onFlash l s
  cases h with
  | unseen h =>
    refine ⟨h.tidy (by decide) hs.toTidy, fun i hi => ?_, fun c hc => ?_, ?_⟩
    · rw [State.stair, h.stairs_eq (by decide)]
      exact hs.shown i hi
    · rw [State.car, h.cars_eq (by decide), h.active_eq (by decide) (by decide)]
      exact hs.idle c hc
    · rw [h.active_eq (by decide) (by decide), h.speaker_eq (by decide)]
      exact hs.audible
  | flash l =>
    have h := hflash l
    refine ⟨h.tidy (by cases l <;> decide) hs.toTidy, fun i hi => ?_, fun c hc => ?_, ?_⟩
    · rw [State.stair, h.stairs_eq (by cases l <;> decide)]
      exact hs.shown i hi
    · rw [State.car, h.cars_eq (by cases l <;> decide), h.active_eq (by cases l <;> decide) (by cases l <;> decide)]
      exact hs.idle c hc
    · rw [h.active_eq (by cases l <;> decide) (by cases l <;> decide), h.speaker_eq (by cases l <;> decide)]
      exact hs.audible

theorem State.Kept.turn {s t : State} (hs : s.Kept) (h : s.Turn t) : t.Kept := by
  cases h with
  | event hacts h =>
    obtain ⟨hw, hpends⟩ := hs.toTidy.localWork h hs.idle
    exact hs.event hw (h.acts.trans hacts) hpends
  | aside h => exact hs.aside h

theorem State.Kept.news {s t : State} (hs : s.Kept) (h : s.News t) : t.Kept := by
  cases h with
  | received e hacts =>
    exact hs.event (hs.toTidy.rxAct e) ((evolves_rxAct e s).acts.trans hacts) (pends_rxAct e s)
  | completed slot f hacts =>
    obtain ⟨hw, hpends⟩ := hs.toTidy.complete slot f
    exact hs.event hw (((touches_complete slot f s).acts_eq (by decide)).trans hacts) hpends

theorem State.Kept.runs {s t : State} {n : Nat} (hs : s.Kept) (h : s.Runs n t) : t.Kept :=
  h.keeps (P := State.Kept) (fun k ht => ht.turn k) (fun k ht => ht.news k) hs

end Sys2Proof.Machine
end

section
/-! ## Every step keeps the field, the sound and the peer table lawful -/

namespace Sys2Proof.Machine

/-! ### The laws and what every event keeps -/

theorem State.Kept.laws {s : State} (h : s.Kept) : s.fieldLaw ∧ s.soundLaw ∧ s.peersLaw := by
  refine ⟨⟨h.cars.1, fun _ => ⟨fun z hz => ?_, fun i hi => ?_, fun c hc => ?_⟩⟩,
    ⟨fun _ => h.audible, h.sound.keep, h.sound.holder, h.sound.aside⟩,
    ⟨fun _ => h.peers.own, h.peers.entry, fun a ha => h.peers.age a ((mem_peerAddresses a).1 ha)⟩⟩
  · exact (Zone.stands_iff _ _ _).1 (h.zones z hz)
  · exact (Stair.lawful_iff _ _ _ _).1 ⟨h.stairs i hi, h.shown i hi⟩
  · obtain ⟨hlawful, hrestore, haside⟩ := (Car.stands_iff _ _ _).1 (h.cars.2 c hc)
    exact ⟨hlawful, fun hp => ⟨hrestore hp, h.idle c hc hp⟩, haside⟩

theorem kept_of_laws {s : State} (hacts : s.acts = true) (hstation : s.stationLaw) (hfield : s.fieldLaw)
    (hsound : s.soundLaw) (hpeers : s.peersLaw) : s.Kept := by
  obtain ⟨hrole, hsome, -⟩ := hstation.1 hacts
  obtain ⟨hcount, hrecords⟩ := hfield
  obtain ⟨hzones, hstairs, hcars⟩ := hrecords hacts
  obtain ⟨haudible, hkeep, hholder, haside⟩ := hsound
  obtain ⟨hown, hentry, hage⟩ := hpeers
  obtain ⟨r, hr⟩ := Option.isSome_iff_exists.1 hsome
  have hstair (i : Nat) (hi : i < 4) := (Stair.lawful_iff _ _ _ _).2 (hstairs i hi)
  refine ⟨⟨⟨r, hr, hrole.symm.trans hr⟩, fun z hz => (Zone.stands_iff _ _ _).2 (hzones z hz),
    fun i hi => (hstair i hi).1, ⟨hcount, fun c hc => ?_⟩, ⟨hkeep, hholder, haside⟩,
    ⟨hown (.inl hacts), hentry, fun a ha => hage a ((mem_peerAddresses a).2 ha)⟩⟩,
    fun i hi => (hstair i hi).2, fun c hc hp => ((hcars c hc).2.1 hp).2, haudible hacts⟩
  obtain ⟨hlawful, hrestore, hreset⟩ := hcars c hc
  exact (Car.stands_iff _ _ _).2 ⟨hlawful, fun hp => (hrestore hp).1, hreset⟩

/-! ### The tick event proper -/

theorem Timer.tick_none {t : Timer} (h : t = none) : t.tick = none := by rw [h]; rfl

theorem Zone.Timed.tick {z : Zone} (h : z.Timed) : Zone.Timed { z with stage := z.stage.tick } :=
  ⟨h.run, fun hin => (Timer.isSome_tick _).trans (h.runs hin), fun hin hne => Timer.tick_none (h.stopped hin hne)⟩

theorem State.Kept.tickZones {s : State} (hs : s.Kept) (hacts : s.acts = true) (pins : Inputs) :
    (s.tickEvent pins).ZonesStand := by
  have ht := touches_tickEvent pins s
  intro z hz
  rw [tickEvent_zone hacts pins hz, ht.role_eq (by decide), ht.image_eq (by decide)]
  have h := hs.zones z hz
  split
  · rename_i hsampled
    obtain ⟨hrole, hclassified⟩ := hsampled
    have hkind : ((s.zone z).sample (loopClass (pins.reading z))).kind = (s.zone z).kind
        ∧ ((s.zone z).sample (loopClass (pins.reading z))).count = (s.zone z).count := by
      unfold Zone.sample
      split <;> exact ⟨rfl, rfl⟩
    obtain ⟨-, -, hstage, -⟩ := Zone.sample_eq (loopClass (pins.reading z)) (s.zone z)
    rw [← hstage]
    rw [hrole] at h ⊢
    exact h.change (and_left_iff hclassified) hkind.1 (hkind.2.trans_le h.2.1) (h.2.2.1.sample _).tick
  · refine ⟨h.1, h.2.1, h.2.2.1.tick, fun haside => ?_⟩
    rw [h.2.2.2 haside]
    rfl

theorem State.Kept.tickStairs {s : State} (hs : s.Kept) (hacts : s.acts = true) (pins : Inputs) :
    (s.tickEvent pins).StairsStand ∧ ∀ i < 4, ((s.tickEvent pins).stair i).Shown := by
  have ht := touches_tickEvent pins s
  have hrecord (i : Nat) (hi : i < 4) : ((s.tickEvent pins).stair i).Stands s.station.role
      (s.image.stairsPresent.at i false) (s.image.minterms.at i 0) ∧ ((s.tickEvent pins).stair i).Shown := by
    rw [tickEvent_stair hacts pins hi]
    dsimp only
    have h := hs.stairs i hi
    split
    · rename_i hsampled
      obtain ⟨hrole, hpresent⟩ := hsampled
      rw [hrole] at h ⊢
      exact ⟨h.change hpresent ⟨rfl, rfl⟩ h.2.2.1, hs.shown i hi⟩
    · refine ⟨⟨h.1, h.2.1, h.2.2.1, fun haside => ?_⟩, hs.shown i hi⟩
      rw [h.2.2.2 haside]
      rfl
  refine ⟨fun i hi => ?_, fun i hi => (hrecord i hi).2⟩
  rw [ht.role_eq (by decide), ht.image_eq (by decide)]
  exact (hrecord i hi).1

theorem Car.Ordered.tick {c : Car} (h : c.Ordered) : Car.Ordered { c with recallTimer := c.recallTimer.tick } :=
  ⟨h.count, h.target, (Timer.isSome_tick _).symm ▸ h.timer, h.late, h.fault, h.restore⟩

theorem Car.Ordered.sample {c : Car} (h : c.Ordered) (pins : Inputs) (i : Nat) : (c.sample pins i).Ordered := by
  have haccepted (level : Bool) (d : Debounced) := (Debounced.sample_eq level d).1
  refine ⟨h.count, h.target, h.timer, h.late, ?_, h.restore⟩
  change c.inputFault = _
  rw [h.fault, Car.sample, haccepted, haccepted]

theorem State.Kept.tickCars {s : State} (hs : s.Kept) (hacts : s.acts = true) (pins : Inputs) :
    (s.tickEvent pins).CarsStand
      ∧ ∀ c < 4, ((s.tickEvent pins).car c).restorePending = (s.car c).restorePending := by
  have ht := touches_tickEvent pins s
  have hrecord (c : Nat) (hc : c < 4) : ((s.tickEvent pins).car c).Stands s.station.role (s.image.carsPresent.at c false)
      ∧ ((s.tickEvent pins).car c).restorePending = (s.car c).restorePending := by
    rw [tickEvent_car hacts pins hc]
    dsimp only
    have h := hs.cars.2 c hc
    split
    · rename_i hsampled
      obtain ⟨hrole, hpresent⟩ := hsampled
      rw [hrole] at h ⊢
      exact ⟨h.change hpresent rfl (h.2.1.tick.sample pins c), rfl⟩
    · refine ⟨⟨h.1, h.2.1.tick, fun haside => ?_⟩, rfl⟩
      rw [h.2.2 haside]
      rfl
  refine ⟨⟨by rw [ht.restoreRefused_eq (by decide)]; exact hs.cars.1, fun c hc => ?_⟩, fun c hc => (hrecord c hc).2⟩
  rw [ht.role_eq (by decide), ht.image_eq (by decide)]
  exact (hrecord c hc).1

theorem tickEvent_speaker {s : State} (h : s.acts = true) (pins : Inputs) :
    (s.tickEvent pins).speaker = s.speaker.tick := by
  rw [tickEvent_of_acts h, (touches_samples _).speaker_eq (by decide)]
  rfl

theorem tickEvent_authority {s : State} (h : s.acts = true) (pins : Inputs) :
    (s.tickEvent pins).authority = { s.authority with keep := s.authority.keep.tick } := by
  rw [tickEvent_of_acts h, (touches_samples _).authority_eq (by decide)]
  rfl

theorem tickEvent_cadence_aside {s : State} (h : s.acts = true) (hrole : s.station.role ≠ some .floor) (pins : Inputs) :
    (s.tickEvent pins).cadence = s.cadence := by
  have hbefore : Touches [.zones, .stairs, .cars] (s.ticked pins).runTimers
      (s.ticked pins).runTimers.sampleZones.sampleStairs.sampleCars :=
    ((touches_sampleZones _).andThen (touches_sampleStairs _) (by decide) (by decide)).andThen (touches_sampleCars _)
      (ps := [.zones, .stairs]) (by decide) (by decide)
  rw [tickEvent_of_acts h, State.tickCadence,
    if_neg fun hfloor => hrole ((hbefore.actsAs_iff (by decide) (by decide) h .floor).1 hfloor),
    hbefore.cadence_eq (by decide)]
  rfl

theorem State.Kept.tickSound {s : State} (hs : s.Kept) (hacts : s.acts = true) (pins : Inputs) :
    (s.tickEvent pins).SoundStands := by
  refine ⟨?_, ?_, fun hrole => ?_⟩
  · rw [tickEvent_authority hacts, Timer.isSome_tick]
    exact hs.sound.keep
  · rw [tickEvent_authority hacts]
    exact hs.sound.holder
  · rw [(touches_tickEvent pins s).role_eq (by decide)] at hrole
    obtain ⟨hauthority, hcadence, hspeaker⟩ := hs.sound.aside hrole
    rw [tickEvent_authority hacts, tickEvent_cadence_aside hacts hrole, tickEvent_speaker hacts]
    refine ⟨?_, hcadence, ?_⟩
    · rw [hauthority]
      rfl
    · rw [hspeaker]
      rfl

theorem State.Kept.tickEvent {s : State} (hs : s.Kept) (hacts : s.acts = true) (pins : Inputs) :
    (s.tickEvent pins).Kept := by
  have ht := touches_tickEvent pins s
  obtain ⟨hcars, hpending⟩ := hs.tickCars hacts pins
  obtain ⟨hstairs, hshown⟩ := hs.tickStairs hacts pins
  refine ⟨⟨ht.post (by decide) hs.post, hs.tickZones hacts pins, hstairs, hcars, hs.tickSound hacts pins,
    ht.peersStand ⟨by decide, by decide⟩ hs.peers⟩, hshown, fun c hc hp => ?_, fun hactive => ?_⟩
  · rw [ht.active_eq (by decide) (by decide)]
    exact hs.idle c hc ((hpending c hc).symm.trans hp)
  · rw [tickEvent_speaker hacts]
    exact hs.audible ((ht.active_eq (by decide) (by decide)).symm.trans hactive)

/-! ### Stations that do not act, and the start-up -/

/-- The laws of the field, of sound and of the peer table. -/
def State.BlockLaws (s : State) : Prop := s.fieldLaw ∧ s.soundLaw ∧ s.peersLaw

/-- What these laws read. -/
def Part.ofBlocks : List Part :=
  [.identity, .lifecycle, .image, .zones, .stairs, .cars, .restoreRefused, .general, .origins, .speaker, .authority,
    .cadence, .peers]

theorem Touches.blockLaws {ps : List Part} {s t : State} (h : Touches ps s t) (hps : ∀ p ∈ Part.ofBlocks, p ∉ ps)
    (hs : s.BlockLaws) : t.BlockLaws := by
  have hbase (a : Nat) : t.peers.base a = s.peers.base a := by
    rw [Peers.base, Peers.base, h.floors_eq (hps _ (by decide)), h.banks_eq (hps _ (by decide)),
      h.consoles_eq (hps _ (by decide))]
  have hacts := h.acts_eq (hps _ (by decide))
  have hactive := h.active_eq (hps _ (by decide)) (hps _ (by decide))
  have hrole := h.role_eq (hps _ (by decide))
  obtain ⟨hfield, hsound, hpeers⟩ := hs
  refine ⟨?_, ?_, ?_⟩
  · simpa only [State.fieldLaw, State.zone, State.stair, State.car, hacts, hactive, hrole, h.image_eq (hps _ (by decide)),
      h.zones_eq (hps _ (by decide)), h.stairs_eq (hps _ (by decide)), h.cars_eq (hps _ (by decide)),
      h.restoreRefused_eq (hps _ (by decide))] using hfield
  · simpa only [State.soundLaw, hacts, hactive, hrole, h.speaker_eq (hps _ (by decide)),
      h.authority_eq (hps _ (by decide)), h.cadence_eq (hps _ (by decide))] using hsound
  · simpa only [State.peersLaw, State.floorEntry, hacts, hbase, h.lifecycle_eq (hps _ (by decide)),
      h.address_eq (hps _ (by decide)), h.floors_eq (hps _ (by decide))] using hpeers

theorem State.Aside.touches {s t : State} (h : s.Aside t) :
    Touches [.rx, .time, .link, .haltLamp, .lineLamp, .runLamp, .alarmLamp] s t := by
  cases h with
  | unseen h => exact h.mono (by decide)
  | flash l => exact (touches_onFlash l s).mono (by cases l <;> decide)

theorem State.Turn.acts {s t : State} (h : s.Turn t) : t.acts = s.acts := by
  cases h with
  | event hacts h => exact (evolves_finish _ s).acts.trans h.acts
  | aside h => exact h.touches.acts_eq (by decide)

theorem State.News.acts {s t : State} (h : s.News t) : t.acts = s.acts := by
  cases h with
  | received e => exact (evolves_finish _ s).acts.trans (evolves_rxAct e s).acts
  | completed slot f => exact (evolves_finish _ s).acts.trans ((touches_complete slot f s).acts_eq (by decide))

theorem State.Runs.acts {s t : State} {n : Nat} (h : s.Runs n t) : t.acts = s.acts :=
  h.keeps (P := fun u => u.acts = s.acts) (fun k hu => k.acts.trans hu) (fun k hu => k.acts.trans hu) rfl

/-- A station that does not act takes no event. -/
theorem State.Runs.dormant {P : State → Prop} (hP : ∀ {s t : State}, s.Aside t → P s → P t) {s t : State} {n : Nat}
    (h : s.Runs n t) (hacts : s.acts = false) (hs : P s) : t.acts = false ∧ P t := by
  refine h.keeps (P := fun u => u.acts = false ∧ P u) (fun k hu => ?_) (fun k hu => ?_) ⟨hacts, hs⟩
  · cases k with
    | event ha => rw [hu.1] at ha; cases ha
    | aside k => exact ⟨(k.touches.acts_eq (by decide)).trans hu.1, hP k hu.2⟩
  · cases k with
    | received e ha => rw [hu.1] at ha; cases ha
    | completed slot f ha => rw [hu.1] at ha; cases ha

/-- What a station that does not act holds beside its peer table (R3, R10). -/
theorem State.dormantLaw.blocks {s : State} (h : s.dormantLaw) (hacts : s.acts = false) :
    s.authority = Authority.none ∧ s.cadence = CadenceUnit.atReset ∧ s.speaker = Speaker.atReset
      ∧ s.regime = Regime.atReset := by
  rw [h hacts]
  refine ⟨(touches_loopback _).authority_eq (by decide), (touches_loopback _).cadence_eq (by decide),
    (touches_loopback _).speaker_eq (by decide), (touches_loopback _).regime_eq (by decide) (by decide) (by decide)
      (by decide) (by decide) (by decide)⟩

theorem FloorEntry.stands_iff (e : FloorEntry) : e.Stands ↔ (e.lobbyLatch = true → e.alarmLatch = true)
    ∧ e.disagreements ≤ 3 ∧ e.disagree = (e.disagreements == 3) := Iff.rfl

theorem blockLaws_releaseReset {s : State} (hs : s.BlockLaws) (hd : s.dormantLaw) (hl : s.station.lifecycle = .reset)
    (a : Nat) : (s.releaseReset a).BlockLaws := by
  have hacts : s.acts = false := by simp [State.acts, hl]
  obtain ⟨hauthority, hcadence, hspeaker, -⟩ := hd.blocks hacts
  obtain ⟨⟨hcount, -⟩, -, -, hentry, hage⟩ := hs
  have ht := touches_releaseReset a s
  have hquiet : (s.releaseReset a).acts = false := by
    cases hrole : roleOf a with
    | none => rw [releaseReset_of_noRole hrole]; rfl
    | some r => rw [releaseReset_of_role hrole, (touches_loopback _).acts_eq (by decide)]; rfl
  have hsound : (s.releaseReset a).soundLaw := by
    rw [State.soundLaw, ht.authority_eq (by decide), ht.cadence_eq (by decide), ht.speaker_eq (by decide), hauthority,
      hcadence, hspeaker]
    exact ⟨fun h => absurd h (by simp [hquiet]), rfl, nofun, fun _ => ⟨rfl, rfl, rfl⟩⟩
  refine ⟨fieldLaw_of_dormant hquiet (by rw [ht.restoreRefused_eq (by decide)]; exact hcount), hsound, ?_⟩
  cases hrole : roleOf a with
  | none =>
    rw [releaseReset_of_noRole hrole] at hquiet ⊢
    refine ⟨?_, hentry, hage⟩
    rintro (h | h)
    · rw [hquiet] at h
      cases h
    · cases h
  | some r =>
    rw [releaseReset_of_role hrole]
    have h := peersStand_loopback (s := s.released a r) rfl hrole hentry
      fun b hb => hage b ((mem_peerAddresses b).2 hb)
    exact ⟨fun _ => h.own, h.entry, fun b hb => h.age b ((mem_peerAddresses b).1 hb)⟩

/-- One change of each present car in turn. -/
theorem foldl_changeCar_car (f : Car → Car) {l : List Nat} (hl : l.Nodup) (s : State) {n : Nat} (hn : n < 4) :
    (l.foldl (fun t c => t.changeCar c f) s).car n
      = if n ∈ l ∧ (s.car n).present = true then f (s.car n) else s.car n := by
  induction l generalizing s with
  | nil => simp
  | cons c cs ih =>
    rw [List.foldl_cons, ih hl.of_cons, car_changeCar s c f hn]
    by_cases hnc : n = c
    · subst hnc
      simp [(List.nodup_cons.1 hl).1]
    · simp [hnc]

/-- A car at the entry to LISTEN: one sample of its inputs, and the input fault that they give (R127, R128). -/
theorem carsAtListen_record (s : State) {c : Nat} (hc : c < 4) : s.carsAtListen.car c =
    if s.station.role = some .lift ∧ (s.car c).present = true then ((s.car c).sampleAtListen s.pins c).deriveFault
    else s.car c := by
  unfold State.carsAtListen
  by_cases hrole : s.station.role = some .lift
  · have hsample : State.car { s with cars := s.cars.mapIdx fun i c => if c.present then c.sampleAtListen s.pins i else c } c
        = if (s.car c).present then (s.car c).sampleAtListen s.pins c else s.car c := Tab.at_mapIdx (h := hc) ..
    rw [if_pos (by simp [hrole])]
    dsimp only
    rw [foldl_changeCar_car _ List.nodup_range _ hc, hsample]
    by_cases hpresent : (s.car c).present = true
    · simp [hrole, hpresent, hc, Car.sampleAtListen]
    · simp [hpresent]
  · rw [if_neg (by simp [hrole]), if_neg fun h => hrole h.1]

theorem Car.Ordered.sampledAtListen {c : Car} (h : c.Ordered) (pins : Inputs) (i : Nat) :
    (c.sampleAtListen pins i).deriveFault.Ordered :=
  ⟨wrapCount_le _ _, h.target, h.timer, h.late, rfl, h.restore⟩

theorem tidy_listenEntry {s : State} (hd : s.dormantLaw) (hstation : s.stationLaw) (hs : s.BlockLaws)
    (hl : s.station.lifecycle = .load) {r : Role} (hr : s.station.role = some r) (record : Tab Byte 64) (pins : Inputs) :
    ((s.load r record).listenEntry pins).Tidy := by
  have hacts : s.acts = false := by simp [State.acts, hl]
  obtain ⟨hauthority, hcadence, hspeaker, -⟩ := hd.blocks hacts
  obtain ⟨⟨hcount, -⟩, -, hown, hentry, hage⟩ := hs
  have hload := touches_load r record s
  have hrole := role_load r record s
  have haddress := address_load r record s
  have hpost : ∃ r', (s.load r record).station.role = some r' ∧ roleOf (s.load r record).station.address = some r' :=
    ⟨r, hrole.trans hr, by rw [haddress, ← hstation.2.1 hl, hr]⟩
  have hpeers : (s.load r record).PeersStand := by
    have hbase (a : Nat) : (s.load r record).peers.base a = s.peers.base a := by
      rw [Peers.base, Peers.base, hload.floors_eq (by decide), hload.banks_eq (by decide), hload.consoles_eq (by decide)]
    refine ⟨?_, fun f hf => ?_, fun a ha => ?_⟩
    · rw [hbase, haddress]
      exact hown (.inr hl)
    · rw [State.floorEntry, hload.floors_eq (by decide)]
      exact hentry f hf
    · rw [hbase]
      exact hage a ((mem_peerAddresses a).2 ha)
  have hlistening : ((s.load r record).listening pins).Tidy := by
    refine ⟨hpost, fun z hz => ?_, fun i hi => ?_, ⟨?_, fun c hc => ?_⟩, ?_, ⟨hpeers.own, hpeers.entry, hpeers.age⟩⟩
    · rw [listening_zone pins _ hz]
      exact Zone.stands_atReset _ _
    · rw [listening_stair pins _ hi]
      exact Stair.stands_atReset _ _ _
    · exact (hload.restoreRefused_eq (by decide)).trans_le hcount
    · rw [listening_car pins _ hc]
      exact Car.stands_atReset _ _
    · have hauthority' := (hload.authority_eq (by decide)).trans hauthority
      have hcadence' := (hload.cadence_eq (by decide)).trans hcadence
      have hspeaker' := (hload.speaker_eq (by decide)).trans hspeaker
      refine ⟨?_, ?_, fun _ => ⟨hauthority', hcadence', ?_⟩⟩
      · change (s.load r record).authority.console.isSome = (s.load r record).authority.keep.isSome
        rw [hauthority']
        rfl
      · change ∀ c ∈ (s.load r record).authority.console, _
        rw [hauthority']
        nofun
      · change (s.load r record).speaker = { Speaker.atReset with source := (s.load r record).speaker.source }
        rw [hspeaker']
  have hstairs : ((s.load r record).listening pins).stairsAtListen.Tidy := by
    refine (touches_stairsAtListen _).tidyStairs (by decide) hlistening fun i hi => ?_
    have h := hlistening.stairs i hi
    have ht := touches_stairsAtListen ((s.load r record).listening pins)
    rw [stairsAtListen_stair _ hi, ht.role_eq (by decide), ht.image_eq (by decide)]
    split
    · rename_i hsampled
      obtain ⟨hfloor, hpresent⟩ := hsampled
      rw [hfloor] at h ⊢
      exact h.change hpresent ⟨rfl, rfl⟩ h.2.2.1
    · exact h
  have ht := touches_carsAtListen ((s.load r record).listening pins).stairsAtListen
  rw [listenEntry_eq]
  refine ht.tidyCars (by decide) hstairs ⟨?_, fun c hc => ?_⟩
  · rw [ht.restoreRefused_eq (by decide)]
    exact hstairs.cars.1
  · have h := hstairs.cars.2 c hc
    rw [carsAtListen_record _ hc, ht.role_eq (by decide), ht.image_eq (by decide)]
    split
    · rename_i hsampled
      obtain ⟨hlift, hpresent⟩ := hsampled
      rw [hlift] at h ⊢
      exact h.change hpresent rfl (h.2.1.sampledAtListen _ c)
    · exact h

/-- The end of LOAD. -/
theorem kept_configLoad {s : State} (hd : s.dormantLaw) (hstation : s.stationLaw) (hs : s.BlockLaws)
    (hl : s.station.lifecycle = .load) {r : Role} (hr : s.station.role = some r) (record : Tab Byte 64) (pins : Inputs) :
    (s.after (.configLoadComplete record pins)).Kept := by
  have ht := touches_sampledAtListen pins (s.load r record)
  have hlisten : ((s.load r record).listenEntry pins).acts = true := (ht.acts_eq (by decide)).trans rfl
  rw [after_configLoad hl hr]
  refine (tidy_listenEntry hd hstation hs hl hr record pins).kept hlisten fun c hc _ hactive => ?_
  rw [(touches_loadEnd r record pins s).active_eq (by decide) (by decide),
    (hd.blocks (by simp [State.acts, hl])).2.2.2] at hactive
  cases hactive

theorem blockLaws_ticked {s : State} (hs : s.BlockLaws) (pins : Inputs) : (s.ticked pins).BlockLaws := hs

/-- Every command keeps the laws of the blocks of a lawful state. -/
theorem blockLaws_after (c : Instr) {s : State} (hs : s.BlockLaws) (hd : s.dormantLaw) (hstation : s.stationLaw) :
    (s.after c).BlockLaws := by
  have hruns {n : Nat} {t : State} (h : s.Runs n t) :
      t.BlockLaws ∧ t.acts = s.acts ∧ (s.acts = true → t.Kept) := by
    cases hacts : s.acts with
    | true =>
      obtain ⟨hfield, hsound, hpeers⟩ := hs
      have hkept := (kept_of_laws hacts hstation hfield hsound hpeers).runs h
      exact ⟨hkept.laws, h.acts.trans hacts, fun _ => hkept⟩
    | false =>
      obtain ⟨hquiet, hlaws⟩ := h.dormant (P := State.BlockLaws) (fun k => k.touches.blockLaws (by decide)) hacts hs
      exact ⟨hlaws, hquiet, nofun⟩
  cases hstart : startsUp c with
  | true =>
    cases c with
    | reset => exact (reset_lawful_withPending s.pending).2.2.2.2.2.2.2
    | resetRelease straps =>
      by_cases hl : s.station.lifecycle = .reset
      · rw [after_resetRelease hl]
        exact blockLaws_releaseReset hs hd hl _
      · rwa [after_resetRelease_of_not hl]
    | configLoadComplete record pins =>
      by_cases hload : s.station.lifecycle = .load → s.station.role = none
      · rwa [after_configLoad_of_not hload]
      · obtain ⟨hl, hr⟩ := Classical.not_imp.1 hload
        obtain ⟨r, hr⟩ := Option.ne_none_iff_exists'.1 hr
        exact (kept_configLoad hd hstation hs hl hr record pins).laws
    | _ => cases hstart
  | false =>
    by_cases htick : ∃ pins, c = .tick pins
    · obtain ⟨pins, rfl⟩ := htick
      by_cases hl : s.station.lifecycle = .reset
      · rwa [after_tick_of_reset hl]
      · obtain ⟨hlaws, hacts, hkept⟩ := hruns (runs_settle s)
        rw [after_tick hl]
        cases ha : s.acts with
        | true => exact ((hkept ha).tickEvent (hacts.trans ha) pins).laws
        | false =>
          rw [tickEvent_of_not_acts (hacts.trans ha)]
          exact blockLaws_ticked hlaws pins
    · obtain ⟨n, h, -⟩ := runs_after hstart (fun pins h => htick ⟨pins, h⟩) s
      exact (hruns h).1

/-- Settles O55: each turn and all news keep every record within its law, and the reactions restore what follows from
the view; the start-up gives the records of the image. -/
theorem fieldSoundAndPeersStayLawful : Obligations.FieldSoundAndPeersStayLawful := by
  intro s t hs hstep
  obtain ⟨hdormant, hstation, -, -, -, -, -, hfield, hsound, hpeers⟩ := hs
  obtain ⟨-, rfl⟩ | ⟨c, rest, -, rfl⟩ := (step_next_iff s t).1 hstep
  · exact ⟨hfield, hsound, hpeers⟩
  · exact blockLaws_after c (s := { s with pending := rest }) ⟨hfield, hsound, hpeers⟩ (hdormant.withPending rest) hstation

end Sys2Proof.Machine
end

section
/-! ## The highest request is in service at the end of every event, or the step in hand stands (R143, R148) -/

namespace Sys2Proof.Machine

/-! ### Requests -/

/-- The requests read the flags of the speaker alone. -/
theorem present_congr {v : SpeakerView} {p q : Speaker} (htest : q.testRequest = p.testRequest)
    (hnotice : q.noticeRequest = p.noticeRequest) (hseqs : ∀ l, (q.seq l).finished = (p.seq l).finished) (l : Level) :
    q.present v l = p.present v l := by
  have h1 := hseqs .notice
  have h2 := hseqs .alert
  have h3 := hseqs .evacuate
  simp only [Speaker.seq] at h1 h2 h3
  cases l <;> simp only [Speaker.present, htest, hnotice, h1, h2, h3]

theorem highest_congr {v : SpeakerView} {p q : Speaker} (h : ∀ l, q.present v l = p.present v l) :
    q.highest v = p.highest v := by
  simp only [Speaker.highest, h]

/-- The highest level has its request, and no higher one. -/
theorem highest_iff (v : SpeakerView) (p : Speaker) (l : Level) : p.highest v = l
    ↔ p.present v l = true ∧ ∀ k : Level, l.code < k.code → p.present v k = false := by
  constructor
  · rintro rfl
    unfold Speaker.highest
    split_ifs with hm he ha hn ht
    · exact ⟨hm, fun k hk => by cases k <;> simp_all [Level.code]⟩
    · exact ⟨he, fun k hk => by cases k <;> simp_all [Level.code]⟩
    · exact ⟨ha, fun k hk => by cases k <;> simp_all [Level.code]⟩
    · exact ⟨hn, fun k hk => by cases k <;> simp_all [Level.code]⟩
    · exact ⟨ht, fun k hk => by cases k <;> simp_all [Level.code]⟩
    · exact ⟨rfl, fun k hk => by cases k <;> simp_all [Level.code]⟩
  · rintro ⟨hpresent, hhigher⟩
    unfold Speaker.highest
    cases l <;> simp_all [Level.code]

theorem highest_present (v : SpeakerView) (p : Speaker) : p.present v (p.highest v) = true :=
  ((highest_iff v p _).1 rfl).1

theorem Level.code_inj {a b : Level} (h : a.code = b.code) : a = b := by cases a <;> cases b <;> simp_all [Level.code]

/-- Where the highest request is withdrawn and no other comes, a lower one is the highest. -/
theorem highest_lt {v : SpeakerView} {p q : Speaker} (hgone : q.present v (p.highest v) = false)
    (hothers : ∀ l, q.present v l = true → p.present v l = true) : (q.highest v).code < (p.highest v).code := by
  have hhigher := ((highest_iff v p _).1 rfl).2
  have hq := highest_present v q
  rcases lt_trichotomy (q.highest v).code (p.highest v).code with hlt | heq | hgt
  · exact hlt
  · rw [Level.code_inj heq, hgone] at hq
    cases hq
  · have hp := hothers _ hq
    rw [hhigher _ hgt] at hp
    cases hp

/-! ### The entry to a level -/

theorem seq_setSeq (p : Speaker) (l k : Level) (q : SeqRecord) (h : q.finished = (p.seq l).finished) :
    ((p.setSeq l q).seq k).finished = (p.seq k).finished := by
  cases l <;> cases k <;> first | rfl | exact h

theorem requests_setSeq (p : Speaker) (l : Level) (q : SeqRecord) :
    (p.setSeq l q).testRequest = p.testRequest ∧ (p.setSeq l q).noticeRequest = p.noticeRequest := by
  cases l <;> exact ⟨rfl, rfl⟩

theorem level_setSeq (p : Speaker) (l : Level) (q : SeqRecord) : (p.setSeq l q).level = p.level := by
  cases l <;> rfl

/-- The requests of two speakers are the same. -/
def Speaker.Asks (p q : Speaker) : Prop := ∀ (v : SpeakerView) (l : Level), q.present v l = p.present v l

theorem Speaker.Asks.of {p q : Speaker} (htest : q.testRequest = p.testRequest)
    (hnotice : q.noticeRequest = p.noticeRequest) (hseqs : ∀ l, (q.seq l).finished = (p.seq l).finished) : p.Asks q :=
  fun _ l => present_congr htest hnotice hseqs l

theorem Speaker.Asks.trans {p q r : Speaker} (h : p.Asks q) (k : q.Asks r) : p.Asks r :=
  fun v l => (k v l).trans (h v l)

theorem Speaker.Asks.highest {p q : Speaker} (h : p.Asks q) (v : SpeakerView) : q.highest v = p.highest v :=
  highest_congr (h v)

theorem asks_setSeq (p : Speaker) {l : Level} {q : SeqRecord} (h : q.finished = (p.seq l).finished) :
    p.Asks (p.setSeq l q) :=
  .of (requests_setSeq p l q).1 (requests_setSeq p l q).2 fun k => seq_setSeq p l k q h

theorem asks_dropStep (p : Speaker) : p.Asks p.dropStep := .of rfl rfl fun l => by cases l <;> rfl

theorem asks_withLevel (p : Speaker) (l : Level) : p.Asks { p with level := l } :=
  .of rfl rfl fun k => by cases k <;> rfl

/-- A step that comes in hand changes no request and no level. -/
theorem enterStep_asks (v : SpeakerView) (note : EntryNote) (i : Nat) (p : Speaker) :
    p.Asks (p.enterStep v note i) ∧ (p.enterStep v note i).level = p.level := by
  have hmessage (m : Nat) (q : Speaker) : q.Asks (q.enterMessage v note m) ∧ (q.enterMessage v note m).level = q.level := by
    unfold Speaker.enterMessage
    split_ifs <;> exact ⟨.of rfl rfl fun l => by cases l <;> rfl, rfl⟩
  have hstep : p.Asks { p.dropStep with step := some i } := .of rfl rfl fun l => by cases l <;> rfl
  unfold Speaker.enterStep
  dsimp only
  split
  · exact ⟨.of rfl rfl fun l => by cases l <;> rfl, rfl⟩
  · exact ⟨.of rfl rfl fun l => by cases l <;> rfl, rfl⟩
  · exact ⟨hstep.trans (hmessage _ _).1, (hmessage _ _).2⟩
  · exact ⟨hstep, rfl⟩

/-- A sequence that finishes withdraws its own request alone (R145, R152). -/
theorem present_finish (v : SpeakerView) (p : Speaker) {l : Level} (hidle : l ≠ .idle) (hmanual : l ≠ .manual) :
    (p.finish l).present v l = false ∧ ∀ k, (p.finish l).present v k = true → p.present v k = true := by
  cases l with
  | idle => exact absurd rfl hidle
  | manual => exact absurd rfl hmanual
  | test =>
    refine ⟨rfl, fun k hk => ?_⟩
    cases k with
    | test => cases hk
    | _ => exact hk
  | notice =>
    refine ⟨by simp [Speaker.present, Speaker.finish, Speaker.setSeq], fun k hk => ?_⟩
    cases k with
    | notice => simp [Speaker.present, Speaker.finish, Speaker.setSeq] at hk
    | _ => exact hk
  | alert =>
    refine ⟨by simp [Speaker.present, Speaker.finish, Speaker.setSeq], fun k hk => ?_⟩
    cases k with
    | alert => simp [Speaker.present, Speaker.finish, Speaker.setSeq] at hk
    | _ => exact hk
  | evacuate =>
    refine ⟨by simp [Speaker.present, Speaker.finish, Speaker.setSeq], fun k hk => ?_⟩
    cases k with
    | evacuate => simp [Speaker.present, Speaker.finish, Speaker.setSeq] at hk
    | _ => exact hk

/-- The record of a sequence that is entered (R149). -/
def Speaker.entering (p : Speaker) (l : Level) (took : Bool) : Speaker :=
  ({ p with level := l }).setSeq l { p.seq l with resume := none, took := took }

theorem entering_asks (p : Speaker) (l : Level) (took : Bool) :
    p.Asks (p.entering l took) ∧ (p.entering l took).level = l := by
  refine ⟨(asks_withLevel p l).trans (asks_setSeq _ ?_), level_setSeq _ _ _⟩
  cases l <;> rfl

/-- The walk with which a level is entered (R149). -/
def Speaker.entryWalk (v : SpeakerView) (p : Speaker) (l : Level) : Walk :=
  walkFrom (l == .notice) (p.steps v l) 14 ((p.seq l).resume.getD 1)
    (if (p.seq l).resume.getD 1 = 1 then false else (p.seq l).took)

theorem enterLevel_of_sequence (v : SpeakerView) (note : EntryNote) (n : Nat) {l : Level} (hidle : l ≠ .idle)
    (hmanual : l ≠ .manual) (p : Speaker) : Speaker.enterLevel v note (n + 1) l p =
      if (p.entryWalk v l).hand then (p.entering l (p.entryWalk v l).took).enterStep v note (p.entryWalk v l).pos
      else Speaker.enterLevel v note n (((p.entering l (p.entryWalk v l).took).finish l).highest v)
        ((p.entering l (p.entryWalk v l).took).finish l) := by
  cases l with
  | idle => exact absurd rfl hidle
  | manual => exact absurd rfl hmanual
  | _ => rfl

/-- The level that a decision puts in service is the highest whose request is present (R148). -/
theorem enterLevel_highest (v : SpeakerView) (note : EntryNote) {n : Nat} {p : Speaker}
    (hn : (p.highest v).code < n) : let q := Speaker.enterLevel v note n (p.highest v) p
    q.highest v = q.level := by
  induction n generalizing p with
  | zero => cases hn
  | succ n ih =>
    by_cases hsequence : p.highest v ≠ .idle ∧ p.highest v ≠ .manual
    · rw [enterLevel_of_sequence v note n hsequence.1 hsequence.2]
      obtain ⟨hasks, hlevel⟩ := entering_asks p (p.highest v) (p.entryWalk v (p.highest v)).took
      split
      · obtain ⟨hstep, hstill⟩ := enterStep_asks v note (p.entryWalk v (p.highest v)).pos
          (p.entering (p.highest v) (p.entryWalk v (p.highest v)).took)
        exact ((hasks.trans hstep).highest v).trans (hlevel.symm.trans hstill.symm)
      · obtain ⟨hgone, hothers⟩ := present_finish v (p.entering (p.highest v) (p.entryWalk v (p.highest v)).took)
          hsequence.1 hsequence.2
        refine ih (lt_of_lt_of_le (b := (p.highest v).code) ?_ (Nat.le_of_lt_succ hn))
        exact highest_lt hgone fun k hk => (hasks v k).symm.trans (hothers k hk)
    · have hplain : Speaker.enterLevel v note (n + 1) (p.highest v) p = { p.dropStep with level := p.highest v } := by
        cases hh : p.highest v <;> first | rfl | simp [hh] at hsequence
      rw [hplain]
      exact ((asks_dropStep p).trans (asks_withLevel _ _)).highest v

theorem Level.code_lt_bound (l : Level) : l.code < decisionBound := by cases l <;> decide

/-! ### The reaction -/

/-- The highest request is in service, or the step in hand stands at no preemption point (R148). -/
def Speaker.Decided (v : SpeakerView) (p : Speaker) : Prop :=
  p.highest v = p.level ∨ (p.stepKind v = some .message ∧ p.highest v ≠ .manual)
  ∨ (p.stepKind v = some .tone ∧ p.waiting = false
      ∧ ((p.level = .alert ∧ v.alertPulse = true) ∨ (p.level = .evacuate ∧ v.evacPulse = true)))

theorem decided_of_not_preemptible {v : SpeakerView} {p : Speaker} (h : p.preemptible v = false) : p.Decided v := by
  unfold Speaker.preemptible at h
  split at h
  · rename_i hkind
    rw [Bool.or_eq_false_iff] at h
    obtain ⟨hwaiting, hpulse⟩ := h
    refine .inr (.inr ⟨hkind, hwaiting, ?_⟩)
    cases hlevel : p.level <;> simp_all [Level.cadence]
  · rename_i hkind
    exact .inr (.inl ⟨hkind, by simpa using h⟩)
  · cases h

theorem preempt_highest (v : SpeakerView) (p : Speaker) : (p.preempt v).highest v = (p.preempt v).level :=
  enterLevel_highest v EntryNote.plain (Level.code_lt_bound _)

theorem withSource_asks (v : SpeakerView) (p : Speaker) : p.Asks (p.withSource v) :=
  .of rfl rfl fun l => by cases l <;> rfl

theorem Speaker.Decided.withSource {v : SpeakerView} {p : Speaker} (h : p.Decided v) : (p.withSource v).Decided v := by
  have hhighest := (withSource_asks v p).highest v
  unfold Speaker.Decided
  rw [hhighest]
  exact h

/-- The requests as an event leaves them (R143, R151, R152). -/
def Speaker.heeded (became silencedNow : Bool) (p : Speaker) : Speaker :=
  let p1 := if became then { p with testRequest := false, noticeRequest := false } else p
  if silencedNow then { p1 with alertSeq := { p1.alertSeq with finished := false } } else p1

/-- The decision at the end of an event (R148). -/
def Speaker.decision (v : SpeakerView) (p : Speaker) : Speaker :=
  if p.highest v ≠ p.level ∧ p.preemptible v then p.preempt v else p

theorem react_eq_decision (v : SpeakerView) (became silencedNow : Bool) (p : Speaker) :
    p.react v became silencedNow = ((p.heeded became silencedNow).decision v).withSource v := rfl

theorem decided_decision (v : SpeakerView) (p : Speaker) : (p.decision v).Decided v := by
  unfold Speaker.decision
  split
  · exact .inl (preempt_highest v p)
  · rename_i h
    rw [not_and_or, not_not, Bool.not_eq_true] at h
    exact h.elim .inl decided_of_not_preemptible

theorem decided_react (v : SpeakerView) (became silencedNow : Bool) (p : Speaker) :
    (p.react v became silencedNow).Decided v := by
  rw [react_eq_decision]
  exact (decided_decision v _).withSource

/-! ### What a decision reads of the station -/

/-- The requests and the steps are read alike. -/
structure SpeakerView.Agrees (v w : SpeakerView) : Prop where
  active : w.active = v.active
  phase : w.phase = v.phase
  silenced : w.silenced = v.silenced
  manual : w.manual = v.manual
  alertSteps : w.alertSteps = v.alertSteps
  evacSteps : w.evacSteps = v.evacSteps
  noticeSteps : w.noticeSteps = v.noticeSteps

theorem SpeakerView.Agrees.present {v w : SpeakerView} (h : v.Agrees w) (p : Speaker) (l : Level) :
    p.present w l = p.present v l := by
  cases l <;> simp only [Speaker.present, h.active, h.phase, h.silenced, h.manual]

theorem SpeakerView.Agrees.highest {v w : SpeakerView} (h : v.Agrees w) (p : Speaker) : p.highest w = p.highest v := by
  simp only [Speaker.highest, h.present]

theorem SpeakerView.Agrees.stepKind {v w : SpeakerView} (h : v.Agrees w) (p : Speaker) :
    p.stepKind w = p.stepKind v := by
  have hsteps (l : Level) : p.steps w l = p.steps v l := by
    cases l <;> simp only [Speaker.steps, h.alertSteps, h.evacSteps, h.noticeSteps]
  simp only [Speaker.stepKind, hsteps]

theorem SpeakerView.Agrees.decided {v w : SpeakerView} (h : v.Agrees w)
    (halert : v.alertPulse = true → w.alertPulse = true) (hevac : v.evacPulse = true → w.evacPulse = true) {p : Speaker}
    (hp : p.Decided v) : p.Decided w := by
  unfold Speaker.Decided
  rw [h.highest, h.stepKind]
  exact hp.imp_right (.imp_right fun ⟨hkind, hwaiting, hpulse⟩ =>
    ⟨hkind, hwaiting, hpulse.imp (.imp_right halert) (.imp_right hevac)⟩)

theorem Touches.view_agrees {ps : List Part} {s t : State} (h : Touches ps s t) (hps : ∀ p ∈ [Part.identity, .image,
    .general, .origins, .phases, .silenceEpoch, .authority], p ∉ ps) : s.speakerView.Agrees t.speakerView := by
  have hphase : t.ownPhase = s.ownPhase := by
    rw [State.ownPhase, State.ownPhase, State.phaseOf, State.phaseOf, h.phases_eq (hps _ (by decide)),
      h.address_eq (hps _ (by decide))]
  have himage := h.image_eq (hps _ (by decide))
  exact {
    active := h.active_eq (hps _ (by decide)) (hps _ (by decide))
    phase := hphase
    silenced := congrArg (fun n : Nat => n % 2 == 1) (h.silenceEpoch_eq (hps _ (by decide)))
    manual := congrArg (fun a : Authority => a.console.isSome) (h.authority_eq (hps _ (by decide)))
    alertSteps := congrArg (fun i : Image => i.alertSteps.list) himage
    evacSteps := congrArg (fun i : Image => i.evacSteps.list) himage
    noticeSteps := congrArg (fun i : Image => i.noticeSteps.list) himage }

/-- A record that follows its run condition stays in its on-pulse. -/
theorem Cadence.onPulse_react {condition : Bool} {p : CadenceParams} {c : Cadence} (h : c.onPulse p = true) :
    (c.react condition).onPulse p = true := by
  obtain ⟨hrun, hpos⟩ := Bool.and_eq_true_iff.1 h
  unfold Cadence.react
  split_ifs
  · exact Bool.and_eq_true_iff.2 ⟨rfl, hpos⟩
  · exact Bool.and_eq_true_iff.2 ⟨rfl, hpos⟩
  · exact h

theorem cadenceReact_cadence {s : State} (hrole : s.actsAs .floor = true) : s.cadenceReact.cadence = { s.cadence with
    alert := s.cadence.alert.react (runCondition .alert s.ownPhase),
    evac := s.cadence.evac.react (runCondition .evacuate s.ownPhase) } := by
  rw [State.cadenceReact, if_pos hrole]

/-- What follows the cadences' reaction. -/
theorem finish_cadence {s : State} (h : s.acts = true) (old : State) :
    (s.finish old).cadence = (s.spoken old).cadenceReact.cadence := by
  rw [finish_eq_reacted h, (touches_builderReact _ _).cadence_eq (by decide), (touches_loopback _).cadence_eq (by decide),
    State.reacted, (touches_alarmLampReact _).cadence_eq (by decide)]

theorem finish_speaker {s : State} (h : s.acts = true) (old : State) :
    (s.finish old).speaker = (s.spoken old).speaker := (touches_finish_spoken h old).speaker_eq (by decide)

theorem role_activated (s old : State) : (s.activated old).station.role = s.station.role :=
  (touches_activated old s).role_eq (by decide)

theorem role_fielded (s old : State) : (s.fielded old).station.role = s.station.role :=
  ((touches_fielded old s).role_eq (by decide)).trans (role_activated s old)

theorem role_spoken (s old : State) : (s.spoken old).station.role = s.station.role :=
  ((touches_speakerReact old _ _).role_eq (by decide)).trans (role_fielded s old)

theorem spoken_of_floor {s : State} (h : s.acts = true) (hrole : s.station.role = some .floor) (old : State) :
    (s.spoken old).speaker = (s.fielded old).speaker.react (s.fielded old).speakerView (becameActive old s)
      (old.regime.silence % 2 == 0 && (s.fielded old).regime.silence % 2 == 1) := by
  rw [State.spoken, State.speakerReact,
    if_pos ((State.actsAs_of_acts (acts_fielded h old) .floor).2 ((role_fielded s old).trans hrole))]

/-- The end of an event decides (R148). -/
theorem decided_finish {s : State} (h : s.acts = true) (hrole : s.station.role = some .floor) (old : State) :
    (s.finish old).speaker.Decided (s.finish old).speakerView := by
  have hspoken : (s.spoken old).speaker.Decided (s.fielded old).speakerView := by
    rw [spoken_of_floor h hrole]
    exact decided_react _ _ _ _
  have hagrees := (touches_finish_fielded h old).view_agrees (by decide)
  have hfloor : (s.spoken old).actsAs .floor = true :=
    (State.actsAs_of_acts (acts_spoken h old) .floor).2 ((role_spoken s old).trans hrole)
  have hcadence : (s.spoken old).cadence = (s.fielded old).cadence := (touches_speakerReact old _ _).cadence_eq (by decide)
  have himage := (touches_finish_fielded h old).image_eq (by decide)
  have hreacts := (finish_cadence h old).trans (cadenceReact_cadence hfloor)
  rw [finish_speaker h]
  refine hagrees.decided (fun hp => ?_) (fun hp => ?_) hspoken
  · change ((s.finish old).cadence.alert.onPulse (s.finish old).image.alertCadence) = true
    rw [hreacts, himage, hcadence]
    exact Cadence.onPulse_react hp
  · change ((s.finish old).cadence.evac.onPulse (s.finish old).image.evacCadence) = true
    rw [hreacts, himage, hcadence]
    exact Cadence.onPulse_react hp

/-! ### Every command -/

/-- No cycle and no pulse boundary is due. -/
def CadenceUnit.Undue (u : CadenceUnit) : Prop :=
  u.alert.cycleDue = false ∧ u.evac.cycleDue = false ∧ u.alert.boundaryDue = false ∧ u.evac.boundaryDue = false

theorem decided_iff {s : State} (h : s.actsAs .floor = true) :
    s.decided ↔ s.speaker.Decided s.speakerView ∨ ¬ s.cadence.Undue := by
  have hdue : ¬ s.cadence.Undue ↔ s.cadence.alert.cycleDue = true ∨ s.cadence.evac.cycleDue = true
      ∨ s.cadence.alert.boundaryDue = true ∨ s.cadence.evac.boundaryDue = true := by
    simp only [CadenceUnit.Undue, not_and_or, Bool.not_eq_false]
  rw [hdue, Speaker.Decided, State.decided]
  simp only [h, forall_const, or_assoc]

theorem decided_of_speaker {s : State} (h : s.speaker.Decided s.speakerView) : s.decided :=
  fun hfloor => (decided_iff hfloor).2 (.inl h) hfloor

theorem decided_event {w old : State} (h : w.acts = true) : (w.finish old).decided := by
  intro hfloor
  have hrole : w.station.role = some .floor :=
    ((touches_finish w old).role_eq (by decide)).symm.trans ((State.actsAs_iff .floor _).1 hfloor).2
  exact decided_of_speaker (decided_finish h hrole old) hfloor

theorem decided_aside {s t : State} (hs : s.decided) (h : s.Aside t) : t.decided := by
  intro hfloor
  have ht := h.touches
  have hbefore : s.actsAs .floor = true := by
    rw [State.actsAs_iff] at hfloor ⊢
    rwa [ht.acts_eq (by decide), ht.role_eq (by decide)] at hfloor
  have hview := ht.view_agrees (by decide)
  have himage := ht.image_eq (by decide)
  have hcadence := ht.cadence_eq (by decide)
  refine (decided_iff hfloor).2 ?_ hfloor
  rw [hcadence, ht.speaker_eq (by decide)]
  refine ((decided_iff hbefore).1 hs).imp_left fun hp => hview.decided ?_ ?_ hp
  · change s.cadence.alert.onPulse s.image.alertCadence = true → t.cadence.alert.onPulse t.image.alertCadence = true
    rw [hcadence, himage]
    exact id
  · change s.cadence.evac.onPulse s.image.evacCadence = true → t.cadence.evac.onPulse t.image.evacCadence = true
    rw [hcadence, himage]
    exact id

theorem State.Runs.decided {s t : State} {n : Nat} (h : s.Runs n t) (hs : s.decided) : t.decided := by
  refine h.keeps (P := fun u => u.decided) (fun k hu => ?_) (fun k _ => ?_) hs
  · cases k with
    | event hacts k => exact decided_event (k.acts.trans hacts)
    | aside k => exact decided_aside hu k
  · cases k with
    | received e hacts => exact decided_event ((evolves_rxAct e _).acts.trans hacts)
    | completed slot f hacts => exact decided_event (((touches_complete slot f _).acts_eq (by decide)).trans hacts)

/-! ### TICK: what is due is taken before the positions advance (R155, R156, log 3) -/

/-- Nothing of the cadences falls due between two states. -/
def State.Calms (s t : State) : Prop := ∀ k : CadenceKind,
  ((s.cadence.record k).cycleDue = false → (t.cadence.record k).cycleDue = false)
  ∧ ((s.cadence.record k).boundaryDue = false → (t.cadence.record k).boundaryDue = false)

theorem State.Calms.trans {s t u : State} (h : s.Calms t) (k : t.Calms u) : s.Calms u :=
  fun j => ⟨(k j).1 ∘ (h j).1, (k j).2 ∘ (h j).2⟩

theorem State.Calms.of_records {s t : State} (h : ∀ k, (t.cadence.record k).cycleDue = (s.cadence.record k).cycleDue
    ∧ (t.cadence.record k).boundaryDue = (s.cadence.record k).boundaryDue) : s.Calms t :=
  fun k => ⟨(h k).1.trans, (h k).2.trans⟩

theorem State.Calms.of_cadence {s t : State} (h : t.cadence = s.cadence) : s.Calms t :=
  .of_records fun k => by rw [h]; exact ⟨rfl, rfl⟩

theorem Touches.calms {ps : List Part} {s t : State} (h : Touches ps s t) (hps : .cadence ∉ ps) : s.Calms t :=
  .of_cadence (h.cadence_eq hps)

theorem Cadence.due_react (condition : Bool) (c : Cadence) : (c.react condition).cycleDue = c.cycleDue
    ∧ (c.react condition).boundaryDue = c.boundaryDue := by
  unfold Cadence.react
  split_ifs <;> exact ⟨rfl, rfl⟩

theorem calms_cadenceReact (s : State) : s.Calms s.cadenceReact := by
  unfold State.cadenceReact
  split
  · exact .of_records fun k => by cases k <;> exact Cadence.due_react _ _
  · exact .of_cadence rfl

theorem calms_finish (s old : State) : s.Calms (s.finish old) := by
  cases h : s.acts with
  | false =>
    rw [finish_of_not_acts h]
    exact .of_cadence rfl
  | true =>
    have hspoken : (s.spoken old).cadence = s.cadence := by
      rw [State.spoken, (touches_speakerReact _ _ _).cadence_eq (by decide), (touches_fielded old s).cadence_eq (by decide),
        (touches_activated old s).cadence_eq (by decide)]
    have hend : (s.finish old).cadence = (s.spoken old).cadenceReact.cadence := finish_cadence h old
    exact ((State.Calms.of_cadence hspoken).trans (calms_cadenceReact _)).trans (.of_cadence hend)

theorem calms_event {due : Bool} {f : State → State} {s : State} (h : s.Calms (f s)) : s.Calms (s.event due f) := by
  unfold State.event
  split
  · exact h.trans (calms_finish _ s)
  · exact .of_cadence rfl

theorem record_setRecord (u : CadenceUnit) (k j : CadenceKind) (c : Cadence) :
    (u.setRecord k c).record j = if j = k then c else u.record j := by
  cases k <;> cases j <;> rfl

theorem records_pulseBegins (k j : CadenceKind) (s : State) :
    (s.pulseBegins k).cadence.record j = s.cadence.record j := by cases j <;> rfl

theorem due_pulseEnds (k j : CadenceKind) (last : Bool) (s : State) :
    ((s.pulseEnds k last).cadence.record j).cycleDue = (s.cadence.record j).cycleDue
    ∧ ((s.pulseEnds k last).cadence.record j).boundaryDue = (s.cadence.record j).boundaryDue := by
  have hfix (c : Cadence) : c.fix.cycleDue = c.cycleDue ∧ c.fix.boundaryDue = c.boundaryDue := by
    unfold Cadence.fix
    split <;> exact ⟨rfl, rfl⟩
  unfold State.pulseEnds
  dsimp only
  split_ifs <;> cases k <;> cases j <;> first | exact ⟨rfl, rfl⟩ | exact hfix _

/-- A boundary of record `k` that is taken is due no more (R156). -/
theorem due_pulseBoundary (k j : CadenceKind) (s : State) :
    ((s.pulseBoundary k).cadence.record j).cycleDue = (s.cadence.record j).cycleDue
    ∧ ((s.pulseBoundary k).cadence.record j).boundaryDue
      = if j = k then false else (s.cadence.record j).boundaryDue := by
  have hset : ((s.cadence.setRecord k { s.cadence.record k with boundaryDue := false }).record j).cycleDue
      = (s.cadence.record j).cycleDue
      ∧ ((s.cadence.setRecord k { s.cadence.record k with boundaryDue := false }).record j).boundaryDue
        = if j = k then false else (s.cadence.record j).boundaryDue := by
    rw [record_setRecord]
    split
    · rename_i hj
      rw [hj]
      exact ⟨rfl, rfl⟩
    · exact ⟨rfl, rfl⟩
  unfold State.pulseBoundary
  dsimp only
  split
  · rw [records_pulseBegins]
    exact hset
  · obtain ⟨hcycle, hboundary⟩ := due_pulseEnds k j
      ((s.cadence.record k).pos.getD 0 == (s.image.cadence k).tail)
      { s with cadence := s.cadence.setRecord k { s.cadence.record k with boundaryDue := false } }
    exact ⟨hcycle.trans hset.1, hboundary.trans hset.2⟩

theorem calms_pulseBoundary (k : CadenceKind) (s : State) : s.Calms (s.pulseBoundary k) := by
  intro j
  obtain ⟨hcycle, hboundary⟩ := due_pulseBoundary k j s
  refine ⟨hcycle.trans, fun h => ?_⟩
  rw [hboundary, h]
  exact ite_self _

/-- A cycle end of record `k` that is taken is due no more (R155, R157). -/
theorem due_cycleEnd (k j : CadenceKind) (s : State) :
    ((s.cycleEnd k).cadence.record j).cycleDue = (if j = k then false else (s.cadence.record j).cycleDue)
    ∧ ((s.cadence.record j).boundaryDue = false → ((s.cycleEnd k).cadence.record j).boundaryDue = false) := by
  have hset (c : Cadence) (hc : c.cycleDue = false ∧ c.boundaryDue = false) :
      ((s.cadence.setRecord k c).record j).cycleDue = (if j = k then false else (s.cadence.record j).cycleDue)
      ∧ ((s.cadence.record j).boundaryDue = false → ((s.cadence.setRecord k c).record j).boundaryDue = false) := by
    rw [record_setRecord]
    split
    · exact ⟨hc.1, fun _ => hc.2⟩
    · exact ⟨rfl, id⟩
  unfold State.cycleEnd
  dsimp only
  split
  · rename_i hdue
    have hdue : (s.cadence.record k).cycleDue = false := by simpa using hdue
    refine ⟨?_, id⟩
    split
    · rename_i hj
      rw [hj, hdue]
    · rfl
  · split
    · have hbegins (t : State) : (State.toneCycle k t).cadence = t.cadence := (touches_toneCycle k t).cadence_eq (by decide)
      split
      · rw [(touches_queueMark _ _).cadence_eq (by decide), hbegins, records_pulseBegins]
        exact hset _ ⟨rfl, rfl⟩
      · rw [hbegins, records_pulseBegins]
        exact hset _ ⟨rfl, rfl⟩
    · exact hset _ ⟨rfl, rfl⟩

theorem calms_cycleEnd (k : CadenceKind) (s : State) : s.Calms (s.cycleEnd k) := by
  intro j
  obtain ⟨hcycle, hboundary⟩ := due_cycleEnd k j s
  refine ⟨fun h => ?_, hboundary⟩
  rw [hcycle, h]
  exact ite_self _

theorem calms_standingLapsed (k : CadenceKind) (s : State) : s.Calms (s.standingLapsed k) :=
  .of_records fun j => by cases k <;> cases j <;> exact ⟨rfl, rfl⟩

theorem calms_onPulseBoundary (k : CadenceKind) (s : State) : s.Calms (s.onPulseBoundary k) :=
  calms_event (calms_pulseBoundary k s)

/-- What follows the pulse boundaries in the order of what is due (log 3). -/
def State.settleTail (s : State) : State :=
  ((s.onStrobePulseEnd.onStandingLapse .alert).onStandingLapse .evacuate).settleRest

theorem calms_onStrobePulseEnd (s : State) : s.Calms s.onStrobePulseEnd := by
  refine calms_event (f := fun t => { t with cadence := { t.cadence with strobe := none } }) (.of_records fun j => ?_)
  cases j <;> exact ⟨rfl, rfl⟩

theorem calms_onStandingLapse (k : CadenceKind) (s : State) : s.Calms (s.onStandingLapse k) :=
  calms_event (calms_standingLapsed k s)

theorem calms_settleRest (s : State) : s.Calms s.settleRest := by
  have hflash (l : Lamp) (t : State) : t.Calms (t.onFlash l) := (touches_onFlash l t).calms (by cases l <;> decide)
  have hdark (t : State) : t.Calms t.onLineDark := (touches_onLineDark t).calms (by decide)
  have hbeat (t : State) : t.Calms t.onHeartbeat := calms_event ((touches_heartbeat t).calms (by decide))
  have hspacing (t : State) : t.Calms t.onSpacingOpen := calms_event ((touches_openSpacing t).calms (by decide))
  have hkeep (t : State) : t.Calms t.onKeepPeriod := calms_event ((touches_keepPeriod t).calms (by decide))
  have hlink (t : State) : t.Calms t.onLinkKeepExpiry := calms_event ((touches_endLinkKeep t).calms (by decide))
  unfold State.settleRest
  exact ((((((((hflash .run s).trans (hflash .alarm _)).trans (hflash .haltedFault _)).trans (hdark _)).trans
    (hbeat _)).trans (hspacing _)).trans (hkeep _)).trans (hlink _))

theorem calms_settleTail (s : State) : s.Calms s.settleTail :=
  (((calms_onStrobePulseEnd s).trans (calms_onStandingLapse .alert _)).trans (calms_onStandingLapse .evacuate _)).trans
    (calms_settleRest _)

theorem settle_eq_tail (s : State) : ∃ t, Evolves s t
    ∧ s.settle = ((t.onCycleStart.onPulseBoundary .alert).onPulseBoundary .evacuate).settleTail :=
  ⟨s.settleSeconds.settleZones.settleStairs.settleCars.settleSpeaker,
    ((((evolves_settleSeconds s).trans (evolves_settleZones _)).trans (evolves_settleStairs _)).trans
      (evolves_settleCars _)).trans (evolves_settleSpeaker _), rfl⟩

/-- A taken event of the cadences leaves the flags that its work has put down. -/
theorem undue_event {due : Bool} {f : State → State} {s : State} {P : State → Prop} (htaken : due = true → P (f s))
    (hfinish : ∀ t old, P t → P (State.finish t old)) (hidle : due = false → P s) : P (s.event due f) := by
  unfold State.event
  split
  · exact hfinish _ _ (htaken ‹_›)
  · exact hidle (Bool.eq_false_iff.2 ‹_›)

/-- No cycle is due of record `k`; no pulse boundary is due of record `k`. -/
def State.NoCycle (k : CadenceKind) (s : State) : Prop := (s.cadence.record k).cycleDue = false
def State.NoBoundary (k : CadenceKind) (s : State) : Prop := (s.cadence.record k).boundaryDue = false

theorem State.Calms.noCycle {s t : State} (h : s.Calms t) {k : CadenceKind} (hs : s.NoCycle k) : t.NoCycle k := (h k).1 hs

theorem State.Calms.noBoundary {s t : State} (h : s.Calms t) {k : CadenceKind} (hs : s.NoBoundary k) :
    t.NoBoundary k := (h k).2 hs

theorem undue_iff (s : State) : s.cadence.Undue
    ↔ s.NoCycle .alert ∧ s.NoCycle .evacuate ∧ s.NoBoundary .alert ∧ s.NoBoundary .evacuate := Iff.rfl

theorem noCycle_onCycleStart {s : State} (hfloor : s.actsAs .floor = true) (k : CadenceKind) :
    s.onCycleStart.NoCycle k := by
  refine undue_event (P := State.NoCycle k) (fun _ => ?_) (fun t old h => (calms_finish t old k).1 h) fun h => ?_
  · rw [State.NoCycle, (due_cycleEnd .evacuate k _).1, (due_cycleEnd .alert k _).1]
    cases k <;> rfl
  · rw [hfloor, Bool.true_and, Bool.or_eq_false_iff] at h
    cases k
    · exact h.1
    · exact h.2

theorem noBoundary_onPulseBoundary {s : State} (hfloor : s.actsAs .floor = true) (k : CadenceKind) :
    (s.onPulseBoundary k).NoBoundary k := by
  refine undue_event (P := State.NoBoundary k) (fun _ => ?_) (fun t old h => (calms_finish t old k).2 h) fun h => ?_
  · rw [State.NoBoundary, (due_pulseBoundary k k _).2, if_pos rfl]
  · rw [hfloor, Bool.true_and] at h
    exact h

theorem Evolves.actsAs {s t : State} (h : Evolves s t) (r : Role) : t.actsAs r = s.actsAs r := by
  rw [State.actsAs, State.actsAs, h.acts, h.role]

/-- The cadences' own part of what is taken. -/
theorem undue_boundaries {s : State} (hfloor : s.actsAs .floor = true) :
    ((s.onCycleStart.onPulseBoundary .alert).onPulseBoundary .evacuate).cadence.Undue := by
  have hcycle := evolves_onCycleStart s
  have halert := hcycle.trans (evolves_onPulseBoundary .alert _)
  have hcalm := calms_onPulseBoundary .alert s.onCycleStart
  have hcalmer := calms_onPulseBoundary .evacuate (s.onCycleStart.onPulseBoundary .alert)
  have hfirst := noBoundary_onPulseBoundary ((hcycle.actsAs _).trans hfloor) .alert
  have hsecond := noBoundary_onPulseBoundary ((halert.actsAs _).trans hfloor) .evacuate
  rw [undue_iff]
  exact ⟨hcalmer.noCycle (hcalm.noCycle (noCycle_onCycleStart hfloor .alert)),
    hcalmer.noCycle (hcalm.noCycle (noCycle_onCycleStart hfloor .evacuate)), hcalmer.noBoundary hfirst, hsecond⟩

theorem State.Calms.undue {s t : State} (h : s.Calms t) (hs : s.cadence.Undue) : t.cadence.Undue := by
  obtain ⟨halert, hevac, hfirst, hsecond⟩ := (undue_iff s).1 hs
  exact (undue_iff t).2 ⟨h.noCycle halert, h.noCycle hevac, h.noBoundary hfirst, h.noBoundary hsecond⟩

/-- What is due of the cadences is taken before the tick event proper. -/
theorem undue_settle {s : State} (hfloor : s.actsAs .floor = true) : s.settle.cadence.Undue := by
  obtain ⟨t, hbefore, hsettle⟩ := settle_eq_tail s
  rw [hsettle]
  exact (calms_settleTail _).undue (undue_boundaries ((hbefore.actsAs _).trans hfloor))

/-! ### The tick event proper -/

/-- An on-pulse that a tick event ends leaves its boundary, or the end of the cycle, due (R155, R156). -/
theorem Cadence.onPulse_tick {p : CadenceParams} {c : Cadence} (h : c.onPulse p = true) :
    (c.tick p).onPulse p = true ∨ (c.tick p).cycleDue = true ∨ (c.tick p).boundaryDue = true := by
  obtain ⟨hrun, hpulse⟩ := Bool.and_eq_true_iff.1 h
  have hrun : c.run ≠ .stopped := bne_iff_ne.1 hrun
  obtain ⟨-, hstill, -, -, hmoves⟩ := Cadence.tick_eq p c
  cases hpos : c.pos with
  | none => simp [hpos] at hpulse
  | some n =>
    obtain ⟨hnext, hcycle, hboundary⟩ := hmoves n hrun hpos
    simp only [hpos, Bool.and_eq_true, decide_eq_true_eq, beq_iff_eq] at hpulse
    obtain ⟨htail, hphase⟩ := hpulse
    have hhalf : 0 < p.half := Nat.mul_pos (Nat.succ_pos _) (Nat.succ_pos _)
    by_cases hend : c.cycleLength p ≤ n + 1
    · exact .inr (.inl (by rw [hcycle]; exact decide_eq_true hend))
    by_cases hmod : (n + 1) % p.half = 0
    · exact .inr (.inr (by rw [hboundary]; exact decide_eq_true ⟨Nat.lt_of_not_le hend, htail, hmod⟩))
    · refine .inl ?_
      have hdiv : (n + 1) / p.half = n / p.half := by
        rw [Nat.succ_div, if_neg (by rwa [Nat.dvd_iff_mod_eq_zero]), Nat.add_zero]
      have hinside : n + 1 < p.tail := by
        refine lt_of_le_of_ne htail fun heq => hmod ?_
        rw [heq, CadenceParams.tail]
        exact Nat.mul_mod_right _ _
      simp only [Cadence.onPulse, hnext, hstill, hdiv, hphase, hinside, Bool.and_eq_true, bne_iff_ne, decide_true,
        beq_self_eq_true, and_true]
      exact hrun

theorem tick_asks (p : Speaker) : p.Asks p.tick := .of rfl rfl fun l => by cases l <;> rfl

theorem tickEvent_view (pins : Inputs) (s : State) (hacts : s.acts = true) :
    s.speakerView.Agrees (s.tickEvent pins).speakerView := by
  have ht := touches_tickEvent pins s
  have hconsole : (s.tickEvent pins).authority.console = s.authority.console := by rw [tickEvent_authority hacts]
  have hphase : (s.tickEvent pins).ownPhase = s.ownPhase := by
    rw [State.ownPhase, State.ownPhase, State.phaseOf, State.phaseOf, ht.phases_eq (by decide), ht.address_eq (by decide)]
  have himage := ht.image_eq (by decide)
  exact {
    active := ht.active_eq (by decide) (by decide)
    phase := hphase
    silenced := congrArg (fun n : Nat => n % 2 == 1) (ht.silenceEpoch_eq (by decide))
    manual := congrArg Option.isSome hconsole
    alertSteps := congrArg (fun i : Image => i.alertSteps.list) himage
    evacSteps := congrArg (fun i : Image => i.evacSteps.list) himage
    noticeSteps := congrArg (fun i : Image => i.noticeSteps.list) himage }

theorem decided_tickEvent {s : State} (hs : s.speaker.Decided s.speakerView) (hacts : s.acts = true)
    (hrole : s.station.role = some .floor) (pins : Inputs) : (s.tickEvent pins).decided := by
  have ht := touches_tickEvent pins s
  have hfloor : (s.tickEvent pins).actsAs .floor = true :=
    (State.actsAs_iff .floor _).2 ⟨(ht.acts_eq (by decide)).trans hacts, (ht.role_eq (by decide)).trans hrole⟩
  have hview := tickEvent_view pins s hacts
  have hcadence := tickEvent_cadence hacts hrole pins
  have himage := ht.image_eq (by decide)
  have hhighest : (s.tickEvent pins).speaker.highest (s.tickEvent pins).speakerView = s.speaker.highest s.speakerView := by
    rw [tickEvent_speaker hacts, (tick_asks s.speaker).highest, hview.highest]
  have hkind : (s.tickEvent pins).speaker.stepKind (s.tickEvent pins).speakerView
      = s.speaker.stepKind s.speakerView := by
    rw [tickEvent_speaker hacts, hview.stepKind]
    rfl
  have halert (hp : s.speakerView.alertPulse = true) : (s.tickEvent pins).speakerView.alertPulse = true
      ∨ ¬ (s.tickEvent pins).cadence.Undue := by
    change (s.tickEvent pins).cadence.alert.onPulse (s.tickEvent pins).image.alertCadence = true ∨ _
    rw [CadenceUnit.Undue, hcadence, himage]
    exact (Cadence.onPulse_tick hp).imp_right fun h hundue =>
      h.elim (Bool.eq_false_iff.1 hundue.1) (Bool.eq_false_iff.1 hundue.2.2.1)
  have hevac (hp : s.speakerView.evacPulse = true) : (s.tickEvent pins).speakerView.evacPulse = true
      ∨ ¬ (s.tickEvent pins).cadence.Undue := by
    change (s.tickEvent pins).cadence.evac.onPulse (s.tickEvent pins).image.evacCadence = true ∨ _
    rw [CadenceUnit.Undue, hcadence, himage]
    exact (Cadence.onPulse_tick hp).imp_right fun h hundue =>
      h.elim (Bool.eq_false_iff.1 hundue.2.1) (Bool.eq_false_iff.1 hundue.2.2.2)
  have hlevel : (s.tickEvent pins).speaker.level = s.speaker.level := by rw [tickEvent_speaker hacts]; rfl
  have hwaits : (s.tickEvent pins).speaker.waiting = s.speaker.waiting := by rw [tickEvent_speaker hacts]; rfl
  refine (decided_iff hfloor).2 ?_
  rw [Speaker.Decided, hhighest, hkind, hlevel, hwaits]
  obtain htop | hmessage | ⟨htone, hwaiting, ⟨hl, hp⟩ | ⟨hl, hp⟩⟩ := hs
  · exact .inl (.inl htop)
  · exact .inl (.inr (.inl hmessage))
  · exact (halert hp).imp_left fun h => .inr (.inr ⟨htone, hwaiting, .inl ⟨hl, h⟩⟩)
  · exact (hevac hp).imp_left fun h => .inr (.inr ⟨htone, hwaiting, .inr ⟨hl, h⟩⟩)

theorem decided_of_not_acts {s : State} (h : s.acts = false) : s.decided :=
  fun hfloor => by simp [State.acts_of_actsAs hfloor] at h

theorem decided_tick (pins : Inputs) {s : State} (hs : s.decided) : (s.after (.tick pins)).decided := by
  by_cases hl : s.station.lifecycle = .reset
  · rwa [after_tick_of_reset hl]
  rw [after_tick hl]
  have hsettled := (runs_settle s).decided hs
  have hevolves := evolves_settle s
  by_cases hfloor : s.actsAs .floor = true
  · have hstill : s.settle.actsAs .floor = true := (hevolves.actsAs _).trans hfloor
    obtain ⟨hacts, hrole⟩ := (State.actsAs_iff .floor _).1 hstill
    refine decided_tickEvent ?_ hacts hrole pins
    exact ((decided_iff hstill).1 hsettled).resolve_right (not_not.2 (undue_settle hfloor))
  · intro h
    have ht := touches_tickEvent pins s.settle
    rw [State.actsAs_iff, ht.acts_eq (by decide), ht.role_eq (by decide), ← State.actsAs_iff, hevolves.actsAs] at h
    exact absurd h hfloor

theorem acts_listenEntry (r : Role) (record : Tab Byte 64) (pins : Inputs) (s : State) :
    ((s.load r record).listenEntry pins).acts = true :=
  ((touches_sampledAtListen pins (s.load r record)).acts_eq (by decide)).trans rfl

theorem acts_releaseReset (a : Nat) (s : State) : (s.releaseReset a).acts = false := by
  cases hrole : roleOf a with
  | none => rw [releaseReset_of_noRole hrole]; rfl
  | some r => rw [releaseReset_of_role hrole, (touches_loopback _).acts_eq (by decide)]; rfl

/-- Every command keeps the decision. -/
theorem decided_after (c : Instr) {s : State} (hs : s.decided) : (s.after c).decided := by
  cases hstart : startsUp c with
  | true =>
    cases c with
    | reset => exact decided_of_not_acts rfl
    | resetRelease straps =>
      by_cases hl : s.station.lifecycle = .reset
      · rw [after_resetRelease hl]
        exact decided_of_not_acts (acts_releaseReset _ _)
      · rwa [after_resetRelease_of_not hl]
    | configLoadComplete record pins =>
      by_cases hload : s.station.lifecycle = .load → s.station.role = none
      · rwa [after_configLoad_of_not hload]
      · obtain ⟨hl, hr⟩ := Classical.not_imp.1 hload
        obtain ⟨r, hr⟩ := Option.ne_none_iff_exists'.1 hr
        rw [after_configLoad hl hr]
        exact decided_event (acts_listenEntry r record pins s)
    | _ => cases hstart
  | false =>
    by_cases htick : ∃ pins, c = .tick pins
    · obtain ⟨pins, rfl⟩ := htick
      exact decided_tick pins hs
    · obtain ⟨n, h, -⟩ := runs_after hstart (fun pins h => htick ⟨pins, h⟩) s
      exact h.decided hs

end Sys2Proof.Machine
end

section
/-! ## Every event leaves the blocks settled (R15, R68, R75, R116 to R122, R144, R155, R175) -/

namespace Sys2Proof.Machine

/-! ### The RUN lamp (R15) -/

/-- Lifecycle and RUN lamp stand, or the station has entered RUN. -/
def State.Lights (s t : State) : Prop :=
  (t.station.lifecycle = s.station.lifecycle ∧ t.lamps.runLit = s.lamps.runLit ∧ t.lamps.runFlash = s.lamps.runFlash)
  ∨ (t.station.lifecycle = .run ∧ t.lamps.runLit = true ∧ t.lamps.runFlash = none)

/-- RUN blinks in LISTEN and is lit in RUN. -/
def State.Blinks (s : State) : Prop :=
  (s.station.lifecycle = .listen → s.lamps.runFlash ≠ none)
  ∧ (s.station.lifecycle = .run → s.lamps.runFlash = none ∧ s.lamps.runLit = true)

theorem State.Lights.refl (s : State) : s.Lights s := .inl ⟨rfl, rfl, rfl⟩

theorem State.Lights.trans {s t u : State} (h : s.Lights t) (k : t.Lights u) : s.Lights u := by
  rcases k with ⟨hl, hlit, hflash⟩ | k
  · rwa [State.Lights, hl, hlit, hflash]
  · exact .inr k

theorem State.Lights.ite {p : Prop} [Decidable p] {s t u : State} (ht : s.Lights t) (hu : s.Lights u) :
    s.Lights (if p then t else u) := by
  split
  · exact ht
  · exact hu

theorem State.Lights.foldl {α : Type} (f : State → α → State) (h : ∀ t x, State.Lights t (f t x)) (l : List α)
    (s : State) : s.Lights (l.foldl f s) := by
  induction l generalizing s with
  | nil => exact .refl s
  | cons x xs ih => exact (h s x).trans (ih _)

theorem State.Lights.blinks {s t : State} (h : s.Lights t) (hs : s.Blinks) : t.Blinks := by
  rcases h with ⟨hl, hlit, hflash⟩ | ⟨hl, hlit, hflash⟩
  · rwa [State.Blinks, hl, hlit, hflash]
  · exact ⟨fun h => absurd (hl.symm.trans h) nofun, fun _ => ⟨hflash, hlit⟩⟩

theorem Touches.lights {ps : List Part} {s t : State} (h : Touches ps s t) (hps : .lifecycle ∉ ps ∧ .runLamp ∉ ps) :
    s.Lights t := .inl ⟨h.lifecycle_eq hps.1, h.runLit_eq hps.2, h.runFlash_eq hps.2⟩

theorem lights_runEntry (s : State) : s.Lights s.runEntry := .inr ⟨rfl, rfl, rfl⟩

theorem lights_alarmEntered (z : Nat) (s : State) : s.Lights (s.alarmEntered z) := by
  have horigin : s.Lights (s.alarmOrigin z) :=
    ((touches_peers s rfl).lights (by decide)).trans ((touches_alarmOrigin z s).lights (by decide))
  rw [alarmEntered_eq]
  exact .ite (horigin.trans (lights_runEntry _)) horigin

theorem lights_acceptClass (z : Nat) (c : LoopClass) (s : State) : s.Lights (s.acceptClass z c) := by
  have hchange (e : Nat) : s.Lights ((s.zoneFaults z c).changeZone z e (Zone.acceptClass s.regime.active c)) :=
    ((touches_zoneFaults z c s).lights (by decide)).trans ((touches_changeZone z e _ _).lights (by decide))
  unfold State.acceptClass
  exact .ite ((hchange _).trans (lights_alarmEntered z _)) (hchange _)

theorem lights_activateZone (s : State) (z : Nat) : s.Lights (s.activateZone z) := by
  have hstop : s.Lights (s.updZone z fun x => { x with stage := none }) := (touches_updZone z _ s).lights (by decide)
  unfold State.activateZone
  exact .ite (.ite (hstop.trans (lights_acceptClass z .alarm _)) hstop) (.refl s)

theorem lights_zonesActivated (s : State) : s.Lights s.zonesActivated :=
  .ite (.foldl _ lights_activateZone _ _) (.refl s)

theorem lights_mergeContent (a : Nat) (r : StatusRecord) (s : State) : s.Lights (s.mergeContent a r) := by
  have hstanding : s.Lights (s.setStanding a .current) := (touches_setStanding a .current s).lights (by decide)
  have hintake (t : State) : t.Lights (t.intake r) := (touches_intake r t).lights (by decide)
  unfold State.mergeContent
  split
  · rename_i phase _ _ _ zones _ _ _
    have hmerge (t : State) : t.Lights (t.mergeFloor a zones) := (touches_mergeFloor a zones t).lights (by decide)
    have hphase (t : State) : t.Lights { t with peers := t.peers.updFloor a fun e => { e with phase := phase } } :=
      (touches_peers t rfl).lights (by decide)
    have halarms (t : State) (was : Bool) : t.Lights (t.ownAlarms was) := .ite (lights_zonesActivated t) (.refl t)
    have hcheck (t : State) : t.Lights (t.checkPhase a) := (touches_checkPhase a t).lights (by decide)
    have hall := (((hstanding.trans (hmerge _)).trans (hintake _)).trans (hphase _)).trans (halarms _ s.regime.active)
    exact .ite hall (hall.trans (hcheck _))
  · exact hstanding.trans (hintake _)

theorem lights_mergeWindow (a : Nat) (g : Byte) (r : StatusRecord) (s : State) : s.Lights (s.mergeWindow a g r) := by
  have hcontent := lights_mergeContent a r s
  unfold State.mergeWindow
  refine .ite hcontent ?_
  split
  · exact ((touches_firstAdoption g s).lights (by decide)).trans (lights_mergeContent a r _)
  · exact .ite hcontent (.ite (((touches_adoptNewer g s).lights (by decide)).trans (lights_mergeContent a r _))
      ((touches_setStanding a .stale s).lights (by decide)))

theorem lights_merge (a : Nat) (g : Byte) (r : StatusRecord) (s : State) : s.Lights (s.merge a g r) := by
  have hbody (t : State) : t.Lights { t with peers := t.peers.takeBody a r.body } :=
    .inl ⟨rfl, rfl, rfl⟩
  rw [merge_eq]
  exact (((touches_refreshed a r s).lights (by decide)).trans (hbody _)).trans (lights_mergeWindow a g r _)

theorem lights_takeStatusFrame (f : Frame) (s : State) : s.Lights (s.takeStatusFrame f) := by
  unfold State.takeStatusFrame
  split
  · exact lights_merge _ _ _ s
  · exact (touches_setAside s).lights (by decide)

theorem lights_takeCommandFrame (f : Frame) (s : State) : s.Lights (s.takeCommandFrame f) := by
  unfold State.takeCommandFrame
  split
  · exact (touches_obey _ _ _ s).lights (by decide)
  · exact (touches_setAside s).lights (by decide)

theorem lights_takeMarkFrame (f : Frame) (at_ : Word16) (s : State) : s.Lights (s.takeMarkFrame f at_) := by
  unfold State.takeMarkFrame
  split
  · exact (touches_followMark _ _ _ s).lights (by decide)
  · exact (touches_setAside s).lights (by decide)

theorem lights_handOn (f : Frame) (at_ : Word16) (s : State) : s.Lights (s.handOn f at_) := by
  unfold State.handOn
  split
  · exact lights_takeStatusFrame f s
  · exact lights_takeStatusFrame f s
  · exact lights_takeStatusFrame f s
  · exact lights_takeCommandFrame f s
  · exact lights_takeMarkFrame f at_ s
  · exact .refl s

theorem lights_rxAct (e : RxEvent) (s : State) : s.Lights (s.rxAct State.handOn e) := by
  by_cases haccepted : ∃ f at_, e = .accepted f at_
  · obtain ⟨f, at_, rfl⟩ := haccepted
    have hcounted := (touches_countAccepted s).lights (by decide)
    change s.Lights (s.accept State.handOn f at_)
    unfold State.accept
    exact .ite (hcounted.trans ((touches_duplicateHeard _).lights (by decide)))
      (.ite (hcounted.trans ((touches_raiseAtOnce _ _ _).lights (by decide))) (hcounted.trans (lights_handOn f at_ _)))
  · exact (touches_discard (fun f a h => haccepted ⟨f, a, h⟩) State.handOn s).lights (by decide)

theorem lights_listenExpired (s : State) : s.Lights s.listenExpired := by
  unfold State.listenExpired
  exact .ite (lights_runEntry _) (.inl ⟨rfl, rfl, rfl⟩)

theorem State.LocalWork.lights {s w : State} (h : s.LocalWork w) : s.Lights w := by
  cases h with
  | classAccepted z c => exact lights_acceptClass z c s
  | stageExpired z => exact (touches_changeZone z 0 _ s).lights (by decide)
  | windowExpired z => exact (touches_changeZone z 0 _ s).lights (by decide)
  | stairInput i k => exact (touches_acceptStairInput i k s).lights (by decide)
  | mismatch i => exact (touches_mismatchExpired i s).lights (by decide)
  | heldOpen i => exact (touches_heldOpenExpired i s).lights (by decide)
  | carInput c i => exact (touches_acceptCarInput c i s).lights (by decide)
  | recallTimer c => exact (touches_recallExpired c s).lights (by decide)
  | sound _ h => exact h.lights (by decide)
  | lapse => exact (touches_lapseAuthority s).lights (by decide)
  | second =>
    exact ((touches_countSecond s).lights (by decide)).trans ((touches_secondWork _).lights (by decide))
  | silence a => exact (touches_silence a s).lights (by decide)
  | listenEnds => exact lights_listenExpired s
  | aloof h => exact h.lights (by decide)

theorem lights_finish (s old : State) : s.Lights (s.finish old) := by
  cases h : s.acts with
  | false =>
    rw [finish_of_not_acts h]
    exact .inl ⟨rfl, rfl, rfl⟩
  | true =>
    have hactivated : s.Lights (s.activated old) := .ite (lights_zonesActivated s) (.refl s)
    exact hactivated.trans ((touches_finish_activated h old).lights (by decide))

/-! ### What is settled, block by block -/

/-- A present stair under a demand: released by it, unlocked as release and mask command, in the state of its record, and
compared (R119 to R122). -/
def Stair.Follows (demand : Bool) (x : Stair) : Prop :=
  (demand = true → x.release = true)
  ∧ x.unlock = (x.release || (x.minterm % 4 + 12).testBit (2 * demand.toNat + x.key.accepted.toNat))
  ∧ x.state = (if x.release then .released else if x.feedbackFault then .fault else if x.unlock then .unlocked
      else .locked)
  ∧ (x.feedbackFault = true ∨ x.mismatch ≠ none ↔ x.feedback.accepted = x.unlock)

/-- The source is the one level and step give, and the cadences run under their conditions (R144, R155). -/
def State.SoundFollows (s : State) : Prop :=
  s.speaker.source = s.speaker.sourceNow s.speakerView
  ∧ (s.cadence.alert.run = .running ↔ s.ownPhase = .alert ∨ s.ownPhase = .evacuate)
  ∧ (s.cadence.evac.run = .running ↔ s.ownPhase = .evacuate)

/-- The own entry shows the station's own records (R68, R75). -/
structure State.OwnShown (s : State) : Prop where
  complete : (s.peers.base s.station.address).listenComplete = s.station.listenComplete
  digest : (s.peers.base s.station.address).digest = s.station.digest
  faultCount : (s.peers.base s.station.address).faultCount = s.faults.activeCount
  worstFault : (s.peers.base s.station.address).worstFault = s.faults.worst
  zones : s.station.role = some .floor → ∀ z < 8,
    (s.floorEntry s.station.address).zones.at z ZoneReport.quiet = (s.zone z).report
  stairs : s.station.role = some .floor → ∀ i < 4,
    (s.floorEntry s.station.address).stairs.at i .locked = (s.stair i).state
  sound : s.station.role = some .floor → (s.floorEntry s.station.address).phase = s.ownPhase
    ∧ (s.floorEntry s.station.address).level = s.speaker.level
    ∧ (s.floorEntry s.station.address).source = s.speaker.source
    ∧ (s.floorEntry s.station.address).authority = s.authority.console.getD 63
  cars : s.station.role = some .lift → ∀ c < 4,
    (s.bankEntry (s.station.address - 48)).cars.at c CarReport.rest = (s.car c).report
  refused : s.station.role = some .lift → (s.bankEntry (s.station.address - 48)).restoreRefused = s.restoreRefused
  link : s.station.role = some .console →
    (s.consoleEntry (s.station.address - 56)).linkAlive = s.link.keep.isSome

/-- The ALARM lamp flashes for an own alarm under an inactive regime, and is dark otherwise (R175). -/
def State.Flashes (s : State) : Prop :=
  (s.lamps.alarmFlash ≠ none ↔ s.station.role = some .floor ∧ s.regime.active = false ∧ ∃ z < 8, (s.zone z).state = .alarm)
  ∧ (s.lamps.alarmFlash = none → s.lamps.alarmLit = false)

/-- All blocks of an acting station are settled. -/
structure State.Rests (s : State) : Prop where
  stairs : s.station.role = some .floor → ∀ i < 4, (s.stair i).present = true → (s.stair i).Follows s.demand
  sound : s.station.role = some .floor → s.SoundFollows
  tenant : s.station.role ≠ some .floor → s.speaker.source = if s.regime.active then .mute else .tenant
  own : s.OwnShown
  lamp : s.Flashes
  run : s.Blinks

theorem sourceNow_eq (v : SpeakerView) (p : Speaker) : p.sourceNow v = (match p.level, p.stepKind v with
    | .idle, _ => if v.active then .mute else .tenant
    | .manual, _ => .live
    | _, some .tone => .tone
    | _, some .message => .message
    | _, _ => .mute) := by
  unfold Speaker.sourceNow
  cases p.level <;> cases p.stepKind v with
  | none => rfl
  | some k => cases k <;> rfl

theorem settled_iff (s : State) : s.settled ↔ (s.acts = true → s.Rests) := by
  refine forall_congr' fun _ => ⟨fun h => ?_, fun h => ?_⟩
  · obtain ⟨hfloor, hlift, hconsole, htenant, hflash, hdark, hlisten, hrun, hcomplete, hdigest, hcount, hworst⟩ := h
    exact {
      stairs := fun hr => (hfloor hr).1
      sound := fun hr => ⟨(hfloor hr).2.1.trans (sourceNow_eq _ _).symm, (hfloor hr).2.2.1, (hfloor hr).2.2.2.1⟩
      tenant := htenant
      own := {
        complete := hcomplete, digest := hdigest, faultCount := hcount, worstFault := hworst
        zones := fun hr => (hfloor hr).2.2.2.2.1
        stairs := fun hr => (hfloor hr).2.2.2.2.2.1
        sound := fun hr => (hfloor hr).2.2.2.2.2.2
        cars := fun hr => (hlift hr).1
        refused := fun hr => (hlift hr).2
        link := hconsole }
      lamp := ⟨hflash, hdark⟩
      run := ⟨hlisten, hrun⟩ }
  · obtain ⟨hstairs, hsound, htenant, hown, ⟨hflash, hdark⟩, ⟨hlisten, hrun⟩⟩ := h
    exact ⟨fun hr => ⟨hstairs hr, (hsound hr).1.trans (sourceNow_eq _ _), (hsound hr).2.1, (hsound hr).2.2,
      hown.zones hr, hown.stairs hr, hown.sound hr⟩, fun hr => ⟨hown.cars hr, hown.refused hr⟩, hown.link, htenant, hflash,
      hdark, hlisten, hrun, hown.complete, hown.digest, hown.faultCount, hown.worstFault⟩

/-! ### The end of an event -/

theorem Touches.demand_eq {ps : List Part} {s t : State} (h : Touches ps s t) (hps : ∀ p ∈ [Part.identity, .image,
    .general, .origins, .phases], p ∉ ps) : t.demand = s.demand := by
  simp only [State.demand, State.ownPhase, State.phaseOf, Regime.originFloors,
    h.active_eq (hps _ (by decide)) (hps _ (by decide)), h.address_eq (hps _ (by decide)), h.image_eq (hps _ (by decide)),
    h.phases_eq (hps _ (by decide)), h.origins_eq (hps _ (by decide))]

theorem Stair.check_compared (x : Stair) :
    x.check.feedbackFault = true ∨ x.check.mismatch ≠ none ↔ x.feedback.accepted = x.unlock := by
  have hagrees : x.agrees = true ↔ x.feedback.accepted ≠ x.unlock := by
    unfold Stair.agrees
    cases x.feedback.accepted <;> cases x.unlock <;> decide
  unfold Stair.check
  split
  · rename_i h
    simp [hagrees.1 h]
  · rename_i h
    rw [hagrees, not_not] at h
    split
    · simp [h, Timer.start]
    · rename_i hheld
      simp only [Bool.and_eq_true, Bool.not_eq_true', Option.isNone_iff_eq_none, not_and] at hheld
      simp only [h, iff_true]
      by_cases hfault : x.feedbackFault = true
      · exact .inl hfault
      · exact .inr (hheld (by simpa using hfault))

theorem Stair.follows_react (demand cleared became : Bool) (limit : Nat) {x : Stair} (h : x.present = true) :
    (x.react demand cleared became limit).Follows demand := by
  obtain ⟨hrelease, hunlock, hfault, hmismatch, hstate⟩ := Stair.react_eq (demand := demand) (cleared := cleared)
    (became := became) (limit := limit) h
  obtain ⟨-, hminterm, hinput⟩ := Stair.of_lines (Stair.lines_react demand cleared became limit x)
  have hkey := hinput .key
  have hfeedback := hinput .feedback
  change (x.react demand cleared became limit).key = x.key at hkey
  change (x.react demand cleared became limit).feedback = x.feedback at hfeedback
  refine ⟨fun hd => ?_, ?_, hstate, ?_⟩
  · rw [hrelease, hd]
    exact Bool.or_true _
  · rw [hunlock, hrelease, hminterm, hkey]
    rfl
  · rw [hfault, hmismatch, hfeedback, hunlock]
    exact Stair.check_compared (x.drive demand)

theorem Cadence.run_react (condition : Bool) (c : Cadence) :
    (c.react condition).run = .running ↔ condition = true := by
  unfold Cadence.react
  split
  · simp [*]
  · split <;> simp_all

theorem runCondition_iff (p : Phase) : (runCondition .alert p = true ↔ p = .alert ∨ p = .evacuate)
    ∧ (runCondition .evacuate p = true ↔ p = .evacuate) := by cases p <;> decide

theorem soundFollows_finish {s : State} (h : s.acts = true) (hrole : s.station.role = some .floor) (old : State) :
    (s.finish old).SoundFollows := by
  have hfloor : (s.spoken old).actsAs .floor = true :=
    (State.actsAs_of_acts (acts_spoken h old) .floor).2 ((role_spoken s old).trans hrole)
  have hview := (touches_finish_fielded h old).view_agrees (by decide)
  have hphase : (s.finish old).ownPhase = (s.spoken old).ownPhase := by
    have ht := touches_finish_spoken h old
    rw [State.ownPhase, State.ownPhase, State.phaseOf, State.phaseOf, ht.phases_eq (by decide), ht.address_eq (by decide)]
  have hcadence := (finish_cadence h old).trans (cadenceReact_cadence hfloor)
  obtain ⟨halert, hevac⟩ := runCondition_iff (s.spoken old).ownPhase
  refine ⟨?_, ?_, ?_⟩
  · have hsource (v w : SpeakerView) (hv : v.Agrees w) (p : Speaker) :
        (p.withSource v).source = (p.withSource v).sourceNow w := by
      rw [sourceNow_eq, hv.stepKind, hv.active, ← sourceNow_eq]
      rfl
    rw [finish_speaker h, spoken_of_floor h hrole, react_eq_decision]
    exact hsource _ _ hview _
  · rw [hcadence, hphase]
    exact (Cadence.run_react _ _).trans halert
  · rw [hcadence, hphase]
    exact (Cadence.run_react _ _).trans hevac

theorem finish_source_aside {s : State} (h : s.acts = true) (hrole : s.station.role ≠ some .floor) (old : State) :
    (s.finish old).speaker.source = if (s.finish old).regime.active then .mute else .tenant := by
  have hnot : ¬ (s.fielded old).actsAs .floor = true := fun hf =>
    hrole ((role_fielded s old).symm.trans ((State.actsAs_iff .floor _).1 hf).2)
  rw [finish_speaker h, (touches_finish_fielded h old).active_eq (by decide) (by decide), State.spoken,
    State.speakerReact, if_neg hnot]

theorem alarmFlashes_iff (s : State) : s.alarmFlashes = true ↔
    s.station.role = some .floor ∧ s.regime.active = false ∧ ∃ z < 8, (s.zone z).state = .alarm := by
  simp only [State.alarmFlashes, Bool.and_eq_true, beq_iff_eq, Bool.not_eq_true', and_assoc,
    Tab.any_iff _ _ (Zone.atReset .unused), State.zone]

theorem flashes_alarmLampReact (s : State) : s.alarmLampReact.Flashes := by
  have hlamp : (s.alarmLampReact.lamps.alarmFlash ≠ none ↔ s.alarmFlashes = true)
      ∧ (s.alarmLampReact.lamps.alarmFlash = none → s.alarmLampReact.lamps.alarmLit = false) := by
    unfold State.alarmLampReact
    split
    · rename_i hflashes
      split
      · rename_i hsome
        obtain ⟨n, hn⟩ := Option.isSome_iff_exists.1 hsome
        simp [hn, hflashes]
      · simp [hflashes, Timer.start]
    · rename_i hdark
      simp [hdark]
  have ht := touches_alarmLampReact s
  refine ⟨hlamp.1.trans ((alarmFlashes_iff s).trans ?_), hlamp.2⟩
  simp only [State.zone, ht.role_eq (by decide), ht.active_eq (by decide) (by decide), ht.zones_eq (by decide)]

theorem Touches.flashes {ps : List Part} {s t : State} (h : Touches ps s t) (hps : ∀ p ∈ [Part.identity, .general,
    .origins, .zones, .alarmLamp], p ∉ ps) (hs : s.Flashes) : t.Flashes := by
  simpa only [State.Flashes, State.zone, h.role_eq (hps _ (by decide)), h.zones_eq (hps _ (by decide)),
    h.active_eq (hps _ (by decide)) (hps _ (by decide)), h.alarmFlash_eq (hps _ (by decide)),
    h.alarmLit_eq (hps _ (by decide))] using hs

theorem ownShown_loopback {s : State} {r : Role} (hr : s.station.role = some r) (ha : roleOf s.station.address = some r) :
    s.loopback.OwnShown := by
  have ht := touches_loopback s
  have hbase : s.loopback.peers.base s.loopback.station.address = s.ownBase (s.peers.base s.station.address) := by
    rw [ht.address_eq (by decide), loopback_base_own hr ha]
  have hfloor (hf : s.loopback.station.role = some .floor) :
      s.loopback.floorEntry s.loopback.station.address = s.ownFloor (s.floorEntry s.station.address) := by
    rw [ht.role_eq (by decide)] at hf
    rw [ht.address_eq (by decide), State.loopback, hf]
    exact floorEntry_updFloor_self _ _ _ (roleOf_floor.1 (ha.trans (hr.symm.trans hf)))
  have hlift (hl : s.loopback.station.role = some .lift) : s.loopback.bankEntry (s.loopback.station.address - 48)
      = s.ownBank (s.bankEntry (s.station.address - 48)) := by
    rw [ht.role_eq (by decide)] at hl
    have := roleOf_lift.1 (ha.trans (hr.symm.trans hl))
    rw [ht.address_eq (by decide), State.loopback, hl]
    exact Tab.at_upd_self _ _ _ _ (by omega)
  have hconsole (hc : s.loopback.station.role = some .console) : s.loopback.consoleEntry (s.loopback.station.address - 56)
      = s.ownConsole (s.consoleEntry (s.station.address - 56)) := by
    rw [ht.role_eq (by decide)] at hc
    have := roleOf_console.1 (ha.trans (hr.symm.trans hc))
    rw [ht.address_eq (by decide), State.loopback, hc]
    exact Tab.at_upd_self _ _ _ _ (by omega)
  have hphase : s.loopback.ownPhase = s.ownPhase := by
    rw [State.ownPhase, State.ownPhase, State.phaseOf, State.phaseOf, ht.phases_eq (by decide), ht.address_eq (by decide)]
  exact {
    complete := by rw [hbase, ht.listenComplete_eq (by decide)]; rfl
    digest := by rw [hbase, ht.digest_eq (by decide)]; rfl
    faultCount := by rw [hbase, ht.faults_eq (by decide)]; rfl
    worstFault := by rw [hbase, ht.faults_eq (by decide)]; rfl
    zones := fun hf z hz => by
      rw [hfloor hf, State.zone, ht.zones_eq (by decide)]
      exact Tab.at_map _ _ _ _ _ hz
    stairs := fun hf i hi => by
      rw [hfloor hf, State.stair, ht.stairs_eq (by decide)]
      exact Tab.at_map (f := fun x : Stair => x.state) _ _ _ _ hi
    sound := fun hf => by
      rw [hfloor hf, hphase, ht.speaker_eq (by decide), ht.authority_eq (by decide)]
      exact ⟨rfl, rfl, rfl, rfl⟩
    cars := fun hl c hc => by
      rw [hlift hl, State.car, ht.cars_eq (by decide)]
      exact Tab.at_map _ _ _ _ _ hc
    refused := fun hl => by rw [hlift hl, ht.restoreRefused_eq (by decide)]; rfl
    link := fun hc => by rw [hconsole hc, ht.link_eq (by decide)]; rfl }

/-! ### Changes that none of it reads: samples, timers, the link, lamps that turn over -/

/-- Two stair records that differ in door, samples and in what is left on a timer at most. -/
structure Stair.Looks (x y : Stair) : Prop where
  present : y.present = x.present
  release : y.release = x.release
  minterm : y.minterm = x.minterm
  unlock : y.unlock = x.unlock
  key : y.key.accepted = x.key.accepted
  feedback : y.feedback.accepted = x.feedback.accepted
  fault : y.feedbackFault = x.feedbackFault
  mismatch : y.mismatch.isSome = x.mismatch.isSome
  state : y.state = x.state

theorem Timer.none_congr {a b : Timer} (h : Option.isSome a = Option.isSome b) : a = none ↔ b = none := by
  rw [← Option.isSome_eq_false_iff.trans Option.isNone_iff_eq_none, h, Option.isSome_eq_false_iff,
    Option.isNone_iff_eq_none]

theorem Stair.Looks.follows {x y : Stair} (h : x.Looks y) {demand : Bool} (hx : x.Follows demand) : y.Follows demand := by
  have hmismatch := not_congr (Timer.none_congr h.mismatch)
  simpa only [Stair.Follows, h.release, h.minterm, h.unlock, h.key, h.feedback, h.fault, h.state, ne_eq, hmismatch] using hx

/-- Two states that what is settled reads alike. -/
structure State.Looks (s t : State) : Prop where
  lifecycle : t.station.lifecycle = s.station.lifecycle
  role : t.station.role = s.station.role
  address : t.station.address = s.station.address
  complete : t.station.listenComplete = s.station.listenComplete
  digest : t.station.digest = s.station.digest
  floors : t.peers.floors = s.peers.floors
  banks : t.peers.banks = s.peers.banks
  consoles : t.peers.consoles = s.peers.consoles
  demand : t.demand = s.demand
  view : s.speakerView.Agrees t.speakerView
  zone : ∀ z < 8, (t.zone z).report = (s.zone z).report
  stair : ∀ i < 4, (s.stair i).Looks (t.stair i)
  car : ∀ c < 4, (t.car c).report = (s.car c).report
  refused : t.restoreRefused = s.restoreRefused
  level : t.speaker.level = s.speaker.level
  source : t.speaker.source = s.speaker.source
  step : t.speaker.stepKind s.speakerView = s.speaker.stepKind s.speakerView
  authority : t.authority.console = s.authority.console
  alertRun : t.cadence.alert.run = s.cadence.alert.run
  evacRun : t.cadence.evac.run = s.cadence.evac.run
  keep : t.link.keep.isSome = s.link.keep.isSome
  faults : t.faults = s.faults
  alarmFlash : t.lamps.alarmFlash.isSome = s.lamps.alarmFlash.isSome
  alarmLit : s.lamps.alarmFlash = none → t.lamps.alarmLit = s.lamps.alarmLit
  runFlash : t.lamps.runFlash.isSome = s.lamps.runFlash.isSome
  runLit : s.lamps.runFlash = none → t.lamps.runLit = s.lamps.runLit

section
variable {s t : State} (h : s.Looks t)
include h

theorem State.Looks.active : t.regime.active = s.regime.active := h.view.active
theorem State.Looks.phase : t.ownPhase = s.ownPhase := h.view.phase

theorem State.Looks.acts : t.acts = s.acts := by rw [State.acts, State.acts, h.lifecycle]

theorem State.Looks.sourceNow : t.speaker.sourceNow t.speakerView = s.speaker.sourceNow s.speakerView := by
  rw [sourceNow_eq, sourceNow_eq, h.view.stepKind, h.step, h.level, h.view.active]

theorem State.Looks.zoneState {z : Nat} (hz : z < 8) : (t.zone z).state = (s.zone z).state :=
  congrArg ZoneReport.state (h.zone z hz)

theorem State.Looks.ownShown (hs : s.OwnShown) : t.OwnShown := by
  have hbase : t.peers.base t.station.address = s.peers.base s.station.address := by
    rw [Peers.base, Peers.base, h.floors, h.banks, h.consoles, h.address]
  have hfloor : t.floorEntry t.station.address = s.floorEntry s.station.address := by
    rw [State.floorEntry, State.floorEntry, h.floors, h.address]
  have hbank : t.bankEntry (t.station.address - 48) = s.bankEntry (s.station.address - 48) := by
    rw [State.bankEntry, State.bankEntry, h.banks, h.address]
  have hconsole : t.consoleEntry (t.station.address - 56) = s.consoleEntry (s.station.address - 56) := by
    rw [State.consoleEntry, State.consoleEntry, h.consoles, h.address]
  have hrole {r : Role} (hr : t.station.role = some r) : s.station.role = some r := h.role ▸ hr
  exact {
    complete := by rw [hbase, h.complete]; exact hs.complete
    digest := by rw [hbase, h.digest]; exact hs.digest
    faultCount := by rw [hbase, h.faults]; exact hs.faultCount
    worstFault := by rw [hbase, h.faults]; exact hs.worstFault
    zones := fun hr z hz => by rw [hfloor, h.zone z hz]; exact hs.zones (hrole hr) z hz
    stairs := fun hr i hi => by rw [hfloor, (h.stair i hi).state]; exact hs.stairs (hrole hr) i hi
    sound := fun hr => by
      rw [hfloor, h.phase, h.level, h.source, h.authority]
      exact hs.sound (hrole hr)
    cars := fun hr c hc => by rw [hbank, h.car c hc]; exact hs.cars (hrole hr) c hc
    refused := fun hr => by rw [hbank, h.refused]; exact hs.refused (hrole hr)
    link := fun hr => by rw [hconsole, h.keep]; exact hs.link (hrole hr) }

theorem State.Looks.flashes (hs : s.Flashes) : t.Flashes := by
  obtain ⟨hflash, hdark⟩ := hs
  have halarm : (∃ z < 8, (t.zone z).state = .alarm) ↔ ∃ z < 8, (s.zone z).state = .alarm :=
    exists_congr fun z => and_congr_right fun hz => by rw [h.zoneState hz]
  refine ⟨?_, fun hnone => ?_⟩
  · rw [ne_eq, Timer.none_congr h.alarmFlash, h.role, h.active, halarm]
    exact hflash
  · have hnone := (Timer.none_congr h.alarmFlash).1 hnone
    exact (h.alarmLit hnone).trans (hdark hnone)

theorem State.Looks.blinks (hs : s.Blinks) : t.Blinks := by
  obtain ⟨hlisten, hrun⟩ := hs
  rw [State.Blinks, h.lifecycle, ne_eq, Timer.none_congr h.runFlash]
  exact ⟨hlisten, fun hl => ⟨(hrun hl).1, (h.runLit (hrun hl).1).trans (hrun hl).2⟩⟩

theorem State.Looks.rests (hs : s.Rests) : t.Rests where
  stairs hr i hi hp := by
    have hi' := h.stair i hi
    rw [h.demand]
    exact hi'.follows (hs.stairs (h.role ▸ hr) i hi (hi'.present ▸ hp))
  sound hr := by
    rw [State.SoundFollows, h.source, h.sourceNow, h.alertRun, h.evacRun, h.phase]
    exact hs.sound (h.role ▸ hr)
  tenant hr := by
    rw [h.source, h.active]
    exact hs.tenant (h.role ▸ hr)
  own := h.ownShown hs.own
  lamp := h.flashes hs.lamp
  run := h.blinks hs.run

theorem State.Looks.settled (hs : s.settled) : t.settled :=
  (settled_iff t).2 fun hacts => h.rests ((settled_iff s).1 hs (h.acts ▸ hacts))

end

/-- A change that touches nothing that is read but the lamps and the link. -/
theorem Touches.looks {ps : List Part} {s t : State} (h : Touches ps s t) (hps : ∀ p ∈ [Part.identity, .lifecycle,
    .listen, .image, .peers, .general, .origins, .phases, .silenceEpoch, .zones, .stairs, .cars, .restoreRefused, .speaker,
    .authority, .cadence, .faults], p ∉ ps) (hkeep : t.link.keep.isSome = s.link.keep.isSome)
    (halarm : t.lamps.alarmFlash.isSome = s.lamps.alarmFlash.isSome)
    (hdark : s.lamps.alarmFlash = none → t.lamps.alarmLit = s.lamps.alarmLit)
    (hrun : t.lamps.runFlash.isSome = s.lamps.runFlash.isSome)
    (hlit : s.lamps.runFlash = none → t.lamps.runLit = s.lamps.runLit) : s.Looks t where
  lifecycle := h.lifecycle_eq (hps _ (by decide))
  role := h.role_eq (hps _ (by decide))
  address := h.address_eq (hps _ (by decide))
  complete := h.listenComplete_eq (hps _ (by decide))
  digest := h.digest_eq (hps _ (by decide))
  floors := h.floors_eq (hps _ (by decide))
  banks := h.banks_eq (hps _ (by decide))
  consoles := h.consoles_eq (hps _ (by decide))
  demand := h.demand_eq fun p hp => hps p (by revert p; decide)
  view := h.view_agrees fun p hp => hps p (by revert p; decide)
  zone z _ := by rw [State.zone, State.zone, h.zones_eq (hps _ (by decide))]
  stair i _ := by rw [State.stair, State.stair, h.stairs_eq (hps _ (by decide))]; constructor <;> rfl
  car c _ := by rw [State.car, State.car, h.cars_eq (hps _ (by decide))]
  refused := h.restoreRefused_eq (hps _ (by decide))
  level := by rw [h.speaker_eq (hps _ (by decide))]
  source := by rw [h.speaker_eq (hps _ (by decide))]
  step := by rw [h.speaker_eq (hps _ (by decide))]
  authority := by rw [h.authority_eq (hps _ (by decide))]
  alertRun := by rw [h.cadence_eq (hps _ (by decide))]
  evacRun := by rw [h.cadence_eq (hps _ (by decide))]
  keep := hkeep
  faults := h.faults_eq (hps _ (by decide))
  alarmFlash := halarm
  alarmLit := hdark
  runFlash := hrun
  runLit := hlit

/-- A change of what none of it reads. -/
theorem Touches.looks_of_unread {ps : List Part} {s t : State} (h : Touches ps s t) (hps : ∀ p ∈ [Part.identity,
    .lifecycle, .listen, .image, .peers, .general, .origins, .phases, .silenceEpoch, .zones, .stairs, .cars,
    .restoreRefused, .speaker, .authority, .cadence, .faults, .alarmLamp, .runLamp], p ∉ ps)
    (hkeep : t.link.keep.isSome = s.link.keep.isSome) : s.Looks t :=
  h.looks (fun p hp => hps p (by revert p; decide)) hkeep (by rw [h.alarmFlash_eq (hps _ (by decide))])
    (fun _ => h.alarmLit_eq (hps _ (by decide))) (by rw [h.runFlash_eq (hps _ (by decide))])
    fun _ => h.runLit_eq (hps _ (by decide))

theorem Timer.due_ne_none {t : Timer} (h : t.due = true) : t ≠ none := by
  rintro rfl
  cases h

theorem looks_onFlash (l : Lamp) (s : State) : s.Looks (s.onFlash l) := by
  have ht := touches_onFlash l s
  have hkeep : (s.onFlash l).link.keep.isSome = s.link.keep.isSome := by rw [ht.link_eq (by cases l <;> decide)]
  cases l with
  | haltedFault => exact ht.looks_of_unread (by decide) hkeep
  | run =>
    refine ht.looks (by decide) hkeep (by rw [ht.alarmFlash_eq (by decide)]) (fun _ => ht.alarmLit_eq (by decide)) ?_ ?_
    · simp only [State.onFlash]
      split
      · exact (Option.isSome_iff_ne_none.2 (Timer.due_ne_none ‹_›)).symm
      · rfl
    · intro hnone
      simp only [State.onFlash]
      rw [if_neg fun hdue => Timer.due_ne_none hdue hnone]
  | alarm =>
    refine ht.looks (by decide) hkeep ?_ ?_ (by rw [ht.runFlash_eq (by decide)]) fun _ => ht.runLit_eq (by decide)
    · simp only [State.onFlash]
      split
      · exact (Option.isSome_iff_ne_none.2 (Timer.due_ne_none ‹_›)).symm
      · rfl
    · intro hnone
      simp only [State.onFlash]
      rw [if_neg fun hdue => Timer.due_ne_none hdue hnone]

theorem State.Aside.looks {s t : State} (h : s.Aside t) : s.Looks t := by
  cases h with
  | unseen h hkeep => exact h.looks_of_unread (by decide) hkeep
  | flash l => exact looks_onFlash l s

/-! ### Events -/

theorem rests_finish {s : State} (hacts : s.acts = true) (hpost : ∃ r, s.station.role = some r
    ∧ roleOf s.station.address = some r) (hrun : s.Blinks) (old : State) : (s.finish old).Rests := by
  have ht := touches_finish_activated hacts old
  have hrole : (s.finish old).station.role = s.station.role := (touches_finish s old).role_eq (by decide)
  refine ⟨fun hr i hi hp => ?_, fun hr => ?_, fun hr => ?_, ?_, ?_, (lights_finish s old).blinks hrun⟩
  · have hfloor := hrole.symm.trans hr
    rw [finish_stair hacts old hi, if_pos hfloor] at hp ⊢
    rw [(Stair.present_react _ _ _ _ _).1] at hp
    rw [ht.demand_eq (by decide)]
    exact Stair.follows_react _ _ _ _ hp
  · exact soundFollows_finish hacts (hrole.symm.trans hr) old
  · exact finish_source_aside hacts (fun h => hr (hrole.trans h)) old
  · obtain ⟨r, hr, ha⟩ := hpost
    have hbefore : Touches (.cadence :: .alarmLamp :: .speaker :: Part.activation) s (s.reacted old) :=
      (((touches_activated old s).andThen (touches_fielded old s) (rs := Part.activation) (by decide)
        (by decide)).andThen (touches_speakerReact old _ _) (by decide) (by decide)).andThen (touches_reacted old s)
        (ps := Part.activation) (by decide) (by decide)
    have hbuilder := touches_builderReact old (s.reacted old).loopback
    rw [finish_eq_reacted hacts]
    refine (hbuilder.looks_of_unread (by decide) (by rw [hbuilder.link_eq (by decide)])).ownShown
      (ownShown_loopback ((hbefore.role_eq (by decide)).trans hr) ?_)
    rwa [hbefore.address_eq (by decide)]
  · rw [finish_eq_reacted hacts]
    have hlater := (touches_loopback (s.reacted old)).andThen (touches_builderReact old _)
      (rs := [.peers, .changeDue, .statusSlot]) (by decide) (by decide)
    exact hlater.flashes (by decide) (flashes_alarmLampReact (s.spoken old).cadenceReact)

/-! ### The tick event proper -/

theorem tickEvent_unsampled {s : State} (h : s.acts = true) (pins : Inputs) :
    (s.tickEvent pins).station.listenComplete = s.station.listenComplete
    ∧ (s.tickEvent pins).link.keep = s.link.keep.tick ∧ (s.tickEvent pins).lamps = s.lamps.tick := by
  have ht := touches_samples (s.ticked pins).runTimers
  rw [tickEvent_of_acts h, ht.listenComplete_eq (by decide), ht.link_eq (by decide),
    ht.lamps_eq (by decide) (by decide) (by decide) (by decide)]
  exact ⟨rfl, rfl, rfl⟩

theorem Zone.report_congr {x y : Zone} (hstate : y.state = x.state) (haccepted : y.accepted = x.accepted) :
    y.report = x.report := by
  rw [Zone.report, Zone.report, Zone.condition, Zone.condition, hstate, haccepted]

theorem tickEvent_zoneReport {s : State} (h : s.acts = true) (pins : Inputs) {z : Nat} (hz : z < 8) :
    ((s.tickEvent pins).zone z).report = (s.zone z).report := by
  obtain ⟨hstate, haccepted, -⟩ := Zone.sample_eq (loopClass (pins.reading z)) (s.zone z)
  rw [tickEvent_zone h pins hz]
  split
  · exact Zone.report_congr hstate haccepted
  · rfl

theorem tickEvent_stairLooks {s : State} (h : s.acts = true) (pins : Inputs) {i : Nat} (hi : i < 4) :
    (s.stair i).Looks ((s.tickEvent pins).stair i) := by
  have haccepted (level : Bool) (d : Debounced) := (Debounced.sample_eq level d).1
  rw [tickEvent_stair h pins hi]
  dsimp only
  split
  · exact ⟨rfl, rfl, rfl, rfl, haccepted _ _, haccepted _ _, rfl, Timer.isSome_tick _, rfl⟩
  · exact ⟨rfl, rfl, rfl, rfl, rfl, rfl, rfl, Timer.isSome_tick _, rfl⟩

theorem tickEvent_carReport {s : State} (h : s.acts = true) (pins : Inputs) {c : Nat} (hc : c < 4) :
    ((s.tickEvent pins).car c).report = (s.car c).report := by
  rw [tickEvent_car h pins hc]
  dsimp only
  split <;> rfl

theorem tickEvent_runs {s : State} (h : s.acts = true) (pins : Inputs) :
    (s.tickEvent pins).cadence.alert.run = s.cadence.alert.run
    ∧ (s.tickEvent pins).cadence.evac.run = s.cadence.evac.run := by
  by_cases hrole : s.station.role = some .floor
  · rw [tickEvent_cadence h hrole]
    exact ⟨(Cadence.tick_eq _ _).2.1, (Cadence.tick_eq _ _).2.1⟩
  · rw [tickEvent_cadence_aside h hrole]
    exact ⟨rfl, rfl⟩

theorem looks_tickEvent {s : State} (h : s.acts = true) (pins : Inputs) : s.Looks (s.tickEvent pins) := by
  have ht := touches_tickEvent pins s
  have hspeaker := tickEvent_speaker h pins
  obtain ⟨hcomplete, hkeep, hlamps⟩ := tickEvent_unsampled h pins
  obtain ⟨halert, hevac⟩ := tickEvent_runs h pins
  exact {
    lifecycle := ht.lifecycle_eq (by decide)
    role := ht.role_eq (by decide)
    address := ht.address_eq (by decide)
    complete := hcomplete
    digest := ht.digest_eq (by decide)
    floors := ht.floors_eq (by decide)
    banks := ht.banks_eq (by decide)
    consoles := ht.consoles_eq (by decide)
    demand := ht.demand_eq (by decide)
    view := tickEvent_view pins s h
    zone := fun z hz => tickEvent_zoneReport h pins hz
    stair := fun i hi => tickEvent_stairLooks h pins hi
    car := fun c hc => tickEvent_carReport h pins hc
    refused := ht.restoreRefused_eq (by decide)
    level := by rw [hspeaker]; rfl
    source := by rw [hspeaker]; rfl
    step := by rw [hspeaker]; rfl
    authority := by rw [tickEvent_authority h]
    alertRun := halert
    evacRun := hevac
    keep := by rw [hkeep, Timer.isSome_tick]
    faults := ht.faults_eq (by decide)
    alarmFlash := by rw [hlamps]; exact Timer.isSome_tick _
    alarmLit := fun _ => by rw [hlamps]; rfl
    runFlash := by rw [hlamps]; exact Timer.isSome_tick _
    runLit := fun _ => by rw [hlamps]; rfl }

/-! ### Every command -/

theorem settled_of_not_acts {s : State} (h : s.acts = false) : s.settled :=
  (settled_iff s).2 fun ha => by rw [h] at ha; cases ha

theorem settled_event {s w : State} (hs : s.settled) (hacts : s.acts = true) (hw : w.acts = s.acts) (hpost : w.Tidy)
    (hlights : s.Lights w) : (w.finish s).settled :=
  (settled_iff _).2 fun _ =>
    rests_finish (hw.trans hacts) hpost.post (hlights.blinks ((settled_iff s).1 hs hacts).run) s

/-- What turns keep of a station that acts: its records, and that it is settled. -/
theorem State.Runs.settled {s t : State} {n : Nat} (h : s.Runs n t) (hkept : s.acts = true → s.Kept)
    (hs : s.settled) : t.settled := by
  cases hacts : s.acts with
  | false => exact (h.dormant (P := fun u => u.settled) (fun k => k.looks.settled) hacts hs).2
  | true =>
    refine (h.keeps (P := fun u => u.Kept ∧ u.settled) (fun k hu => ⟨hu.1.turn k, ?_⟩)
      (fun k hu => ⟨hu.1.news k, ?_⟩) ⟨hkept hacts, hs⟩).2
    · cases k with
      | event hacts k => exact settled_event hu.2 hacts k.acts (hu.1.toTidy.localWork k hu.1.idle).1 k.lights
      | aside k => exact k.looks.settled hu.2
    · cases k with
      | received e hacts =>
        exact settled_event hu.2 hacts (evolves_rxAct e _).acts (hu.1.toTidy.rxAct e) (lights_rxAct e _)
      | completed slot f hacts =>
        have ht := touches_complete slot f
        exact settled_event hu.2 hacts ((ht _).acts_eq (by decide)) (hu.1.toTidy.complete slot f).1
          ((ht _).lights (by decide))

theorem blinks_listenEntry (r : Role) (record : Tab Byte 64) (pins : Inputs) (s : State) :
    ((s.load r record).listenEntry pins).Blinks := by
  have hlisten : ((s.load r record).listening pins).Blinks := ⟨nofun, nofun⟩
  exact ((touches_sampledAtListen pins (s.load r record)).lights (by decide)).blinks hlisten

/-- Every command keeps an acting station of the laws settled. -/
theorem settled_after (c : Instr) {s : State} (hkept : s.acts = true → s.Kept) (hstation : s.stationLaw)
    (hs : s.settled) : (s.after c).settled := by
  cases hstart : startsUp c with
  | true =>
    cases c with
    | reset => exact settled_of_not_acts rfl
    | resetRelease straps =>
      by_cases hl : s.station.lifecycle = .reset
      · rw [after_resetRelease hl]
        exact settled_of_not_acts (acts_releaseReset _ _)
      · rwa [after_resetRelease_of_not hl]
    | configLoadComplete record pins =>
      by_cases hload : s.station.lifecycle = .load → s.station.role = none
      · rwa [after_configLoad_of_not hload]
      · obtain ⟨hl, hr⟩ := Classical.not_imp.1 hload
        obtain ⟨r, hr⟩ := Option.ne_none_iff_exists'.1 hr
        have hrole := role_loadEnd r record pins s
        have haddress : ((s.load r record).listenEntry pins).station.address = s.station.address :=
          ((touches_sampledAtListen pins _).address_eq (by decide)).trans (address_load r record s)
        rw [after_configLoad hl hr]
        refine (settled_iff _).2 fun _ => rests_finish (acts_listenEntry r record pins s) ⟨r, hrole.trans hr, ?_⟩
          (blinks_listenEntry r record pins s) s
        rw [haddress, ← hstation.2.1 hl, hr]
    | _ => cases hstart
  | false =>
    by_cases htick : ∃ pins, c = .tick pins
    · obtain ⟨pins, rfl⟩ := htick
      by_cases hl : s.station.lifecycle = .reset
      · rwa [after_tick_of_reset hl]
      · have hsettled := (runs_settle s).settled hkept hs
        rw [after_tick hl]
        cases hacts : s.settle.acts with
        | true => exact (looks_tickEvent hacts pins).settled hsettled
        | false =>
          refine settled_of_not_acts ?_
          rw [(touches_tickEvent pins s.settle).acts_eq (by decide), hacts]
    · obtain ⟨n, h, -⟩ := runs_after hstart (fun pins h => htick ⟨pins, h⟩) s
      exact h.settled hkept hs

/-- Settles O56: every event ends with the reactions, which settle each block, and with the decision; samples, timers and
lamps that turn over leave what both read. -/
theorem everyEventSettlesTheBlocks : Obligations.EveryEventSettlesTheBlocks := by
  refine ⟨fun s t hlaw hs hstep => ?_, settled_of_not_acts rfl, fun s t _ hs hstep => ?_, decided_of_not_acts rfl⟩
  · obtain ⟨-, hstation, -, -, -, -, -, hfield, hsound, hpeers⟩ := hlaw
    obtain ⟨-, rfl⟩ | ⟨c, rest, -, rfl⟩ := (step_next_iff s t).1 hstep
    · exact hs
    · exact settled_after c (s := { s with pending := rest })
        (fun hacts => kept_of_laws hacts hstation hfield hsound hpeers) hstation hs
  · obtain ⟨-, rfl⟩ | ⟨c, rest, -, rfl⟩ := (step_next_iff s t).1 hstep
    · exact hs
    · exact decided_after c (s := { s with pending := rest }) hs

end Sys2Proof.Machine
end

section
/-! ## The zones of the supervisor: verification, acceptance, and the commands for one zone (R58 to R70) -/

namespace Sys2Proof.Machine

/-! ### Zones at the end of an event that lets no regime in -/

theorem zone_finish_quiet {s old : State} (h : becameActive old s = false) (i : Nat) :
    (s.finish old).zone i = s.zone i := by
  rw [State.zone, State.zone, (touches_finish_quiet s old h).zones_eq (by decide)]

theorem zone_updZone_ne (s : State) {z i : Nat} (f : Zone → Zone) (h : i ≠ z) : (s.updZone z f).zone i = s.zone i :=
  Tab.at_upd_ne _ _ _ _ _ h

theorem becameActive_changeZone (z e : Nat) (f : Zone → Zone) (s : State) :
    becameActive s (s.changeZone z e f) = false :=
  have ht := touches_changeZone z e f s
  becameActive_same (ht.active_eq (by decide) (by decide)) (ht.generation_eq (by decide))

/-- An event that changes one zone and nothing else, and is due. -/
theorem zones_changeEvent {due : Bool} {z : Nat} {f : Zone → Zone} {s : State} (hz : z < 8) (hdue : due = true) :
    (s.event due (State.changeZone z 0 f)).zone z = (s.zone z).account 0 (f (s.zone z))
    ∧ ∀ i, i ≠ z → (s.event due (State.changeZone z 0 f)).zone i = s.zone i := by
  have hfinish (i : Nat) : (s.event due (State.changeZone z 0 f)).zone i = (s.changeZone z 0 f).zone i := by
    rw [State.event, if_pos hdue]
    exact zone_finish_quiet (becameActive_changeZone z 0 f s) i
  refine ⟨?_, fun i hi => ?_⟩
  · rw [hfinish, State.changeZone, zone_updZone s z _ hz, if_pos rfl]
  · rw [hfinish, State.changeZone, zone_updZone_ne s _ hi]

/-- A change of state outside ALARM counts one (R59). -/
theorem Zone.account_moved {old new : Zone} (hmoved : old.state ≠ new.state) (hold : old.state ≠ .alarm)
    (hnew : new.state ≠ .alarm) :
    old.account 0 new = { new with latch := true, count := (old.count + 1) % 256 } := by
  have hchanges : old.changes new = 1 := by
    rw [Zone.changes, if_neg hmoved, Zone.condition, Zone.condition, beq_false_of_ne hold, beq_false_of_ne hnew]
    rfl
  simp [Zone.account, hchanges, wrapCount]

/-! ### The stages of verification (R58, R63, R64) -/

section
variable {z : Nat} {s : State} (hz : z < 8) (hrole : s.actsAs .floor = true) (hstage : (s.zone z).stage = some 0)
include hz hrole hstage

theorem onStageExpiry_zones (hin : (s.zone z).inStage = true) :
    (s.onStageExpiry z).zone z = (s.zone z).account 0 ((s.zone z).stageExpired s.regime.active)
    ∧ ∀ i, i ≠ z → (s.onStageExpiry z).zone i = s.zone i :=
  zones_changeEvent hz (by simp [hrole, hin, (Timer.due_iff _).2 hstage])

theorem onConfirmExpiry_zones (hstate : (s.zone z).state = .verifyConfirm) :
    (s.onConfirmExpiry z).zone z = (s.zone z).account 0 (s.zone z).confirmExpired
    ∧ ∀ i, i ≠ z → (s.onConfirmExpiry z).zone i = s.zone i :=
  zones_changeEvent hz (by simp [hrole, hstate, (Timer.due_iff _).2 hstage])

end

/-- Settles O35: each expiry changes the record of one zone, and lets no regime in. -/
theorem verificationRunsItsStages : Obligations.VerificationRunsItsStages := by
  refine ⟨fun z s hrole hstage => ⟨fun hstate => ?_, fun hstate => ?_, fun hstate => ?_⟩, fun z s hstage => ?_⟩
  · obtain ⟨hself, hothers⟩ := onStageExpiry_zones z.isLt hrole hstage (by simp [Zone.inStage, hstate])
    refine ⟨s.onStageExpiry z, rfl, ?_, hothers, (touches_onStageExpiry z s).2⟩
    rw [hself, Zone.stageExpired, hstate]
    exact Zone.account_moved (by simp [hstate]) (by simp [hstate]) (by simp)
  · obtain ⟨hself, hothers⟩ := onStageExpiry_zones z.isLt hrole hstage (by simp [Zone.inStage, hstate])
    refine ⟨s.onStageExpiry z, rfl, ?_, hothers, (touches_onStageExpiry z s).2⟩
    rw [hself, Zone.stageExpired, hstate]
    exact Zone.account_moved (by simp [hstate]) (by simp [hstate]) (by simp)
  · obtain ⟨hself, hothers⟩ := onConfirmExpiry_zones z.isLt hrole hstage hstate
    refine ⟨s.onConfirmExpiry z, rfl, ?_, hothers, (touches_onConfirmExpiry z s).2⟩
    rw [hself]
    exact Zone.account_moved (by simp [hstate, Zone.confirmExpired]) (by simp [hstate]) (by simp [Zone.confirmExpired])
  · have hidle : (s.zone z).stage.due = false := Bool.eq_false_iff.2 fun h => hstage ((Timer.due_iff _).1 h)
    refine ⟨congrArg Host.Outcome.next (a₁ := s.onStageExpiry z) ?_, congrArg Host.Outcome.next
      (a₁ := s.onConfirmExpiry z) ?_⟩
    · rw [State.onStageExpiry, State.event, if_neg (by simp [hidle])]
    · rw [State.onConfirmExpiry, State.event, if_neg (by simp [hidle])]

/-! ### The acceptance of a class (R58 to R66) -/

/-- A zone record that accepts a class, with the latch and count of the acceptance (R59, R60). -/
def Zone.taken (active : Bool) (c : LoopClass) (z : Zone) : Zone :=
  z.account (if z.accepted = none then 0 else 1) (z.acceptClass active c)

/-- The record and the faults of a zone that accepts a class, before its alarm is answered. -/
def State.classRecorded (z : Nat) (c : LoopClass) (s : State) : State :=
  (s.zoneFaults z c).changeZone z (if (s.zone z).accepted = none then 0 else 1) (Zone.acceptClass s.regime.active c)

theorem acceptClass_eq (z : Nat) (c : LoopClass) (s : State) : s.acceptClass z c
    = if (s.zone z).state ≠ .alarm ∧ (s.zone z).nextState s.regime.active c = .alarm
      then (s.classRecorded z c).alarmEntered z else s.classRecorded z c := rfl

theorem touches_classRecorded (z : Nat) (c : LoopClass) (s : State) : Touches [.faults, .zones] s (s.classRecorded z c) :=
  (touches_zoneFaults z c s).andThen (touches_changeZone z _ _ _) (by decide) (by decide)

theorem zone_zoneFaults (z : Nat) (c : LoopClass) (s : State) (y : Nat) : (s.zoneFaults z c).zone y = s.zone y := by
  rw [State.zone, State.zone, (touches_zoneFaults z c s).zones_eq (by decide)]

theorem zone_alarmEntered (z : Nat) (s : State) (y : Nat) : (s.alarmEntered z).zone y = s.zone y := by
  rw [State.zone, State.zone, (touches_alarmEntered z s).zones_eq (by decide)]

theorem zone_acceptClass_of_recorded (z : Nat) (c : LoopClass) (s : State) (y : Nat) :
    (s.acceptClass z c).zone y = (s.classRecorded z c).zone y := by
  rw [acceptClass_eq]
  split
  · exact zone_alarmEntered z _ y
  · rfl

theorem zone_acceptClass_self {z : Nat} (hz : z < 8) (c : LoopClass) (s : State) :
    (s.acceptClass z c).zone z = (s.zone z).taken s.regime.active c := by
  rw [zone_acceptClass_of_recorded, State.classRecorded, State.changeZone, zone_updZone _ z _ hz, if_pos rfl,
    zone_zoneFaults, Zone.taken]

theorem zone_acceptClass_ne {z y : Nat} (h : y ≠ z) (c : LoopClass) (s : State) :
    (s.acceptClass z c).zone y = s.zone y := by
  rw [zone_acceptClass_of_recorded, State.classRecorded, State.changeZone, zone_updZone_ne _ _ h, zone_zoneFaults]

/-- The faults of zone `z` read alike. -/
def State.SameLoop (z : Nat) (s t : State) : Prop :=
  t.faults.holds .zoneOpen (z + 1) = s.faults.holds .zoneOpen (z + 1)
  ∧ t.faults.holds .zoneShort (z + 1) = s.faults.holds .zoneShort (z + 1)

theorem State.SameLoop.refl (z : Nat) (s : State) : s.SameLoop z s := ⟨rfl, rfl⟩

theorem State.SameLoop.trans {z : Nat} {s t u : State} (h : s.SameLoop z t) (k : t.SameLoop z u) : s.SameLoop z u :=
  ⟨k.1.trans h.1, k.2.trans h.2⟩

theorem KeepsFaults.sameLoop {ks : List FaultKind} {s t : State} (h : KeepsFaults ks s t)
    (hks : .zoneOpen ∉ ks ∧ .zoneShort ∉ ks) (z : Nat) : s.SameLoop z t := ⟨h _ _ hks.1, h _ _ hks.2⟩

theorem Touches.sameLoop {ps : List Part} {s t : State} (h : Touches ps s t) (hps : .faults ∉ ps) (z : Nat) :
    s.SameLoop z t := by
  rw [State.SameLoop, h.faults_eq hps]
  exact ⟨rfl, rfl⟩

theorem sameLoop_clearFault {z y : Nat} (h : y ≠ z) (k : FaultKind) (s : State) :
    s.SameLoop y (s.clearFault k (z + 1)) :=
  ⟨FaultList.holds_clear_other _ _ _ _ _ fun hk => h (Nat.succ.inj hk.2).symm,
    FaultList.holds_clear_other _ _ _ _ _ fun hk => h (Nat.succ.inj hk.2).symm⟩

/-- The faults of other zones stand where a zone accepts the ALARM class (R61). -/
theorem sameLoop_acceptAlarm {z y : Nat} (h : y ≠ z) (s : State) : s.SameLoop y (s.acceptClass z .alarm) := by
  have hrecorded : s.SameLoop y (s.classRecorded z .alarm) :=
    ((sameLoop_clearFault h .zoneOpen s).trans (sameLoop_clearFault h .zoneShort _)).trans
      ((touches_changeZone z _ _ _).sameLoop (by decide) y)
  rw [acceptClass_eq]
  split
  · exact hrecorded.trans ((keepsFaults_alarmEntered z _).sameLoop (by decide) y)
  · exact hrecorded

/-! ### The zones when the regime becomes active (R65) -/

/-- A zone record when the regime becomes active: the confirm window stops, and an ALARM run in hand is accepted. -/
def Zone.activated (z : Zone) : Zone :=
  if z.supervised ∧ z.state = .verifyConfirm then
    if z.candidate = some .alarm ∧ 1 ≤ z.run then Zone.taken true .alarm { z with stage := none }
    else { z with stage := none }
  else z

theorem Zone.taken_of_confirm (active : Bool) {z : Zone} (h : z.state = .verifyConfirm) :
    z.taken active .alarm = z.taken true .alarm := by
  have hnext (b : Bool) : z.nextState b .alarm = .alarm := by rw [Zone.nextState, h]
  rw [Zone.taken, Zone.taken, Zone.acceptClass, Zone.acceptClass, hnext, hnext]

theorem zone_activateZone_self {z : Nat} (hz : z < 8) (s : State) : (s.activateZone z).zone z = (s.zone z).activated := by
  have hstop : (s.updZone z fun x => { x with stage := none }).zone z = { s.zone z with stage := none } := by
    rw [zone_updZone s z _ hz, if_pos rfl]
  unfold State.activateZone Zone.activated
  dsimp only
  split
  · rename_i hconfirm
    split
    · rw [zone_acceptClass_self hz, hstop]
      exact Zone.taken_of_confirm _ hconfirm.2
    · exact hstop
  · rfl

theorem zone_activateZone_ne {z y : Nat} (h : y ≠ z) (s : State) : (s.activateZone z).zone y = s.zone y := by
  unfold State.activateZone
  dsimp only
  split
  · split
    · rw [zone_acceptClass_ne h, zone_updZone_ne s _ h]
    · exact zone_updZone_ne s _ h
  · rfl

theorem sameLoop_activateZone {s : State} {z y : Nat} (h : y ≠ z ∨ (s.zone z).state ≠ .verifyConfirm) :
    s.SameLoop y (s.activateZone z) := by
  unfold State.activateZone
  dsimp only
  split
  · rename_i hconfirm
    have hne := h.resolve_right fun hne => hne hconfirm.2
    have hstop := (touches_updZone z (fun x => { x with stage := none }) s).sameLoop (by decide) y
    split
    · exact hstop.trans (sameLoop_acceptAlarm hne _)
    · exact hstop
  · exact .refl y s

theorem foldl_activateZone {l : List Nat} (hl : l.Nodup) (hlt : ∀ z ∈ l, z < 8) (s : State) (y : Nat) :
    (l.foldl State.activateZone s).zone y = if y ∈ l then (s.zone y).activated else s.zone y := by
  induction l generalizing s with
  | nil => simp
  | cons z zs ih =>
    obtain ⟨hz, hzs⟩ := List.nodup_cons.1 hl
    rw [List.foldl_cons, ih hzs fun x hx => hlt x (List.mem_cons_of_mem z hx)]
    by_cases hy : y = z
    · subst hy
      rw [if_neg hz, if_pos List.mem_cons_self, zone_activateZone_self (hlt y List.mem_cons_self)]
    · rw [zone_activateZone_ne hy]
      simp [hy]

theorem zone_zonesActivated {s : State} (hrole : s.actsAs .floor = true) (y : Nat) :
    s.zonesActivated.zone y = if y < 8 then (s.zone y).activated else s.zone y := by
  rw [State.zonesActivated, if_pos hrole, foldl_activateZone List.nodup_range (fun z => List.mem_range.1)]
  simp only [List.mem_range]

/-- Own zones at the end of an event. -/
theorem zone_finish {s : State} (hrole : s.actsAs .floor = true) (old : State) (y : Nat) :
    (s.finish old).zone y = if becameActive old s = true ∧ y < 8 then (s.zone y).activated else s.zone y := by
  have hlater : (s.finish old).zone y = (s.activated old).zone y := by
    rw [State.zone, (touches_finish_activated (State.acts_of_actsAs hrole) old).zones_eq (by decide), State.zone]
  rw [hlater, State.activated]
  split
  · rename_i hbecame
    rw [zone_zonesActivated hrole]
    simp [hbecame]
  · rename_i hquiet
    rw [if_neg fun h => hquiet h.1]

theorem Zone.activated_of_not_confirm {z : Zone} (h : z.state ≠ .verifyConfirm) : z.activated = z :=
  if_neg fun hconfirm => h hconfirm.2

/-- A zone out of VERIFY-CONFIRM keeps its faults where the regime becomes active. -/
theorem sameLoop_zonesActivated {s : State} {y : Nat} (h : (s.zone y).state ≠ .verifyConfirm) :
    s.SameLoop y s.zonesActivated := by
  unfold State.zonesActivated
  split
  · refine (foldl_keeps (P := fun t => (t.zone y).state ≠ .verifyConfirm ∧ s.SameLoop y t) _ (fun z hz t ht => ⟨?_, ?_⟩)
      ⟨h, .refl y s⟩).2
    · by_cases hy : y = z
      · subst hy
        rw [zone_activateZone_self (List.mem_range.1 hz), Zone.activated_of_not_confirm ht.1]
        exact ht.1
      · rw [zone_activateZone_ne hy]
        exact ht.1
    · refine ht.2.trans (sameLoop_activateZone ?_)
      by_cases hy : y = z
      · exact .inr (hy ▸ ht.1)
      · exact .inl hy
  · exact .refl y s

theorem keepsFaults_finish_activated (s old : State) (h : s.acts = true) :
    KeepsFaults FaultKind.reactions (s.activated old) (s.finish old) := by
  rw [finish_eq_reacted h]
  exact keepsFaults_react old _ _ _

/-- A zone out of VERIFY-CONFIRM, or an event that lets no regime in, keeps the zone's faults at the end. -/
theorem sameLoop_finish {s old : State} {y : Nat}
    (h : becameActive old s = true → (s.zone y).state ≠ .verifyConfirm) : s.SameLoop y (s.finish old) := by
  cases hacts : s.acts with
  | false =>
    rw [finish_of_not_acts hacts]
    exact .refl y s
  | true =>
    have hactivated : s.SameLoop y (s.activated old) := by
      unfold State.activated
      split
      · exact sameLoop_zonesActivated (h ‹_›)
      · exact .refl y s
    exact hactivated.trans ((keepsFaults_finish_activated s old hacts).sameLoop (by decide) y)

/-! ### LOOP_CLASS_ACCEPTED -/

theorem FaultList.finds_clear {k : FaultKind} {n : Nat} (k' : FaultKind) (n' : Nat) {l : FaultList}
    (h : l.finds k n = true) : (l.clear k' n').finds k n = true := by
  have hrecord (r : FaultRecord) :
      (if r.is k' n' then { r with active := false } else r).is k n = r.is k n
      ∧ (r.active = false → (if r.is k' n' then { r with active := false } else r).active = false) := by
    split
    · exact ⟨rfl, fun _ => rfl⟩
    · exact ⟨rfl, id⟩
  simp only [FaultList.finds, FaultList.clear, Bool.or_eq_true, List.any_eq_true, List.length_map, List.any_map,
    Function.comp_apply, (hrecord _).1] at h ⊢
  refine h.imp_right fun ⟨r, hr, ha⟩ => ⟨r, hr, ?_⟩
  rw [Bool.not_eq_true'] at ha ⊢
  exact (hrecord r).2 ha

theorem holds_zoneFaults (z : Nat) (c : LoopClass) (s : State) :
    (c ≠ .opened → (s.zoneFaults z c).faults.holds .zoneOpen (z + 1) = false)
    ∧ (c ≠ .short → (s.zoneFaults z c).faults.holds .zoneShort (z + 1) = false)
    ∧ (c = .opened → s.faults.finds .zoneOpen (z + 1) = true → (s.zoneFaults z c).faults.holds .zoneOpen (z + 1) = true)
    ∧ (c = .short → s.faults.finds .zoneShort (z + 1) = true →
        (s.zoneFaults z c).faults.holds .zoneShort (z + 1) = true) := by
  have hcleared : (s.clearZoneFaults z).faults.holds .zoneOpen (z + 1) = false
      ∧ (s.clearZoneFaults z).faults.holds .zoneShort (z + 1) = false :=
    ⟨(FaultList.holds_clear_other .zoneShort .zoneOpen _ _ _ (by simp)).trans (FaultList.holds_clear _ _ _),
      FaultList.holds_clear _ _ _⟩
  cases c with
  | opened =>
    refine ⟨fun h => absurd rfl h, fun _ => ?_, fun _ h => FaultList.holds_raise _ _ _ _ (FaultList.finds_clear _ _ h),
      nofun⟩
    exact (FaultList.holds_raise_other _ _ _ _ _ _ (by simp)).trans (FaultList.holds_clear _ _ _)
  | short =>
    refine ⟨fun _ => ?_, fun h => absurd rfl h, nofun, fun _ h => FaultList.holds_raise _ _ _ _ (FaultList.finds_clear _ _ h)⟩
    exact (FaultList.holds_raise_other _ _ _ _ _ _ (by simp)).trans (FaultList.holds_clear _ _ _)
  | normal => exact ⟨fun _ => hcleared.1, fun _ => hcleared.2, nofun, nofun⟩
  | alarm => exact ⟨fun _ => hcleared.1, fun _ => hcleared.2, nofun, nofun⟩

/-- The state that an accepted class gives a classified zone (R60, R62, R64, R65, R66). -/
theorem Zone.nextState_eq {z : Zone} (h : z.classified = true) (active : Bool) (c : LoopClass) :
    z.nextState active c = (match z.state, c with
      | .alarm, _ => .alarm
      | .verifyConfirm, .alarm => .alarm
      | .verifyConfirm, .normal => if z.stage.isSome then .verifyConfirm else .normal
      | .verifyConfirm, _ => .fault
      | _, .alarm => if (z.kind = .detector ∨ z.kind = .lobby) ∧ active = false then .verifyReset else .alarm
      | _, .normal => .normal
      | _, _ => .fault) := by
  have hverified : (z.verified && !active) = true ↔ (z.kind = .detector ∨ z.kind = .lobby) ∧ active = false := by
    simp [Zone.verified]
  obtain ⟨-, hstate⟩ := (Zone.classified_iff z).1 h
  unfold Zone.nextState
  simp only [hverified]
  cases hs : z.state <;> cases c <;> first | rfl | simp [hs] at hstate

/-- The latch and the count of an acceptance (R59). -/
theorem Zone.taken_counted (active : Bool) (c : LoopClass) (z : Zone) :
    let now := z.taken active c
    let changes := (if now.state = z.state then 0 else 1)
      + (if (now.state = .alarm ∧ c = .alarm ↔ z.state = .alarm ∧ z.accepted = some .alarm) then 0 else 1)
      + (if z.accepted = none then 0 else 1)
    now.latch = (z.latch || decide (0 < changes)) ∧ now.count = (z.count + changes) % 256 := by
  have hcondition : z.condition = (z.acceptClass active c).condition
      ↔ ((z.acceptClass active c).state = .alarm ∧ c = .alarm ↔ z.state = .alarm ∧ z.accepted = some .alarm) := by
    rw [Bool.eq_iff_iff]
    simp only [Zone.condition, Bool.and_eq_true, beq_iff_eq]
    exact iff_comm.trans (iff_congr (and_congr_right fun _ => Option.some_inj) Iff.rfl)
  have hstate : z.state = (z.acceptClass active c).state ↔ (z.acceptClass active c).state = z.state := eq_comm
  dsimp only [Zone.taken, Zone.account, Zone.changes]
  simp only [hcondition, hstate, wrapCount]
  exact ⟨by congr, trivial⟩

/-- The mark of an acceptance that enters ALARM (R66). -/
theorem Zone.taken_marked (active : Bool) (c : LoopClass) (z : Zone) : (z.taken active c).mark
    = (z.mark || decide ((z.taken active c).state = .alarm ∧ z.state ≠ .alarm)) := by
  have hstate : (z.taken active c).state = z.nextState active c := rfl
  have hmark : (z.taken active c).mark = (z.mark || (z.nextState active c == .alarm && z.state != .alarm)) := rfl
  rw [hmark, hstate, Bool.decide_and, decide_not]
  rfl

theorem alarmEntered_regime {s : State} {z : Nat} (hacts : s.acts = true) (hown : s.station.address < 48)
    (hzone : (s.zone z).state = .alarm) (old : State) :
    ((s.alarmEntered z).finish old).regime = (s.alarmEntered z).regime := by
  obtain ⟨h, -⟩ := alarmEntered_alarmed hacts hown hzone
  exact (h.finish hown old).regime.trans h.regime.symm

/-- An acceptance lets a regime in only with an alarm, whose zone no regime takes further. -/
theorem acceptClass_quiet {z : Nat} (hz : z < 8) (c : LoopClass) (s : State)
    (h : becameActive s (s.acceptClass z c) = true) : ((s.acceptClass z c).zone z).state = .alarm := by
  have ht := touches_classRecorded z c s
  rw [zone_acceptClass_self hz]
  rw [acceptClass_eq] at h
  split at h
  · rename_i halarm
    exact halarm.2
  · rw [becameActive_same (ht.active_eq (by decide) (by decide)) (ht.generation_eq (by decide))] at h
    cases h

/-- The event leaves the activity that the acceptance has given. -/
theorem acceptClass_settledActive {z : Nat} (hz : z < 8) (c : LoopClass) {s : State} (hacts : s.acts = true)
    (hown : s.station.address < 48) (h : becameActive s (s.acceptClass z c) = true) :
    ((s.acceptClass z c).finish s).regime = (s.acceptClass z c).regime := by
  have ht := touches_classRecorded z c s
  have halarm := acceptClass_quiet hz c s h
  rw [zone_acceptClass_of_recorded] at halarm
  rw [acceptClass_eq] at h ⊢
  split at h
  · rename_i hnew
    rw [if_pos hnew]
    exact alarmEntered_regime ((ht.acts_eq (by decide)).trans hacts) ((ht.address_eq (by decide)).trans_lt hown) halarm s
  · rw [becameActive_same (ht.active_eq (by decide) (by decide)) (ht.generation_eq (by decide))] at h
    cases h

/-- Settles O33: the record and the faults of the acceptance, which the end of the event leaves; the regime that an alarm
lets in takes other zones alone further. -/
theorem zoneAcceptanceActs : Obligations.ZoneAcceptanceActs := by
  refine ⟨fun z c s hrole hstation hdue hcandidate => ?_, fun z s hdue => ?_⟩
  · obtain ⟨hacts, hfloor⟩ := (State.actsAs_iff .floor s).1 hrole
    have hown : s.station.address < 48 := roleOf_floor.1 ((hstation.1 hacts).1.symm.trans hfloor)
    have hclassified : (s.zone z).classified = true := and_left_iff (and_left_iff hdue)
    have hafter : s.after (.loopClassAccepted z) = (s.acceptClass z c).finish s := by
      refine (event_of_due (by simp [hrole, hdue]) _ s).trans ?_
      rw [hcandidate]
      rfl
    have hworkfloor : (s.acceptClass z c).actsAs .floor = true := (evolves_acceptClass z c s).actsAs .floor ▸ hrole
    have hzone : ((s.acceptClass z c).finish s).zone z = (s.zone z).taken s.regime.active c := by
      rw [zone_finish hworkfloor, ← zone_acceptClass_self z.isLt]
      split
      · rename_i hbecame
        exact Zone.activated_of_not_confirm (by rw [acceptClass_quiet z.isLt c s hbecame.1]; nofun)
      · rfl
    have hloop : (s.zoneFaults z c).SameLoop z ((s.acceptClass z c).finish s) := by
      have hrecorded : (s.zoneFaults z c).SameLoop z (s.classRecorded z c) :=
        (touches_changeZone z _ _ _).sameLoop (by decide) z
      have haccepted : (s.zoneFaults z c).SameLoop z (s.acceptClass z c) := by
        rw [acceptClass_eq]
        split
        · exact hrecorded.trans ((keepsFaults_alarmEntered z _).sameLoop (by decide) z)
        · exact hrecorded
      exact haccepted.trans (sameLoop_finish fun h => by rw [acceptClass_quiet z.isLt c s h]; nofun)
    obtain ⟨hopened, hshort, hraisedOpen, hraisedShort⟩ := holds_zoneFaults z c s
    refine ⟨_, exec_of_after_eq hafter, ?_, fun hc => hloop.1.trans (hopened hc), fun hc => hloop.2.trans (hshort hc),
      fun hc hf => hloop.1.trans (hraisedOpen hc hf), fun hc hf => hloop.2.trans (hraisedShort hc hf), fun hsame i hi => ?_⟩
    · have hnext := Zone.nextState_eq hclassified s.regime.active c
      rw [hzone]
      exact ⟨rfl, hcandidate, rfl, rfl, hnext, rfl, Zone.taken_counted _ _ _,
        Zone.taken_marked _ _ _⟩
    · rw [zone_finish hworkfloor, if_neg fun hbecame => ?_, zone_acceptClass_ne hi]
      have hregime := acceptClass_settledActive z.isLt c hacts hown hbecame.1
      rw [hregime] at hsame
      have hgeneration : (s.acceptClass z c).regime.generation = s.regime.generation :=
        (touches_acceptClass z c s).generation_eq (by decide)
      rw [becameActive_same hsame hgeneration] at hbecame
      exact absurd hbecame.1 nofun
  · exact exec_of_after_eq (event_of_not_due (by simp [hdue]) _ s)

end Sys2Proof.Machine
end

section
/-! ## COMMANDs at a station: one zone disabled or enabled, and the all-clear (R69 to R71, R85, R112) -/

namespace Sys2Proof.Machine

/-! ### A whole COMMAND that is taken -/

/-- The station as it has counted a frame that it accepts. -/
def State.counted (line : Samples) (s : State) : State := State.countAccepted { s with rx := (s.fed line).1 }

theorem touches_counted (line : Samples) (s : State) : Touches [.rx, .line, .lineLamp] s (s.counted line) :=
  (touches_rx (s.fed line).1 s).andThen (touches_countAccepted _) (by decide) (by decide)

/-- A command that is taken is obeyed, and then the blocks react. -/
theorem after_takes {c : Instr} {line : Samples} {f : Frame} {k : Command} {s : State} (hline : c.samples = some line)
    (h : s.takes line f k) :
    s.after c = ((s.counted line).obey f.source f.generation k).finish { s with rx := (s.fed line).1 } := by
  obtain ⟨⟨at_, hacts, htx, hfed⟩, ⟨hsource, hforeign⟩, hcommand⟩ := h
  obtain ⟨hcode, htake⟩ : f.code = 4 ∧ takeCommand f.dest f.payload = some k := by
    simpa [Frame.command] using hcommand
  have hwork : State.rxAct State.handOn (.accepted f at_) { s with rx := (s.fed line).1 }
      = (s.counted line).obey f.source f.generation k := by
    have hown : (s.counted line).station.address = s.station.address := (touches_counted line s).address_eq (by decide)
    change (if f.source = (s.counted line).station.address then (s.counted line).duplicateHeard
      else if f.foreign then (s.counted line).raiseAtOnce .foreignCommand f.source
      else (s.counted line).handOn f at_) = _
    rw [if_neg (hown ▸ hsource), if_neg (by simp [hforeign]), State.handOn]
    simp only [hcode]
    rw [State.takeCommandFrame, htake]
  rw [after_samples hline, hear_one hacts htx hfed, hwork]

/-- The zone that a whole ZONE DISABLE or ZONE ENABLE names is one of the eight (R44). -/
theorem takeCommand_zone {dest : Nat} {payload : List Byte} {z : Nat}
    (h : takeCommand dest payload = some (.zoneDisable z) ∨ takeCommand dest payload = some (.zoneEnable z)) :
    1 ≤ z ∧ z ≤ 8 := by
  unfold takeCommand at h
  split at h
  · simp at h
  · dsimp only at h
    split at h
    case h_14 => simp at h
    all_goals
      split_ifs at h with hguard <;>
        simp only [Option.some.injEq, Command.zoneDisable.injEq, Command.zoneEnable.injEq, reduceCtorEq, or_self,
          or_false, false_or] at h
      all_goals
        simp only [Bool.and_eq_true, decide_eq_true_eq] at hguard
        rw [← h]
        exact ⟨hguard.1.2, hguard.2⟩

theorem takes_zone {line : Samples} {f : Frame} {z : Nat} {s : State}
    (h : s.takes line f (.zoneDisable z) ∨ s.takes line f (.zoneEnable z)) : z - 1 < 8 ∧ z - 1 + 1 = z := by
  have hzone : 1 ≤ z ∧ z ≤ 8 := by
    rcases h with ⟨-, -, hcommand⟩ | ⟨-, -, hcommand⟩
    · exact takeCommand_zone (.inl (by simpa [Frame.command] using (Option.ite_none_right_eq_some.1 hcommand).2))
    · exact takeCommand_zone (.inr (by simpa [Frame.command] using (Option.ite_none_right_eq_some.1 hcommand).2))
  omega

/-! ### The generation window lets no regime in (R108, R112) -/

theorem window_of_newer {g : Byte} {s : State} (h : s.meetsNewer g = true) : s.window g = s.adoptNewer g := by
  unfold State.meetsNewer at h
  unfold State.window
  split at h
  · cases h
  · rename_i own hown
    simp only [Bool.and_eq_true, decide_eq_true_eq] at h
    exact if_pos h

theorem touches_window_of_not_newer {g : Byte} {s : State} (h : s.meetsNewer g = false) :
    Touches [.generation] s (s.window g) := by
  unfold State.meetsNewer at h
  unfold State.window
  split at h
  · exact touches_firstAdoption g s
  · rename_i own hown
    simp only [Bool.and_eq_false_iff, decide_eq_false_iff_not] at h
    rw [if_neg fun hd => h.elim (· hd.1) (· hd.2)]
    exact .refl _ s

theorem meetsNewer_congr {s t : State} (h : t.regime.generation = s.regime.generation) (g : Byte) :
    t.meetsNewer g = s.meetsNewer g := by
  rw [State.meetsNewer, State.meetsNewer, h]

theorem adoptNewer_regime (g : Byte) (s : State) : (s.adoptNewer g).regime = Regime.allClear g := by
  have hafter : Touches [.peers, .faults, .zones, .reported, .stairs, .speaker] { s with regime := Regime.allClear g }
      (s.adoptNewer g) := by
    refine Touches.trans ?_ ((touches_speakerAllClear _).mono (by decide))
    refine Touches.trans ?_ ((touches_stairsAllClear _).mono (by decide))
    refine Touches.trans ?_ ((touches_builderAllClear _).mono (by decide))
    refine Touches.trans ?_ ((touches_zonesAllClear _).mono (by decide))
    exact (touches_peersAllClear _).mono (by decide)
  exact hafter.regime_eq (by decide) (by decide) (by decide) (by decide) (by decide) (by decide)

/-- Work after the window that leaves the view lets no regime in. -/
theorem becameActive_window {ps : List Part} {g : Byte} {s w old : State} (hw : Touches ps (s.window g) w)
    (hps : .origins ∉ ps ∧ .general ∉ ps ∧ .generation ∉ ps) (hold : old.regime = s.regime) :
    becameActive old w = false := by
  have hactive := hw.active_eq hps.1 hps.2.1
  have hgeneration := hw.generation_eq hps.2.2
  cases hnewer : s.meetsNewer g with
  | true =>
    rw [window_of_newer hnewer, adoptNewer_regime] at hactive
    have hinactive : w.regime.active = false := hactive.trans rfl
    rw [becameActive, hinactive, Bool.false_and]
  | false =>
    have ht := touches_window_of_not_newer hnewer
    rw [ht.active_eq (by decide) (by decide)] at hactive
    have hcleared : clearedBetween old w = false := by
      rw [clearedBetween, hold, hgeneration]
      unfold State.window
      cases hown : s.regime.generation with
      | none => rfl
      | some own =>
        have hstays := touches_window_of_not_newer hnewer
        simp only [State.meetsNewer, hown, Bool.and_eq_false_iff, decide_eq_false_iff_not] at hnewer
        dsimp only
        rw [if_neg fun hd => hnewer.elim (· hd.1) (· hd.2), hown]
        simp
    simp [becameActive, hcleared, hactive, hold]

/-! ### The zones at the all-clear (R71) -/

/-- A zone record of a FLOOR station at the all-clear. -/
def Zone.cleared (z : Zone) : Zone :=
  { (if z.supervised ∧ z.clearsAtAllClear then z.account 0 z.allClear else z) with mark := false }

theorem zone_clearZoneFaults (z : Nat) (s : State) (y : Nat) : (s.clearZoneFaults z).zone y = s.zone y := by
  rw [State.zone, State.zone, (touches_clearZoneFaults z s).zones_eq (by decide)]

theorem zone_allClearZone (s : State) {z : Nat} (hz : z < 8) (y : Nat) : (s.allClearZone z).zone y
    = if y = z ∧ (s.zone y).supervised ∧ (s.zone y).clearsAtAllClear then (s.zone y).account 0 (s.zone y).allClear
      else s.zone y := by
  unfold State.allClearZone
  by_cases hy : y = z
  · subst hy
    split
    · rename_i h
      rw [State.changeZone, zone_updZone _ y _ hz, if_pos rfl, if_pos ⟨rfl, h⟩, zone_clearZoneFaults]
    · rename_i h
      rw [if_neg fun hc => h hc.2]
  · refine Eq.trans ?_ (if_neg fun hc => hy hc.1).symm
    split
    · rw [State.changeZone, zone_updZone_ne _ _ hy, zone_clearZoneFaults]
    · rfl

theorem sameLoop_clearZoneFaults {z y : Nat} (h : y ≠ z) (s : State) : s.SameLoop y (s.clearZoneFaults z) :=
  (sameLoop_clearFault h .zoneOpen s).trans (sameLoop_clearFault h .zoneShort _)

theorem sameLoop_allClearZone {z y : Nat} (h : y ≠ z) (s : State) : s.SameLoop y (s.allClearZone z) := by
  unfold State.allClearZone
  split
  · exact (sameLoop_clearZoneFaults h s).trans ((touches_changeZone z _ _ _).sameLoop (by decide) y)
  · exact .refl y s

/-- ZONE-OPEN and ZONE-SHORT of zone `z` are inactive. -/
def State.LoopClear (z : Nat) (s : State) : Prop :=
  s.faults.holds .zoneOpen (z + 1) = false ∧ s.faults.holds .zoneShort (z + 1) = false

theorem State.LoopClear.same {z : Nat} {s t : State} (h : s.LoopClear z) (k : s.SameLoop z t) : t.LoopClear z :=
  ⟨k.1.trans h.1, k.2.trans h.2⟩

theorem loopClear_clearZoneFaults (z : Nat) (s : State) : (s.clearZoneFaults z).LoopClear z :=
  ⟨(FaultList.holds_clear_other .zoneShort .zoneOpen _ _ _ (by simp)).trans (FaultList.holds_clear _ _ _),
    FaultList.holds_clear _ _ _⟩

theorem foldl_allClearZone {l : List Nat} (hl : l.Nodup) (hlt : ∀ z ∈ l, z < 8) (s : State) (y : Nat) :
    (l.foldl State.allClearZone s).zone y = (if y ∈ l ∧ (s.zone y).supervised ∧ (s.zone y).clearsAtAllClear
      then (s.zone y).account 0 (s.zone y).allClear else s.zone y)
    ∧ (y ∈ l → (s.zone y).supervised ∧ (s.zone y).clearsAtAllClear → (l.foldl State.allClearZone s).LoopClear y)
    ∧ (y ∉ l → s.SameLoop y (l.foldl State.allClearZone s)) := by
  induction l generalizing s with
  | nil => exact ⟨by simp, nofun, fun _ => .refl y s⟩
  | cons z zs ih =>
    obtain ⟨hz, hzs⟩ := List.nodup_cons.1 hl
    have hzone := zone_allClearZone s (hlt z List.mem_cons_self) y
    obtain ⟨hrecord, hclear, hsame⟩ := ih hzs (fun x hx => hlt x (List.mem_cons_of_mem z hx)) (s.allClearZone z)
    rw [List.foldl_cons]
    by_cases hy : y = z
    · subst hy
      refine ⟨?_, fun _ hclears => ?_, fun hnot => absurd List.mem_cons_self hnot⟩
      · rw [hrecord, if_neg fun h => hz h.1, hzone]
        simp
      · have hcleared : (s.allClearZone y).LoopClear y := by
          rw [State.allClearZone, if_pos hclears]
          exact (loopClear_clearZoneFaults y s).same ((touches_changeZone y _ _ _).sameLoop (by decide) y)
        exact hcleared.same (hsame hz)
    · rw [if_neg fun h => hy h.1] at hzone
      rw [hzone] at hrecord hclear
      refine ⟨?_, fun hmem => hclear ((List.mem_cons.1 hmem).resolve_left hy), fun hnot => ?_⟩
      · rw [hrecord]
        simp [hy]
      · exact (sameLoop_allClearZone hy s).trans (hsame fun h => hnot (List.mem_cons_of_mem z h))

/-- The zones of a FLOOR station at the all-clear (R71, R72). -/
theorem zone_adoptNewer {s : State} (hrole : s.station.role = some .floor) (g : Byte) {z : Nat} (hz : z < 8) :
    (s.adoptNewer g).zone z = (s.zone z).cleared
    ∧ ((s.zone z).supervised → (s.zone z).clearsAtAllClear → (s.adoptNewer g).LoopClear z) := by
  have hpeers := touches_peersAllClear { s with regime := Regime.allClear g }
  have hbefore : (State.peersAllClear { s with regime := Regime.allClear g }).zone z = s.zone z := by
    rw [State.zone, hpeers.zones_eq (by decide), State.zone]
  have hfloor : (State.peersAllClear { s with regime := Regime.allClear g }).station.role = some .floor :=
    (hpeers.role_eq (by decide)).trans hrole
  obtain ⟨hrecord, hclear, -⟩ := foldl_allClearZone List.nodup_range (fun z => List.mem_range.1)
    (State.peersAllClear { s with regime := Regime.allClear g }) z
  have hlater : Touches [.stairs, .speaker]
      (State.peersAllClear { s with regime := Regime.allClear g }).zonesAllClear.builderAllClear (s.adoptNewer g) :=
    (touches_stairsAllClear _).andThen (touches_speakerAllClear _) (by decide) (by decide)
  have hzones : (State.peersAllClear { s with regime := Regime.allClear g }).zonesAllClear
      = (List.range 8).foldl State.allClearZone (State.peersAllClear { s with regime := Regime.allClear g }) :=
    if_pos (by simp [hfloor])
  have hread (t : State) : t.builderAllClear.zone z = { t.zone z with mark := false } := Tab.at_map _ _ _ _ _ hz
  rw [hbefore] at hrecord hclear
  refine ⟨?_, fun hsupervised hclears => ?_⟩
  · rw [State.zone, hlater.zones_eq (by decide), ← State.zone, hread, hzones, hrecord, Zone.cleared]
    simp only [List.mem_range, hz, true_and]
  · have h := hclear (List.mem_range.2 hz) ⟨hsupervised, hclears⟩
    rw [← hzones] at h
    exact (h.same ((touches_builderAllClear _).sameLoop (by decide) z)).same (hlater.sameLoop (by decide) z)

/-! ### ZONE DISABLE and ZONE ENABLE (R69, R70) -/

theorem zone_disableZone {z : Nat} (hz : z < 8) (s : State) (y : Nat) : (s.disableZone z).zone y
    = if y = z ∧ (s.zone y).supervised ∧ (s.zone y).state ≠ .disabled then (s.zone y).account 0 (s.zone y).disable
      else s.zone y := by
  unfold State.disableZone
  by_cases hy : y = z
  · subst hy
    split
    · rename_i h
      rw [State.changeZone, zone_updZone _ y _ hz, if_pos rfl, if_pos ⟨rfl, h⟩, zone_clearZoneFaults]
    · rename_i h
      rw [if_neg fun hc => h hc.2]
  · refine Eq.trans ?_ (if_neg fun hc => hy hc.1).symm
    split
    · rw [State.changeZone, zone_updZone_ne _ _ hy, zone_clearZoneFaults]
    · rfl

theorem zone_enableZone {z : Nat} (hz : z < 8) (s : State) (y : Nat) : (s.enableZone z).zone y
    = if y = z ∧ (s.zone y).supervised ∧ (s.zone y).state = .disabled then (s.zone y).account 0 (s.zone y).enable
      else s.zone y := by
  unfold State.enableZone
  by_cases hy : y = z
  · subst hy
    split
    · rename_i h
      rw [State.changeZone, zone_updZone _ y _ hz, if_pos rfl, if_pos ⟨rfl, h⟩, zone_clearZoneFaults]
    · rename_i h
      rw [if_neg fun hc => h hc.2]
  · refine Eq.trans ?_ (if_neg fun hc => hy hc.1).symm
    split
    · rw [State.changeZone, zone_updZone_ne _ _ hy, zone_clearZoneFaults]
    · rfl

theorem loopClear_disableZone {z : Nat} {s : State} (hsupervised : (s.zone z).supervised = true)
    (hstate : (s.zone z).state ≠ .disabled) : (s.disableZone z).LoopClear z := by
  rw [State.disableZone, if_pos ⟨hsupervised, hstate⟩]
  exact (loopClear_clearZoneFaults z s).same ((touches_changeZone z _ _ _).sameLoop (by decide) z)

/-- A change of state sets the change latch (R59). -/
theorem Zone.latch_account {old new : Zone} (h : old.state ≠ new.state) : (old.account 0 new).latch = true := by
  simp [Zone.account, Zone.changes, h]

/-- The all-clear leaves the kind of a zone, and which zones are DISABLED (R71). -/
theorem Zone.cleared_disabled (z : Zone) :
    z.cleared.supervised = z.supervised ∧ (z.cleared.state = .disabled ↔ z.state = .disabled) := by
  have hclear (h : z.clearsAtAllClear = true) : z.allClear.state = .normal ∧ z.state ≠ .disabled := by
    unfold Zone.allClear
    cases hs : z.state <;> simp_all [Zone.clearsAtAllClear]
  unfold Zone.cleared
  split
  · rename_i h
    obtain ⟨hnormal, hstate⟩ := hclear h.2
    refine ⟨?_, ?_⟩
    · change z.allClear.supervised = z.supervised
      rw [Zone.supervised, Zone.supervised, Zone.kind_allClear]
    · change z.allClear.state = .disabled ↔ _
      simp [hnormal, hstate]
  · exact ⟨rfl, Iff.rfl⟩

/-- A zone that a command finds after the window. -/
theorem zone_window {s : State} (hrole : s.station.role = some .floor) (line : Samples) (g : Byte) :
    (∀ z < 8, (((s.counted line).window g).zone z).supervised = (s.zone z).supervised
      ∧ ((((s.counted line).window g).zone z).state = .disabled ↔ (s.zone z).state = .disabled))
    ∧ (s.meetsNewer g = false → ∀ z, ((s.counted line).window g).zone z = s.zone z) := by
  have hcounted := touches_counted line s
  have hzone (z : Nat) : (s.counted line).zone z = s.zone z := by
    rw [State.zone, hcounted.zones_eq (by decide), State.zone]
  have hmeets := meetsNewer_congr (hcounted.generation_eq (by decide)) g
  have hstill (h : s.meetsNewer g = false) (z : Nat) : ((s.counted line).window g).zone z = s.zone z := by
    rw [State.zone, (touches_window_of_not_newer (hmeets.trans h)).zones_eq (by decide), ← State.zone, hzone]
  refine ⟨fun z hz => ?_, hstill⟩
  cases h : s.meetsNewer g with
  | false =>
    rw [hstill h]
    exact ⟨rfl, Iff.rfl⟩
  | true =>
    rw [window_of_newer (hmeets.trans h), (zone_adoptNewer ((hcounted.role_eq (by decide)).trans hrole) g hz).1, hzone]
    exact Zone.cleared_disabled _

/-- A command for one zone at a FLOOR station: the event leaves what the command has made of the zones and their faults. -/
theorem zoneCommand_after {line : Samples} {g : Byte} {s w : State}
    (hw : Touches [.zones, .faults] ((s.counted line).window g) w) :
    (∀ y, (w.finish { s with rx := (s.fed line).1 }).zone y = w.zone y)
    ∧ ∀ y, w.SameLoop y (w.finish { s with rx := (s.fed line).1 }) := by
  have hregime : (s.counted line).regime = s.regime := (touches_counted line s).regime_eq (by decide) (by decide)
    (by decide) (by decide) (by decide) (by decide)
  have hquiet : becameActive { s with rx := (s.fed line).1 } w = false := becameActive_window hw (by decide) hregime.symm
  exact ⟨zone_finish_quiet hquiet, fun y => (keepsFaults_finish_quiet w _ hquiet).sameLoop (by decide) y⟩

section
variable {line : Samples} {f : Frame} {z : Nat} {s : State}

theorem window_floor (hrole : s.station.role = some .floor) (line : Samples) (g : Byte) :
    (((s.counted line).window g).station.role == some Role.floor) = true := by
  rw [(touches_window g _).role_eq (by decide), (touches_counted line s).role_eq (by decide), hrole]
  rfl

theorem obey_zoneDisable (hrole : s.station.role = some .floor) :
    (s.counted line).obey f.source f.generation (.zoneDisable z)
      = ((s.counted line).window f.generation).disableZone (z - 1) := if_pos (window_floor hrole line f.generation)

theorem obey_zoneEnable (hrole : s.station.role = some .floor) :
    (s.counted line).obey f.source f.generation (.zoneEnable z)
      = ((s.counted line).window f.generation).enableZone (z - 1) := if_pos (window_floor hrole line f.generation)

end

/-- Settles O22: the window keeps which zones are supervised and which DISABLED; the command changes the one zone, and lets
no regime in. -/
theorem zoneCommandsAct : Obligations.ZoneCommandsAct := by
  intro line f z s hrole
  obtain ⟨hwindow, hstill⟩ := zone_window hrole line f.generation
  refine ⟨fun htakes => ?_, fun htakes => ?_⟩
  · obtain ⟨hz, hnumber⟩ := takes_zone (.inl htakes)
    obtain ⟨hsupervised, hdisabled⟩ := hwindow (z - 1) hz
    have hafter := after_takes (c := .zoneDisable line) rfl htakes
    rw [obey_zoneDisable hrole] at hafter
    obtain ⟨hzone, hloop⟩ := zoneCommand_after (touches_disableZone (z - 1) ((s.counted line).window f.generation))
    refine ⟨_, exec_of_after_eq hafter, fun hsup => ?_, fun hsup hstate => ?_, fun hnewer => ⟨fun hleft => ?_, fun i hi => ?_⟩⟩
    · rw [hzone, zone_disableZone hz]
      split
      · rfl
      · rename_i h
        by_contra hnot
        exact h ⟨rfl, hsupervised.trans hsup, hnot⟩
    · have hnot := fun h => hstate (hdisabled.1 h)
      have hclear := (loopClear_disableZone (hsupervised.trans hsup) hnot).same (hloop (z - 1))
      rw [State.LoopClear, hnumber] at hclear
      rw [hzone, zone_disableZone hz, if_pos ⟨rfl, hsupervised.trans hsup, hnot⟩]
      exact ⟨rfl, Zone.latch_account hnot, hclear⟩
    · rw [hzone, zone_disableZone hz, if_neg, hstill hnewer]
      rw [hstill hnewer]
      rintro ⟨-, hsup, hstate⟩
      rcases hleft with h | h
      · rw [h] at hsup
        cases hsup
      · exact hstate h
    · rw [hzone, zone_disableZone hz, if_neg fun h => hi h.1, hstill hnewer]
  · obtain ⟨hz, -⟩ := takes_zone (.inr htakes)
    obtain ⟨hsupervised, hdisabled⟩ := hwindow (z - 1) hz
    have hafter := after_takes (c := .zoneEnable line) rfl htakes
    rw [obey_zoneEnable hrole] at hafter
    obtain ⟨hzone, -⟩ := zoneCommand_after (touches_enableZone (z - 1) ((s.counted line).window f.generation))
    refine ⟨_, exec_of_after_eq hafter, fun hsup hstate => ?_, fun hnewer => ⟨fun hleft => ?_, fun i hi => ?_⟩⟩
    · have hstate := hdisabled.2 hstate
      rw [hzone, zone_enableZone hz, if_pos ⟨rfl, hsupervised.trans hsup, hstate⟩]
      refine ⟨rfl, rfl, rfl, rfl, Zone.latch_account ?_⟩
      rw [hstate]
      nofun
    · rw [hzone, zone_enableZone hz, if_neg, hstill hnewer]
      rw [hstill hnewer]
      exact fun h => hleft h.2.2
    · rw [hzone, zone_enableZone hz, if_neg fun h => hi h.1, hstill hnewer]

/-! ### The view and the peer table at the all-clear (R85, R112) -/

/-- What the adoption does after it has cleared the peer table. -/
theorem touches_adopted (g : Byte) (s : State) : Touches [.faults, .zones, .reported, .stairs, .speaker]
    { s with regime := Regime.allClear g, peers := s.peers.allClear s.station.address } (s.adoptNewer g) := by
  refine Touches.trans ?_ ((touches_speakerAllClear _).mono (by decide))
  refine Touches.trans ?_ ((touches_stairsAllClear _).mono (by decide))
  refine Touches.trans ?_ ((touches_builderAllClear _).mono (by decide))
  refine Touches.trans ?_ ((touches_zonesAllClear _).mono (by decide))
  exact (touches_clearFaults .phaseDisagree
    { s with regime := Regime.allClear g, peers := s.peers.allClear s.station.address }).mono (by decide)

/-- Every entry of another station is AWAITING (R85). -/
theorem base_adoptNewer (g : Byte) (s : State) {a : Nat} (ha : isPeerAddress a = true) (hne : a ≠ s.station.address) :
    (s.adoptNewer g).peers.base a = { s.peers.base a with standing := .awaiting } := by
  have ht := touches_adopted g s
  have hbase : (s.adoptNewer g).peers.base a = (s.peers.allClear s.station.address).base a := by
    rw [Peers.base, Peers.base, ht.floors_eq (by decide), ht.banks_eq (by decide), ht.consoles_eq (by decide)]
  rw [hbase, Peers.allClear_eq, base_mapBase _ _ _ ha, base_floorsCleared, PeerBase.awaits, if_neg hne]
  split <;> rfl

/-- Every floor entry loses its latches, and that of another floor its content (R85). -/
theorem floorEntry_adoptNewer (g : Byte) (s : State) {x : Nat} (hx : x < 48) :
    (((s.adoptNewer g).floorEntry x).alarmLatch = false ∧ ((s.adoptNewer g).floorEntry x).lobbyLatch = false)
    ∧ (x ≠ s.station.address → ((s.adoptNewer g).floorEntry x).phase = .quiet
      ∧ ((s.adoptNewer g).floorEntry x).disagreements = 0 ∧ ((s.adoptNewer g).floorEntry x).disagree = false
      ∧ ∀ z < 8, ((s.adoptNewer g).floorEntry x).zones.at z ZoneReport.quiet = ZoneReport.quiet) := by
  have hentry : (s.adoptNewer g).floorEntry x
      = (s.peers.allClear s.station.address).floors.at x FloorEntry.atReset := by
    rw [State.floorEntry, (touches_adopted g s).floors_eq (by decide)]
  obtain ⟨b, hb⟩ := floor_mapBase (s.peers.floorsCleared s.station.address) (PeerBase.awaits s.station.address) hx
  rw [hentry, Peers.allClear_eq, hb, floor_floorsCleared _ _ hx]
  split
  · rename_i hown
    exact ⟨⟨rfl, rfl⟩, fun hne => absurd hown hne⟩
  · exact ⟨⟨rfl, rfl⟩, fun _ => ⟨rfl, rfl, rfl, fun z _ => Tab.at_fill z _⟩⟩

theorem holds_phaseDisagree_adoptNewer (g : Byte) (s : State) (x : Nat) :
    (s.adoptNewer g).faults.holds .phaseDisagree x = false := by
  have hcleared : (State.peersAllClear { s with regime := Regime.allClear g }).faults.holds .phaseDisagree x = false :=
    (FaultList.holds_clearKind .phaseDisagree .phaseDisagree x _).trans (if_pos rfl)
  have hzones (t : State) : KeepsFaults [.zoneOpen, .zoneShort] t t.zonesAllClear := by
    refine KeepsFaults.ite (KeepsFaults.foldl _ (fun u z => ?_) _ _) (.refl _ t)
    exact KeepsFaults.ite ((keepsFaults_clearZoneFaults z u).trans
      ((touches_changeZone z _ _ _).keepsFaults (by decide) _)) (.refl _ u)
  have hlater : Touches [.zones, .reported, .stairs, .speaker]
      (State.peersAllClear { s with regime := Regime.allClear g }).zonesAllClear (s.adoptNewer g) :=
    ((touches_builderAllClear _).andThen (touches_stairsAllClear _) (rs := [.zones, .reported, .stairs]) (by decide)
      (by decide)).andThen (touches_speakerAllClear _) (by decide) (by decide)
  rw [hlater.faults_eq (by decide)]
  exact (hzones _ _ _ (by decide)).trans hcleared

theorem touches_reacted_peers (s old : State) (h : becameActive old s = false) :
    Touches [.stairs, .cars, .faults, .speaker, .cadence, .alarmLamp] s (s.reacted old) := by
  have hfielded := touches_fielded old s
  rw [activated_of_quiet h] at hfielded
  exact (hfielded.andThen (touches_speakerReact old _ _) (rs := [.stairs, .cars, .faults, .speaker]) (by decide)
    (by decide)).andThen (touches_reacted old s) (by decide) (by decide)

/-- The reactions leave the latches of every floor entry where no regime becomes active. -/
theorem latches_finish_quiet {s old : State} (h : becameActive old s = false) (x : Nat) :
    ((s.finish old).floorEntry x).alarmLatch = (s.floorEntry x).alarmLatch
    ∧ ((s.finish old).floorEntry x).lobbyLatch = (s.floorEntry x).lobbyLatch := by
  cases hacts : s.acts with
  | false =>
    rw [finish_of_not_acts hacts]
    exact ⟨rfl, rfl⟩
  | true =>
    have hbefore : (s.reacted old).floorEntry x = s.floorEntry x := by
      rw [State.floorEntry, (touches_reacted_peers s old h).floors_eq (by decide), State.floorEntry]
    have hafter : (s.finish old).floorEntry x = (s.reacted old).loopback.floorEntry x := by
      rw [finish_eq_reacted hacts, State.floorEntry, (touches_builderReact old _).floors_eq (by decide), State.floorEntry]
    rw [hafter, (loopback_latches _ x).1, (loopback_latches _ x).2, hbefore]
    exact ⟨rfl, rfl⟩

/-! ### Zones, stairs and cars at the all-clear (R71, R124, R140) -/

/-- The states that the all-clear ends (R71). -/
theorem Zone.clearsAtAllClear_iff (z : Zone) : z.clearsAtAllClear = true
    ↔ z.state ∈ [ZoneState.alarm, .verifyReset, .verifySettle, .verifyConfirm] := by
  simp [Zone.clearsAtAllClear, or_assoc]

theorem Zone.cleared_of_clears {z : Zone} (hsupervised : z.supervised = true) (h : z.clearsAtAllClear = true) :
    z.cleared.state = .normal ∧ z.cleared.stage = none ∧ z.cleared.accepted = none
    ∧ z.cleared.candidate = (if z.acceptDue then z.candidate else none)
    ∧ z.cleared.run = (if z.acceptDue then 1 else 0) := by
  have hagain : z.allClear = { (if z.acceptDue then { z.restart with candidate := z.candidate, run := 1 }
      else z.restart) with state := .normal, stage := none, mark := false } := by
    unfold Zone.allClear
    cases hs : z.state <;> simp_all [Zone.clearsAtAllClear]
  have hrecord : z.cleared = { z.account 0 z.allClear with mark := false } := by
    rw [Zone.cleared, if_pos ⟨hsupervised, h⟩]
  rw [hrecord]
  change z.allClear.state = .normal ∧ z.allClear.stage = none ∧ z.allClear.accepted = none
    ∧ z.allClear.candidate = _ ∧ z.allClear.run = _
  rw [hagain]
  cases z.acceptDue <;> exact ⟨rfl, rfl, rfl, rfl, rfl⟩

theorem Zone.cleared_of_not_clears {z : Zone} (h : ¬ z.clearsAtAllClear = true) : z.cleared.state = z.state := by
  rw [Zone.cleared, if_neg fun hc => h hc.2]

theorem stair_adoptNewer {s : State} (hrole : s.station.role = some .floor) (g : Byte) {i : Nat} (hi : i < 4) :
    (s.adoptNewer g).stair i
      = if (s.stair i).present then { s.stair i with release := false } else s.stair i := by
  have hbefore : Touches [.peers, .faults, .zones, .reported] { s with regime := Regime.allClear g }
      (State.peersAllClear { s with regime := Regime.allClear g }).zonesAllClear.builderAllClear :=
    ((touches_peersAllClear { s with regime := Regime.allClear g }).andThen (touches_zonesAllClear _)
      (rs := [.peers, .faults, .zones]) (by decide) (by decide)).andThen (touches_builderAllClear _) (by decide) (by decide)
  have hread (t : State) (hr : t.station.role = some .floor) : t.stairsAllClear.stair i
      = if (t.stair i).present then { t.stair i with release := false } else t.stair i := by
    rw [State.stairsAllClear, if_pos (by simp [hr])]
    exact Tab.at_map _ _ _ _ _ hi
  have hstair : (State.peersAllClear { s with regime := Regime.allClear g }).zonesAllClear.builderAllClear.stair i
      = s.stair i := by rw [State.stair, hbefore.stairs_eq (by decide), State.stair]
  have hlater : (s.adoptNewer g).stair i = (State.peersAllClear
      { s with regime := Regime.allClear g }).zonesAllClear.builderAllClear.stairsAllClear.stair i := by
    rw [State.stair, State.adoptNewer, (touches_speakerAllClear _).stairs_eq (by decide), State.stair]
  rw [hlater, hread _ ((hbefore.role_eq (by decide)).trans hrole), hstair]

/-- Cars that no regime recalls and no compromise diverts stand as they did. -/
theorem cars_finish_quiet {s old : State} (h : becameActive old s = false) (hcompromised : s.compromised = false) :
    (s.finish old).cars = s.cars := by
  cases hacts : s.acts with
  | false => rw [finish_of_not_acts hacts]
  | true =>
    refine Tab.ext_at (Car.atReset false) fun c hc => ?_
    have hcar := finish_car hacts old hc
    rw [activated_of_quiet h, hcompromised, h] at hcar
    exact hcar.trans (ite_self _)

/-! ### The NOTICE that an all-clear brings (R143, R151) -/

theorem request_enterStep (v : SpeakerView) (note : EntryNote) (i : Nat) (p : Speaker) :
    (p.enterStep v note i).noticeRequest = p.noticeRequest ∧ (p.enterStep v note i).step = some i := by
  have hmessage (m : Nat) (q : Speaker) : (q.enterMessage v note m).noticeRequest = q.noticeRequest
      ∧ (q.enterMessage v note m).step = q.step := by
    unfold Speaker.enterMessage
    split_ifs <;> exact ⟨rfl, rfl⟩
  unfold Speaker.enterStep
  dsimp only
  split
  · exact ⟨rfl, rfl⟩
  · exact ⟨rfl, rfl⟩
  · exact hmessage _ _
  · exact ⟨rfl, rfl⟩

theorem request_finish (p : Speaker) (l : Level) : (p.finish l).noticeRequest = p.noticeRequest := by
  have hset := (requests_setSeq p.dropStep l { p.seq l with finished := true, resume := none }).2
  unfold Speaker.finish
  dsimp only
  split <;> exact hset

theorem request_enterLevel (v : SpeakerView) (note : EntryNote) (n : Nat) (l : Level) (p : Speaker) :
    (Speaker.enterLevel v note n l p).noticeRequest = p.noticeRequest := by
  induction n generalizing l p with
  | zero => rfl
  | succ n ih =>
    by_cases hsequence : l ≠ .idle ∧ l ≠ .manual
    · have hentering (took : Bool) : (p.entering l took).noticeRequest = p.noticeRequest := (requests_setSeq _ _ _).2
      rw [enterLevel_of_sequence v note n hsequence.1 hsequence.2]
      split
      · exact (request_enterStep _ _ _ _).1.trans (hentering _)
      · exact ((ih _ _).trans (request_finish _ _)).trans (hentering _)
    · have hplain : Speaker.enterLevel v note (n + 1) l p = { p.dropStep with level := l } := by
        cases l <;> first | rfl | simp at hsequence
      rw [hplain]
      rfl

/-- The speaker as a decision leaves its step, before the next level is entered. -/
def Speaker.left (v : SpeakerView) (p : Speaker) : Speaker :=
  match p.step with
  | none => (if p.exchange = .idle then p else { p with stop := Timer.start 1 }).dropStep
  | some i => (if p.exchange = .idle then p else { p with stop := Timer.start 1 }).dropStep.setSeq p.level
      { p.seq p.level with resume := some (if v.resumeStep then i else 1) }

theorem preempt_eq (v : SpeakerView) (p : Speaker) :
    p.preempt v = (p.left v).enterLevel v EntryNote.plain decisionBound ((p.left v).highest v) := rfl

theorem left_request (v : SpeakerView) (p : Speaker) : (p.left v).noticeRequest = p.noticeRequest := by
  have hstopped : (if p.exchange = .idle then p else { p with stop := Timer.start 1 }).noticeRequest
      = p.noticeRequest := by split <;> rfl
  unfold Speaker.left
  split
  · exact hstopped
  · exact (requests_setSeq _ _ _).2.trans hstopped

/-- Where no regime becomes active and no SILENCE comes, a request for NOTICE stands. -/
theorem react_request (v : SpeakerView) (p : Speaker) : (p.react v false false).noticeRequest = p.noticeRequest := by
  rw [react_eq_decision]
  change (p.decision v).noticeRequest = _
  unfold Speaker.decision
  split
  · rw [preempt_eq, request_enterLevel, left_request]
  · rfl

/-- A speaker at IDLE, asked for NOTICE alone, comes to the NOTICE sequence from step 1 (R145, R149). -/
theorem react_notice {v : SpeakerView} {p : Speaker} (hactive : v.active = false) (hphase : v.phase = .quiet)
    (hmanual : v.manual = false) (hrequest : p.noticeRequest = true) (hresume : p.noticeSeq.resume = none)
    (hfinished : p.noticeSeq.finished = false) (hlevel : p.level = .idle)
    (hhand : (walkFrom true v.noticeSteps 14 1 false).hand = true) :
    (p.react v false false).level = .notice
    ∧ (p.react v false false).step = some (walkFrom true v.noticeSteps 14 1 false).pos := by
  have hhighest (q : Speaker) (hr : q.noticeRequest = true) (hf : q.noticeSeq.finished = false) :
      q.highest v = .notice := by
    simp [Speaker.highest, Speaker.present, hactive, hphase, hmanual, hr, hf]
  have hkind : p.stepKind v ≠ some .tone ∧ p.stepKind v ≠ some .message := by
    have hnone (i : Nat) : (stepAt (p.steps v p.level) i).kind = .stop := by
      rw [hlevel]
      rfl
    rw [Speaker.stepKind]
    cases p.step <;> simp [hnone]
  have hpreemptible : p.preemptible v = true := by
    unfold Speaker.preemptible
    split
    · exact absurd ‹_› hkind.1
    · exact absurd ‹_› hkind.2
    · rfl
  have hseq : (p.left v).noticeSeq = p.noticeSeq := by
    have hstopped : (if p.exchange = .idle then p else { p with stop := Timer.start 1 }).dropStep.noticeSeq
        = p.noticeSeq := by split <;> rfl
    have hset (q : Speaker) (r : SeqRecord) : (q.setSeq p.level r).noticeSeq = q.noticeSeq := by
      rw [hlevel]
      rfl
    unfold Speaker.left
    split
    · exact hstopped
    · exact (hset _ _).trans hstopped
  have hnext : (p.left v).highest v = .notice :=
    hhighest _ ((left_request v p).trans hrequest) (by rw [hseq]; exact hfinished)
  have hwalk : (p.left v).entryWalk v .notice = walkFrom true v.noticeSteps 14 1 false := by
    change walkFrom true v.noticeSteps 14 ((p.left v).noticeSeq.resume.getD 1)
      (if (p.left v).noticeSeq.resume.getD 1 = 1 then false else (p.left v).noticeSeq.took) = _
    rw [hseq, hresume]
    rfl
  have hother : p.highest v ≠ p.level := by
    rw [hhighest p hrequest hfinished, hlevel]
    nofun
  have hdecision : p.decision v = ((p.left v).entering .notice (walkFrom true v.noticeSteps 14 1 false).took).enterStep v
      EntryNote.plain (walkFrom true v.noticeSteps 14 1 false).pos := by
    rw [Speaker.decision, if_pos ⟨hother, hpreemptible⟩, preempt_eq, hnext, decisionBound,
      enterLevel_of_sequence (l := .notice) _ _ _ nofun nofun, hwalk, if_pos hhand]
  rw [react_eq_decision]
  change (p.decision v).level = _ ∧ (p.decision v).step = _
  rw [hdecision]
  exact ⟨(enterStep_asks _ _ _ _).2.trans (entering_asks _ _ _).2, (request_enterStep _ _ _ _).2⟩

/-! ### ALL_CLEAR of a newer generation (R112) -/

/-- The speaker of a FLOOR station at the all-clear (R151). -/
theorem speaker_adoptNewer {s : State} (hrole : s.station.role = some .floor) (g : Byte) :
    (s.adoptNewer g).speaker.noticeRequest = true ∧ (s.adoptNewer g).speaker.level = s.speaker.level
    ∧ (s.adoptNewer g).speaker.noticeSeq.resume = none ∧ (s.adoptNewer g).speaker.noticeSeq.finished = false := by
  have hbefore : Touches [.peers, .faults, .zones, .reported, .stairs] { s with regime := Regime.allClear g }
      (State.peersAllClear { s with regime := Regime.allClear g }).zonesAllClear.builderAllClear.stairsAllClear :=
    (((touches_peersAllClear { s with regime := Regime.allClear g }).andThen (touches_zonesAllClear _)
      (rs := [.peers, .faults, .zones]) (by decide) (by decide)).andThen (touches_builderAllClear _)
      (rs := [.peers, .faults, .zones, .reported]) (by decide) (by decide)).andThen (touches_stairsAllClear _) (by decide)
      (by decide)
  have hread (t : State) (hr : t.station.role = some .floor) : t.speakerAllClear.speaker.noticeRequest = true
      ∧ t.speakerAllClear.speaker.level = t.speaker.level ∧ t.speakerAllClear.speaker.noticeSeq.resume = none
      ∧ t.speakerAllClear.speaker.noticeSeq.finished = false := by
    rw [State.speakerAllClear, if_pos (by simp [hr])]
    exact ⟨rfl, rfl, rfl, rfl⟩
  obtain ⟨hrequest, hlevel, hresume, hfinished⟩ := hread _ ((hbefore.role_eq (by decide)).trans hrole)
  rw [hbefore.speaker_eq (by decide)] at hlevel
  exact ⟨hrequest, hlevel, hresume, hfinished⟩

theorem adoptNewer_reported (g : Byte) (s : State) : (s.adoptNewer g).builder.reported = [] := by
  have hlater : Touches [.stairs, .speaker]
      (State.peersAllClear { s with regime := Regime.allClear g }).zonesAllClear.builderAllClear (s.adoptNewer g) :=
    (touches_stairsAllClear _).andThen (touches_speakerAllClear _) (by decide) (by decide)
  exact (hlater.reported_eq (by decide)).trans rfl

/-- A view that has nothing in it. -/
theorem allClear_active (g : Byte) : (Regime.allClear g).active = false := rfl

section
variable {line : Samples} {g : Byte} {s : State}

/-- The work of an all-clear that is taken: a counted frame, and the adoption. -/
def State.allCleared (line : Samples) (g : Byte) (s : State) : State := (s.counted line).adoptNewer g

theorem touches_allCleared (line : Samples) (g : Byte) (s : State) :
    Touches ([.rx, .line, .lineLamp] ++ Part.allClear) s (s.allCleared line g) :=
  (touches_counted line s).andThen (touches_adoptNewer g _) (by decide) (by decide)

theorem allCleared_regime : (s.allCleared line g).regime = Regime.allClear g := adoptNewer_regime g _

theorem allCleared_quiet (old : State) : becameActive old (s.allCleared line g) = false := by
  rw [becameActive, allCleared_regime, allClear_active, Bool.false_and]

theorem allCleared_counted (z : Nat) : (s.counted line).zone z = s.zone z ∧ (s.counted line).stair z = s.stair z
    ∧ (s.counted line).peers.base z = s.peers.base z := by
  have ht := touches_counted line s
  refine ⟨?_, ?_, ?_⟩
  · rw [State.zone, ht.zones_eq (by decide), State.zone]
  · rw [State.stair, ht.stairs_eq (by decide), State.stair]
  · rw [Peers.base, Peers.base, ht.floors_eq (by decide), ht.banks_eq (by decide), ht.consoles_eq (by decide)]

theorem allCleared_role : (s.allCleared line g).station.role = s.station.role :=
  (touches_allCleared line g s).role_eq (by decide)

theorem allCleared_address : (s.allCleared line g).station.address = s.station.address :=
  (touches_allCleared line g s).address_eq (by decide)

theorem allCleared_compromised : (s.allCleared line g).compromised = false := by
  have hlobby : ((s.allCleared line g).floorEntry (s.allCleared line g).image.primary).lobbyLatch = false := by
    by_cases h : (s.allCleared line g).image.primary < 48
    · exact (floorEntry_adoptNewer g (s.counted line) h).1.2
    · rw [State.floorEntry, Tab.at_out _ _ _ (Nat.le_of_not_lt h)]
      rfl
  have horigins : (s.allCleared line g).regime.originFloors = [] := by rw [allCleared_regime]; rfl
  rw [State.compromised, hlobby, horigins]
  rfl

/-- Own zones once the all-clear has been taken. -/
theorem allCleared_zone (hrole : s.station.role = some .floor) (old : State) {z : Nat} (hz : z < 8) :
    ((s.allCleared line g).finish old).zone z = (s.zone z).cleared
    ∧ ((s.zone z).supervised = true → (s.zone z).clearsAtAllClear = true →
        ((s.allCleared line g).finish old).LoopClear z) := by
  have hcounted : (s.counted line).station.role = some .floor :=
    ((touches_counted line s).role_eq (by decide)).trans hrole
  obtain ⟨hzone, hclear⟩ := zone_adoptNewer hcounted g hz
  rw [(allCleared_counted z).1] at hzone hclear
  exact ⟨(zone_finish_quiet (allCleared_quiet old) z).trans hzone, fun hsupervised h =>
    (hclear hsupervised h).same ((keepsFaults_finish_quiet _ old (allCleared_quiet old)).sameLoop (by decide) z)⟩

/-- Own stairs once the all-clear has been taken. -/
theorem allCleared_release (hacts : s.acts = true) (hrole : s.station.role = some .floor) (old : State) {i : Nat}
    (hi : i < 4) (hpresent : (s.stair i).present = true) :
    (((s.allCleared line g).finish old).stair i).release = false := by
  have hcounted : (s.counted line).station.role = some .floor :=
    ((touches_counted line s).role_eq (by decide)).trans hrole
  have hstair : (s.allCleared line g).stair i = { s.stair i with release := false } := by
    rw [State.allCleared, stair_adoptNewer hcounted g hi, (allCleared_counted i).2.1, if_pos hpresent]
  have hdemand : (s.allCleared line g).demand = false := by
    rw [State.demand, allCleared_regime, allClear_active, Bool.false_and, Bool.false_and]
  have hstill : (s.allCleared line g).acts = true := ((touches_allCleared line g s).acts_eq (by decide)).trans hacts
  rw [finish_stair hstill old hi, if_pos (allCleared_role.trans hrole), hstair, activated_of_quiet (allCleared_quiet old),
    hdemand]
  exact (Stair.react_eq (x := { s.stair i with release := false }) hpresent).1

/-- The speaker once the all-clear has been taken (R151). -/
theorem allCleared_speaker (hacts : s.acts = true) (hrole : s.station.role = some .floor) (old : State) :
    ((s.allCleared line g).finish old).speaker.noticeRequest = true
    ∧ (s.speaker.level = .idle → s.authority.console = none →
        (walkFrom true s.image.noticeSteps.list 14 1 false).hand = true →
        ((s.allCleared line g).finish old).speaker.level = .notice
        ∧ ((s.allCleared line g).finish old).speaker.step
          = some (walkFrom true s.image.noticeSteps.list 14 1 false).pos) := by
  have ht := touches_counted line s
  have hw := touches_allCleared line g s
  have hstill : (s.allCleared line g).acts = true := (hw.acts_eq (by decide)).trans hacts
  have hfielded := touches_fielded old (s.allCleared line g)
  rw [activated_of_quiet (allCleared_quiet old)] at hfielded
  have hspeaker := speaker_adoptNewer ((ht.role_eq (by decide)).trans hrole) g
  rw [← State.allCleared] at hspeaker
  obtain ⟨hrequest, hlevel, hresume, hfinished⟩ := hspeaker
  have hsilence : (old.regime.silence % 2 == 0 && (Regime.allClear g).silence % 2 == 1) = false := Bool.and_false _
  have hregime : ((s.allCleared line g).fielded old).regime = Regime.allClear g :=
    (hfielded.regime_eq (by decide) (by decide) (by decide) (by decide) (by decide) (by decide)).trans allCleared_regime
  have hsteps : ((s.allCleared line g).fielded old).speakerView.noticeSteps = s.image.noticeSteps.list := by
    change ((s.allCleared line g).fielded old).image.noticeSteps.list = _
    rw [hfielded.image_eq (by decide), hw.image_eq (by decide)]
  have hreact : ((s.allCleared line g).finish old).speaker = (s.allCleared line g).speaker.react
      ((s.allCleared line g).fielded old).speakerView false false := by
    rw [finish_speaker hstill, spoken_of_floor hstill (allCleared_role.trans hrole), allCleared_quiet, hregime,
      hfielded.speaker_eq (by decide), hsilence]
  rw [hreact]
  refine ⟨(react_request _ _).trans hrequest, fun hidle hnone hhand => ?_⟩
  rw [← hsteps] at hhand ⊢
  refine react_notice ?_ ?_ ?_ hrequest hresume hfinished ?_ hhand
  · change ((s.allCleared line g).fielded old).regime.active = false
    rw [hregime, allClear_active]
  · change ((s.allCleared line g).fielded old).regime.phases.at _ .quiet = .quiet
    rw [hregime]
    exact Tab.at_fill _ _
  · change ((s.allCleared line g).fielded old).authority.console.isSome = false
    rw [hfielded.authority_eq (by decide), hw.authority_eq (by decide), hnone]
    rfl
  · rw [hlevel, ht.speaker_eq (by decide)]
    exact hidle

end

/-- Settles O21: the adoption clears each block's part of the view; no regime becomes active by it, so the reactions leave
what it has cleared, and find NOTICE asked for. -/
theorem allClearEndsTheRegime : Obligations.AllClearEndsTheRegime := by
  intro line f s htakes hnewer hstation _
  have hacts : s.acts = true := htakes.1.elim fun _ h => h.1
  have hrole := (hstation.1 hacts).1
  have hwindow : (s.counted line).window f.generation = s.allCleared line f.generation :=
    window_of_newer ((meetsNewer_congr ((touches_counted line s).generation_eq (by decide)) _).trans hnewer)
  have hafter : s.after (.allClear line)
      = (s.allCleared line f.generation).finish { s with rx := (s.fed line).1 } := by
    rw [after_takes (c := .allClear line) rfl htakes]
    exact congrArg (fun w => State.finish w _) hwindow
  have hquiet := allCleared_quiet (line := line) (g := f.generation) (s := s) { s with rx := (s.fed line).1 }
  have hreact := touches_finish_quiet _ _ hquiet
  have hregime : ((s.allCleared line f.generation).finish { s with rx := (s.fed line).1 }).regime
      = Regime.allClear f.generation :=
    (hreact.regime_eq (by decide) (by decide) (by decide) (by decide) (by decide) (by decide)).trans allCleared_regime
  have hownrole : (s.allCleared line f.generation).station.role
      = roleOf (s.allCleared line f.generation).station.address := by rw [allCleared_role, allCleared_address, hrole]
  have hentry {x : Nat} (hx : x < 48) := floorEntry_adoptNewer f.generation (s.counted line) hx
  have hcountedAddress : (s.counted line).station.address = s.station.address :=
    (touches_counted line s).address_eq (by decide)
  refine ⟨_, exec_of_after_eq hafter, by rw [hregime]; rfl, by rw [hregime]; rfl, by rw [hregime]; rfl,
    by rw [hregime]; rfl, by rw [hregime]; rfl, by rw [hregime]; rfl, fun x hx => ?_, fun a ha hne => ?_, fun x hx => ?_,
    fun x hx hne => ?_, fun x => ?_, fun hfloor => ⟨fun z hz => ?_, fun i hi hpresent => ?_, ?_⟩, ?_, ?_⟩
  · rw [State.phaseOf, hregime]
    exact Tab.at_fill _ _
  · have haddress := (mem_peerAddresses a).1 ha
    rw [finish_base _ _ a hownrole haddress (by rwa [allCleared_address]), State.allCleared,
      base_adoptNewer _ _ haddress (by rwa [hcountedAddress]), (allCleared_counted a).2.2]
  · obtain ⟨halarm, hlobby⟩ := latches_finish_quiet hquiet x
    rw [halarm, hlobby]
    exact (hentry hx).1
  · rw [finish_floorEntry _ _ x (by rwa [allCleared_address])]
    exact (hentry hx).2 (by rwa [hcountedAddress])
  · exact (keepsFaults_finish_quiet _ _ hquiet _ _ (by decide)).trans (holds_phaseDisagree_adoptNewer _ _ x)
  · obtain ⟨hzone, hclear⟩ := allCleared_zone (line := line) (g := f.generation) hfloor { s with rx := (s.fed line).1 } hz
    rw [hzone]
    refine ⟨rfl, fun hsupervised hstate => ?_, fun hstate => ?_⟩
    · have hclears := (Zone.clearsAtAllClear_iff _).2 hstate
      obtain ⟨hnormal, hstage, haccepted, hcandidate, hrun⟩ := Zone.cleared_of_clears hsupervised hclears
      exact ⟨hnormal, hstage, haccepted, hcandidate, hrun, hclear hsupervised hclears⟩
    · exact Zone.cleared_of_not_clears fun h => hstate ((Zone.clearsAtAllClear_iff _).1 h)
  · exact allCleared_release hacts hfloor _ hi hpresent
  · exact allCleared_speaker hacts hfloor _
  · exact (hreact.reported_eq (by decide)).trans (adoptNewer_reported _ _)
  · rw [cars_finish_quiet hquiet allCleared_compromised, (touches_allCleared line f.generation s).cars_eq (by decide)]

end Sys2Proof.Machine
end

section
/-! ## A regime that becomes active reaches the field (R65, R131 to R136) -/

namespace Sys2Proof.Machine

/-! ### How many records of the fault list stand in the way of a raise (R171) -/

/-- Whether a record may hold its place against a raise: it is active, or of a kind but ORIGIN-OVERFLOW, whose records
are inactive again in their own event. -/
def FaultRecord.keepsPlace (r : FaultRecord) : Bool := r.active || r.kind != .originOverflow

def FaultList.heldPlaces (l : FaultList) : Nat := (l.records.filter FaultRecord.keepsPlace).length

theorem FaultList.heldPlaces_le (l : FaultList) : l.heldPlaces ≤ l.records.length := List.length_filter_le _ _

/-- With a place that none holds, a raise makes its fault active. -/
theorem FaultList.finds_of_heldPlaces {l : FaultList} (h : l.heldPlaces < 16) (k : FaultKind) (n : Nat) :
    l.finds k n = true := by
  unfold FaultList.finds
  by_cases hlen : l.records.length < 16
  · simp [hlen]
  · have hfree : l.records.any (fun r => !r.active) = true := by
      by_contra hnone
      rw [Bool.not_eq_true, List.any_eq_false] at hnone
      have hall : l.records.filter FaultRecord.keepsPlace = l.records := List.filter_eq_self.2 fun r hr => by
        have hactive : r.active = true := by simpa using hnone r hr
        simp [FaultRecord.keepsPlace, hactive]
      rw [FaultList.heldPlaces, hall] at h
      exact hlen h
    rw [hfree, Bool.or_true]

/-- A change of single records by which none takes a place. -/
theorem length_filter_map_le {f : FaultRecord → FaultRecord} (h : ∀ r, (f r).keepsPlace = true → r.keepsPlace = true)
    (rs : List FaultRecord) :
    ((rs.map f).filter FaultRecord.keepsPlace).length ≤ (rs.filter FaultRecord.keepsPlace).length := by
  rw [List.filter_map, List.length_map]
  exact (List.monotone_filter_right rs fun r hr => h r hr).length_le

theorem FaultRecord.keepsPlace_ended {p : Prop} [Decidable p] (r : FaultRecord)
    (h : (if p then { r with active := false } else r).keepsPlace = true) : r.keepsPlace = true := by
  split at h
  · simp only [FaultRecord.keepsPlace, Bool.false_or] at h
    simp [FaultRecord.keepsPlace, h]
  · exact h

theorem FaultList.heldPlaces_clear (k : FaultKind) (n : Nat) (l : FaultList) : (l.clear k n).heldPlaces ≤ l.heldPlaces :=
  length_filter_map_le (fun r => FaultRecord.keepsPlace_ended r) _

theorem FaultList.heldPlaces_clearKind (k : FaultKind) (l : FaultList) : (l.clearKind k).heldPlaces ≤ l.heldPlaces :=
  length_filter_map_le (fun r => FaultRecord.keepsPlace_ended r) _

/-- A raise takes one place at most. -/
theorem FaultList.heldPlaces_raise {k : FaultKind} (hk : k ≠ .originOverflow) (n : Nat) (w : Word16) (l : FaultList) :
    (l.raise k n w).heldPlaces ≤ l.heldPlaces + 1 := by
  have hfresh {rs : List FaultRecord} (hrs : rs.Sublist l.records) (r : FaultRecord) :
      ((rs ++ [r]).filter FaultRecord.keepsPlace).length ≤ l.heldPlaces + 1 := by
    rw [List.filter_append, List.length_append]
    exact Nat.add_le_add (hrs.filter _).length_le (List.length_filter_le _ _)
  unfold FaultList.raise
  dsimp only
  split
  · refine (length_filter_map_le (fun r hr => ?_) _).trans (Nat.le_succ _)
    split at hr
    · rename_i his
      simp [FaultRecord.keepsPlace, ((FaultRecord.is_iff k n r).1 his).1, hk]
    · exact hr
  · split
    · exact hfresh (List.Sublist.refl _) _
    · split
      · exact hfresh (dropOldestInactive_sublist _) _
      · exact Nat.le_succ _

/-- ORIGIN-OVERFLOW takes no place. -/
theorem FaultList.heldPlaces_originOverflow (n : Nat) (w : Word16) (l : FaultList) :
    ((l.raise .originOverflow n w).clear .originOverflow n).heldPlaces ≤ l.heldPlaces := by
  have hfresh {rs : List FaultRecord} (hrs : rs.Sublist l.records) (r : FaultRecord)
      (hr : r.is .originOverflow n = true) : (((rs ++ [r]).map fun x =>
        if x.is .originOverflow n then { x with active := false } else x).filter FaultRecord.keepsPlace).length
          ≤ l.heldPlaces := by
    have hgone : FaultRecord.keepsPlace { r with active := false } = false := by
      simp [FaultRecord.keepsPlace, ((FaultRecord.is_iff _ _ r).1 hr).1]
    rw [List.map_append, List.filter_append, List.length_append, List.map_singleton, if_pos hr, List.filter_singleton,
      hgone]
    exact (length_filter_map_le (fun r => FaultRecord.keepsPlace_ended r) rs).trans (hrs.filter _).length_le
  unfold FaultList.raise FaultList.clear
  dsimp only
  split
  · rw [FaultList.heldPlaces, List.map_map]
    refine length_filter_map_le (fun r hr => ?_) _
    by_cases his : r.is .originOverflow n = true
    · have hkind := ((FaultRecord.is_iff _ _ r).1 his).1
      have his' : FaultRecord.is .originOverflow n { r with active := true, count := min 255 (r.count + 1) } = true := his
      simp only [Function.comp_apply, if_pos his, if_pos his'] at hr
      simp [FaultRecord.keepsPlace, hkind] at hr
    · simpa only [Function.comp_apply, if_neg his] using hr
  · split
    · exact hfresh (List.Sublist.refl _) _ (by simp [FaultRecord.is])
    · split
      · exact hfresh (dropOldestInactive_sublist _) _ (by simp [FaultRecord.is])
      · exact length_filter_map_le (fun r => FaultRecord.keepsPlace_ended r) _

/-- Between two states the fault list has lost `k` places at most. -/
def State.Crowds (k : Nat) (s t : State) : Prop := t.faults.heldPlaces ≤ s.faults.heldPlaces + k

theorem State.Crowds.trans {j k : Nat} {s t u : State} (h : s.Crowds j t) (g : t.Crowds k u) : s.Crowds (j + k) u := by
  unfold State.Crowds at *
  omega

theorem State.Crowds.mono {j k : Nat} {s t : State} (h : s.Crowds j t) (hjk : j ≤ k) : s.Crowds k t :=
  Nat.le_trans h (Nat.add_le_add_left hjk _)

theorem State.Crowds.ite {k : Nat} {p : Prop} [Decidable p] {s t u : State} (ht : s.Crowds k t) (hu : s.Crowds k u) :
    s.Crowds k (if p then t else u) := by
  split
  · exact ht
  · exact hu

theorem State.Crowds.foldl {α : Type} {f : State → α → State} (h : ∀ t x, State.Crowds 0 t (f t x)) (l : List α)
    (s : State) : s.Crowds 0 (l.foldl f s) := by
  induction l generalizing s with
  | nil => exact Nat.le_refl _
  | cons x xs ih => exact (h s x).trans (ih (f s x))

theorem Touches.crowds {ps : List Part} {s t : State} (h : Touches ps s t) (hps : .faults ∉ ps) (k : Nat) :
    s.Crowds k t := by
  rw [State.Crowds, h.faults_eq hps]
  exact Nat.le_add_right _ _

theorem crowds_raise {k : FaultKind} (hk : k ≠ .originOverflow) (n : Nat) (s : State) : s.Crowds 1 (s.raise k n) :=
  FaultList.heldPlaces_raise hk n _ _

theorem crowds_clearFault (k : FaultKind) (n : Nat) (s : State) : s.Crowds 0 (s.clearFault k n) :=
  FaultList.heldPlaces_clear k n _

theorem crowds_clearFaults (k : FaultKind) (s : State) : s.Crowds 0 (s.clearFaults k) :=
  FaultList.heldPlaces_clearKind k _

/-! ### The work that can bring a regime in takes three places at most -/

theorem crowds_recompute (s : State) : s.Crowds 0 s.recompute := (touches_recompute s).crowds (by decide) 0

theorem crowds_setGeneral (s : State) : s.Crowds 0 s.setGeneral := (touches_setGeneral s).crowds (by decide) 0

theorem crowds_refuseOrigin (f : Nat) (s : State) : s.Crowds 0 (s.refuseOrigin f) := by
  have hrefused (t : State) : t.Crowds 0 (t.raiseAtOnce .originOverflow f) :=
    FaultList.heldPlaces_originOverflow f t.time.second t.faults
  exact (State.Crowds.ite (Nat.le_refl _)
    (hrefused { s with regime := { s.regime with overflow := s.regime.overflow ||| BitVec.twoPow 48 f } })).trans
    (crowds_setGeneral _)

theorem crowds_addOrigin (f e : Nat) (s : State) : s.Crowds 0 (s.addOrigin f e) :=
  .ite (Nat.le_refl _) (.ite (Nat.le_refl _) (crowds_refuseOrigin f s))

theorem crowds_latchOrigin (f : Nat) (s : State) : s.Crowds 0 (s.latchOrigin f) :=
  (crowds_addOrigin f 0 s).trans (crowds_recompute _)

theorem crowds_takeOrigin (s : State) (o : Nat × Nat) : s.Crowds 0 (s.takeOrigin o) :=
  .ite (Nat.le_refl _) (crowds_addOrigin _ _ s)

theorem crowds_intake (r : StatusRecord) (s : State) : s.Crowds 0 (s.intake r) := by
  have hgeneral : s.Crowds 0 (if r.general = true then s.setGeneral else s) :=
    .ite (crowds_setGeneral s) (Nat.le_refl _)
  have hepochs (t : State) : t.Crowds 0 ((t.adoptHold r.hold).adoptSilence r.silence) :=
    ((touches_adoptHold r.hold t).crowds (by decide) 0).trans ((touches_adoptSilence r.silence _).crowds (by decide) 0)
  exact ((hgeneral.trans (hepochs _)).trans (.foldl crowds_takeOrigin r.origins _)).trans (crowds_recompute _)

theorem crowds_settleSilence (a : Nat) (s : State) : s.Crowds 1 (s.settleSilence a) :=
  .ite (crowds_raise (by decide) a { s with peers := _ }) (Nat.le_succ _)

theorem crowds_refresh (a : Nat) (r : StatusRecord) (s : State) : s.Crowds 0 (s.refresh a r) :=
  .ite (crowds_clearFault .peerSilent a { s with peers := _ }) (Nat.le_refl _)

theorem crowds_checkParameters (a digest : Nat) (s : State) : s.Crowds 1 (s.checkParameters a digest) :=
  .ite (crowds_raise (by decide) a { s with peers := _ })
    (.ite ((crowds_clearFault .paramDisagree a { s with peers := _ }).mono (Nat.zero_le 1)) (Nat.le_succ _))

theorem crowds_checkPhase (f : Nat) (s : State) : s.Crowds 1 (s.checkPhase f) :=
  .ite ((crowds_clearFault .phaseDisagree f { s with peers := _ }).mono (Nat.zero_le 1))
    (.ite (crowds_raise (by decide) f { s with peers := _ }) (Nat.le_succ _))

theorem crowds_refreshed (a : Nat) (r : StatusRecord) (s : State) : s.Crowds 2 (s.refreshed a r) :=
  ((crowds_settleSilence a s).trans (crowds_refresh a r _)).trans (crowds_checkParameters a r.digest _)

theorem crowds_mergeFloor (f : Nat) (received : Tab ZoneReport 8) (s : State) : s.Crowds 0 (s.mergeFloor f received) :=
  .ite (crowds_latchOrigin f { s with peers := _ }) (Nat.le_refl _)

theorem crowds_peersAllClear (s : State) : s.Crowds 0 s.peersAllClear :=
  crowds_clearFaults .phaseDisagree { s with peers := _ }

theorem crowds_adoptNewer {s : State} (hrole : s.station.role ≠ some .floor) (g : Byte) :
    s.Crowds 0 (s.adoptNewer g) := by
  have hpeers := crowds_peersAllClear { s with regime := Regime.allClear g }
  have hzones (t : State) (ht : t.station.role ≠ some .floor) : t.zonesAllClear = t := if_neg (by simpa using ht)
  have hlater (t : State) : Touches [.reported, .zones, .stairs, .speaker] t
      t.builderAllClear.stairsAllClear.speakerAllClear :=
    ((touches_builderAllClear t).andThen (touches_stairsAllClear _) (rs := [.reported, .zones, .stairs]) (by decide)
      (by decide)).andThen (touches_speakerAllClear _) (by decide) (by decide)
  unfold State.adoptNewer
  dsimp only
  rw [hzones]
  · exact hpeers.trans ((hlater _).crowds (by decide) 0)
  · rwa [(touches_peersAllClear _).role_eq (by decide)]

theorem zonesActivated_of_aside {s : State} (hrole : s.station.role ≠ some .floor) : s.zonesActivated = s :=
  if_neg fun h => hrole ((State.actsAs_iff .floor s).1 h).2

theorem crowds_ownAlarms {s : State} (hrole : s.station.role ≠ some .floor) (was : Bool) : s.Crowds 0 (s.ownAlarms was) := by
  unfold State.ownAlarms
  rw [zonesActivated_of_aside hrole, ite_self]
  exact Nat.le_refl _

/-- A record of a floor, taken in up to the own zones that it lets into ALARM (R81 to R83). -/
def State.admitted (a : Nat) (phase : Phase) (zones : Tab ZoneReport 8) (r : StatusRecord) (s : State) : State :=
  let taken := ((s.setStanding a .current).mergeFloor a zones).intake r
  { taken with peers := taken.peers.updFloor a fun e => { e with phase := phase } }

theorem touches_admitted (a : Nat) (phase : Phase) (zones : Tab ZoneReport 8) (r : StatusRecord) (s : State) :
    Touches Part.merging s (s.admitted a phase zones r) := by
  have hstanding := (touches_setStanding a .current s).mono (qs := Part.merging) (by decide)
  have hintake (t : State) := (touches_intake r t).mono (qs := Part.merging) (by decide)
  have hphase (t : State) := (touches_peers (q := t.peers.updFloor a fun e => { e with phase := phase }) t rfl).mono
    (qs := Part.merging) (by decide)
  exact ((hstanding.trans (touches_mergeFloor a zones _)).trans (hintake _)).trans (hphase _)

/-- The content merge of a floor's record, and of another. -/
theorem mergeContent_cases (a : Nat) (r : StatusRecord) (s : State) :
    (∃ phase zones, s.mergeContent a r = if r.unset then (s.admitted a phase zones r).ownAlarms s.regime.active
      else ((s.admitted a phase zones r).ownAlarms s.regime.active).checkPhase a)
    ∨ s.mergeContent a r = (s.setStanding a .current).intake r := by
  unfold State.mergeContent
  cases r.body with
  | floor phase _ _ _ zones _ _ => exact .inl ⟨phase, zones, rfl⟩
  | lift => exact .inr rfl
  | console => exact .inr rfl

theorem crowds_mergeContent {s : State} (hrole : s.station.role ≠ some .floor) (a : Nat) (r : StatusRecord) :
    s.Crowds 1 (s.mergeContent a r) := by
  have hstanding := (touches_setStanding a .current s).crowds (by decide) 0
  obtain ⟨phase, zones, hcontent⟩ | hcontent := mergeContent_cases a r s
  · have hadmitted : s.Crowds 0 (s.admitted a phase zones r) :=
      (hstanding.trans (crowds_mergeFloor a zones _)).trans (crowds_intake r _)
    rw [← (touches_admitted a phase zones r s).role_eq (by decide)] at hrole
    have hzones := hadmitted.trans (crowds_ownAlarms hrole s.regime.active)
    rw [hcontent]
    exact .ite (hzones.mono (Nat.zero_le 1)) (hzones.trans (crowds_checkPhase a _))
  · rw [hcontent]
    exact (hstanding.trans (crowds_intake r _)).mono (Nat.zero_le 1)

theorem crowds_mergeWindow {s : State} (hrole : s.station.role ≠ some .floor) (a : Nat) (g : Byte) (r : StatusRecord) :
    s.Crowds 1 (s.mergeWindow a g r) := by
  have hcontent := crowds_mergeContent hrole a r
  unfold State.mergeWindow
  refine .ite hcontent ?_
  split
  · refine ((touches_firstAdoption g s).crowds (by decide) 0).trans (crowds_mergeContent ?_ a r)
    exact hrole
  · refine .ite hcontent (.ite ?_ ((touches_setStanding a .stale s).crowds (by decide) 1))
    refine (crowds_adoptNewer hrole g).trans (crowds_mergeContent ?_ a r)
    rwa [(touches_adoptNewer g s).role_eq (by decide)]

theorem duplicateAge_takeBody (a : Nat) (body : StatusBody) (p : Peers) :
    (p.takeBody a body).duplicateAge = p.duplicateAge := by
  cases body <;> rfl

theorem crowds_merge {s : State} (hrole : s.station.role ≠ some .floor) (a : Nat) (g : Byte) (r : StatusRecord) :
    s.Crowds 3 (s.merge a g r) := by
  have hbody : Touches [.peers] (s.refreshed a r) { s.refreshed a r with
      peers := (s.refreshed a r).peers.takeBody a r.body } := touches_peers _ (duplicateAge_takeBody a r.body _)
  rw [← (touches_refreshed a r s).role_eq (by decide), ← hbody.role_eq (by decide)] at hrole
  rw [merge_eq]
  exact ((crowds_refreshed a r s).trans (hbody.crowds (by decide) 0)).trans (crowds_mergeWindow hrole a g r)

theorem crowds_window {s : State} (hrole : s.station.role ≠ some .floor) (g : Byte) : s.Crowds 0 (s.window g) := by
  unfold State.window
  split
  · exact (touches_firstAdoption g s).crowds (by decide) 0
  · exact .ite (crowds_adoptNewer hrole g) (Nat.le_refl _)

theorem crowds_regimeCommand {s : State} (hrole : s.station.role ≠ some .floor) (g : Byte) {f : State → State}
    (h : ∀ t, Touches [.general, .phases, .holdEpoch, .silenceEpoch] t (f t)) : s.Crowds 0 (s.regimeCommand g f) :=
  .ite (Nat.le_refl _) ((crowds_window hrole g).trans ((h _).crowds (by decide) 0))

/-! ### A car that is recalled, and one that is sent on (R132 to R136) -/

/-- Key and doors both stand (R137). -/
def Car.keyed (c : Car) : Bool := c.ffKey.accepted && c.doorsOpen.accepted

theorem Car.atTarget_iff (c : Car) : c.atTarget = true ↔ c.standsAt c.target := by
  unfold Car.atTarget Car.standsAt
  cases c.target <;> simp [and_comm]

theorem Car.tryFirefighter_eq (c : Car) : c.tryFirefighter.target = c.target ∧ c.tryFirefighter.late = c.late
    ∧ c.tryFirefighter.state = (if c.keyed then .firefighter else c.state)
    ∧ (c.recallTimer = none → c.tryFirefighter.recallTimer = none) := by
  unfold Car.tryFirefighter Car.keyed
  split
  · exact ⟨rfl, rfl, rfl, fun _ => rfl⟩
  · exact ⟨rfl, rfl, rfl, id⟩

theorem Car.park_eq (c : Car) : c.park.target = c.target ∧ c.park.late = (c.late || c.state == .unavailable)
    ∧ c.park.state = (if c.keyed then .firefighter else .parked) ∧ c.park.recallTimer = none := by
  obtain ⟨htarget, hlate, hstate, htimer⟩ := Car.tryFirefighter_eq (c.account { c with
    state := .parked, recallTimer := none, late := c.late || c.state == CarState.unavailable })
  exact ⟨htarget, hlate, hstate, htimer rfl⟩

/-- A car as it enters RECALLING, before it goes on. -/
def Car.sent (timeout : Nat) (target : Target) (c : Car) : Car :=
  c.account { c with state := .recalling, target := target, recallTimer := Timer.start (100 * timeout) }

theorem Car.recall_cases (timeout : Nat) (target : Target) (c : Car) : c.recall timeout target
    = if c.standsAt target then (c.sent timeout target).park
      else if c.autoService.accepted then c.sent timeout target else (c.sent timeout target).lose := by
  have hstands : (c.sent timeout target).atTarget = true ↔ c.standsAt target := Car.atTarget_iff (c.sent timeout target)
  change (if (c.sent timeout target).atTarget = true then _ else if (!c.autoService.accepted) = true then _ else _) = _
  refine if_congr hstands rfl ?_
  cases c.autoService.accepted <;> rfl

/-- A car that enters RECALLING, and goes on at once where it stands at its target or is out of automatic service. -/
theorem Car.recall_eq (timeout : Nat) (target : Target) (c : Car) :
    (c.recall timeout target).target = target ∧ (c.recall timeout target).late = c.late
    ∧ (c.recall timeout target).state = (if c.standsAt target then (if c.keyed then .firefighter else .parked)
        else if c.autoService.accepted then .recalling else .unavailable)
    ∧ (c.recall timeout target).recallTimer
        = (if (c.recall timeout target).state = .recalling then some (100 * timeout) else none) := by
  rw [Car.recall_cases]
  split
  · obtain ⟨htarget, hlate, hstate, htimer⟩ := Car.park_eq (c.sent timeout target)
    refine ⟨htarget, hlate.trans (Bool.or_false _), hstate, htimer.trans (if_neg ?_).symm⟩
    rw [hstate]
    split <;> nofun
  · split
    · exact ⟨rfl, rfl, rfl, rfl⟩
    · exact ⟨rfl, rfl, rfl, rfl⟩

/-- What a compromised primary makes of a car that was bound for it, by its state (R136). -/
structure Car.Diverted (timeout : Nat) (was now : Car) : Prop where
  target : now.target = .alternate
  moving : was.state = .recalling ∨ was.state = .parked → now.late = was.late
    ∧ now.state = (if was.standsAt .alternate then (if was.keyed then .firefighter else .parked) else .recalling)
    ∧ now.recallTimer = (if now.state = .recalling then some (100 * timeout) else none)
  arrives : was.state = .unavailable → was.standsAt .alternate → now.late = true
    ∧ now.state = (if was.keyed then .firefighter else .parked)
  waits : was.state = .unavailable → ¬ was.standsAt .alternate → now.late = was.late ∧ now.state = .unavailable
    ∧ now.recallTimer = was.recallTimer
  driven : was.state = .firefighter → now.late = was.late ∧ now.state = .firefighter ∧ now.recallTimer = was.recallTimer

/-- A car as it is bound for the alternate (R136). -/
def Car.turned (c : Car) : Car := c.account { c with target := .alternate }

theorem Car.retarget_eq {c : Car} (htarget : c.target = .primary) (timeout : Nat) : c.retarget timeout
    = match c.state with
      | .recalling | .parked =>
        if c.standsAt .alternate then (c.turned.sent timeout .alternate).park else c.turned.sent timeout .alternate
      | .unavailable => if c.standsAt .alternate then c.turned.park else c.turned
      | .firefighter => c.turned
      | .normal => c := by
  have hturned : c.turned.atTarget = true ↔ c.standsAt .alternate := Car.atTarget_iff c.turned
  have hsent : (c.turned.sent timeout .alternate).atTarget = true ↔ c.standsAt .alternate :=
    Car.atTarget_iff (c.turned.sent timeout .alternate)
  refine (if_neg (by simp [htarget])).trans ?_
  change (match c.state with
    | .recalling | .parked => if (c.turned.sent timeout .alternate).atTarget
      then (c.turned.sent timeout .alternate).park else c.turned.sent timeout .alternate
    | .unavailable => if c.turned.atTarget then c.turned.park else c.turned
    | .firefighter => c.turned
    | .normal => c) = _
  cases c.state with
  | recalling => exact if_congr hsent rfl rfl
  | parked => exact if_congr hsent rfl rfl
  | unavailable => exact if_congr hturned rfl rfl
  | firefighter => rfl
  | normal => rfl

theorem Car.retarget_diverted {c : Car} (htarget : c.target = .primary) (hstate : c.state ≠ .normal) (timeout : Nat) :
    c.Diverted timeout (c.retarget timeout) := by
  have hmoving (h : c.state = .recalling ∨ c.state = .parked) : c.retarget timeout = if c.standsAt .alternate
      then (c.turned.sent timeout .alternate).park else c.turned.sent timeout .alternate := by
    rw [Car.retarget_eq htarget]
    rcases h with h | h <;> rw [h]
  have hunavailable (h : c.state = .unavailable) : c.retarget timeout
      = if c.standsAt .alternate then c.turned.park else c.turned := by
    rw [Car.retarget_eq htarget, h]
  have hdriven (h : c.state = .firefighter) : c.retarget timeout = c.turned := by
    rw [Car.retarget_eq htarget, h]
  obtain ⟨hsentTarget, hsentLate, hsentState, hsentTimer⟩ := Car.park_eq (c.turned.sent timeout .alternate)
  obtain ⟨hturnedTarget, hturnedLate, hturnedState, -⟩ := Car.park_eq c.turned
  refine ⟨?_, fun h => ?_, fun h hat => ?_, fun h hat => ?_, fun h => ?_⟩
  · cases h : c.state with
    | normal => exact absurd h hstate
    | recalling =>
      rw [hmoving (.inl h)]
      split
      · exact hsentTarget
      · rfl
    | parked =>
      rw [hmoving (.inr h)]
      split
      · exact hsentTarget
      · rfl
    | unavailable =>
      rw [hunavailable h]
      split
      · exact hturnedTarget
      · rfl
    | firefighter =>
      rw [hdriven h]
      rfl
  · rw [hmoving h]
    split
    · refine ⟨hsentLate.trans (Bool.or_false _), hsentState, hsentTimer.trans (if_neg ?_).symm⟩
      rw [hsentState]
      split <;> nofun
    · exact ⟨rfl, rfl, rfl⟩
  · rw [hunavailable h, if_pos hat]
    refine ⟨hturnedLate.trans ?_, hturnedState⟩
    change (c.late || c.state == .unavailable) = true
    rw [h]
    exact Bool.or_true _
  · rw [hunavailable h, if_neg hat]
    exact ⟨rfl, h, rfl⟩
  · rw [hdriven h]
    exact ⟨rfl, h, rfl⟩

/-! ### The reaction of one car -/

theorem Car.retarget_of_other {c : Car} (h : c.state = .normal ∨ c.target ≠ .primary) (timeout : Nat) :
    c.retarget timeout = c := by
  by_cases htarget : c.target = .primary
  · rw [Car.retarget_eq htarget, h.resolve_right fun hne => hne htarget]
  · exact if_pos htarget

/-- A car but a NORMAL one loses at most its pending restore as the regime becomes active (R132). -/
theorem Car.activate_of_not_normal {c : Car} (h : c.state ≠ .normal) (timeout : Nat) (lost : Bool) :
    (c.state = .firefighter ∧ c.activate timeout lost = c.account { c with restorePending := false })
    ∨ (c.state ≠ .firefighter ∧ c.activate timeout lost = c) := by
  unfold Car.activate
  cases hs : c.state with
  | normal => exact absurd hs h
  | firefighter => exact .inl ⟨rfl, rfl⟩
  | _ => exact .inr ⟨nofun, rfl⟩

theorem Car.react_normal {c : Car} (h : c.state = .normal) (timeout : Nat) (lost : Bool) :
    c.react timeout lost true = c.recall timeout (if lost then .alternate else .primary) := by
  have hactivate : c.activate timeout lost = c.recall timeout (if lost then .alternate else .primary) := by
    rw [Car.activate, h]
  unfold Car.react
  dsimp only
  rw [if_pos rfl, hactivate]
  cases lost with
  | false => rfl
  | true => exact Car.retarget_of_other (.inr (by rw [(Car.recall_eq timeout _ c).1]; nofun)) timeout

theorem Car.react_diverted {c : Car} (hstate : c.state ≠ .normal) (htarget : c.target = .primary) (timeout : Nat)
    (became : Bool) : c.Diverted timeout (c.react timeout true became) := by
  cases became with
  | false => exact Car.retarget_diverted htarget hstate timeout
  | true =>
    change c.Diverted timeout ((c.activate timeout true).retarget timeout)
    obtain ⟨-, hactivate⟩ | ⟨-, hactivate⟩ := Car.activate_of_not_normal hstate timeout true
    · rw [hactivate]
      obtain ⟨target, moving, arrives, waits, driven⟩ := Car.retarget_diverted
        (c := c.account { c with restorePending := false }) htarget hstate timeout
      exact ⟨target, moving, arrives, waits, driven⟩
    · rw [hactivate]
      exact Car.retarget_diverted htarget hstate timeout

/-- State, target, recall timer and late flag are as they were. -/
def Car.Keeps (was now : Car) : Prop := now.state = was.state ∧ now.target = was.target ∧ now.recallTimer = was.recallTimer
  ∧ now.late = was.late

theorem Car.react_keeps {c : Car} {lost became : Bool} (hopens : c.state ≠ .normal ∨ became = false)
    (hbound : c.state = .normal ∨ ¬ (c.target = .primary ∧ lost = true)) (timeout : Nat) :
    c.Keeps (c.react timeout lost became) := by
  have hactivate : c.Keeps (if became then c.activate timeout lost else c) := by
    cases became with
    | false => exact ⟨rfl, rfl, rfl, rfl⟩
    | true =>
      rw [if_pos rfl]
      obtain ⟨-, h⟩ | ⟨-, h⟩ :=
        Car.activate_of_not_normal (hopens.resolve_right (by simp)) timeout lost <;> rw [h] <;> exact ⟨rfl, rfl, rfl, rfl⟩
  unfold Car.react
  dsimp only
  obtain ⟨hstate, htarget, -⟩ := id hactivate
  split
  · rename_i hlost
    rw [Car.retarget_of_other]
    · exact hactivate
    · rw [hstate, htarget]
      exact hbound.imp_right fun h hprimary => h ⟨hprimary, hlost⟩
  · exact hactivate

theorem Car.restorePending_activate (timeout : Nat) (lost : Bool) (c : Car) :
    (c.activate timeout lost).restorePending = (c.restorePending && !(c.state == .firefighter)) := by
  by_cases h : c.state = .normal
  · rw [Car.activate, h]
    exact (Car.restorePending_recall _ _ c).trans (Bool.and_true _).symm
  · obtain ⟨hstate, hactivate⟩ | ⟨hstate, hactivate⟩ := Car.activate_of_not_normal h timeout lost
    · rw [hactivate, hstate]
      exact (Bool.and_false _).symm
    · rw [hactivate, beq_eq_false_iff_ne.2 hstate]
      exact (Bool.and_true _).symm

/-- A pending restore of a FIREFIGHTER ends as the regime becomes active (R132). -/
theorem Car.restorePending_react (timeout : Nat) (lost became : Bool) (c : Car) : (c.react timeout lost became).restorePending
    = (c.restorePending && !(c.state == .firefighter && became)) := by
  have hactivate : (if became then c.activate timeout lost else c).restorePending
      = (c.restorePending && !(c.state == .firefighter && became)) := by
    cases became with
    | false => simp
    | true => rw [if_pos rfl, Car.restorePending_activate, Bool.and_true]
  unfold Car.react
  dsimp only
  split
  · exact (Car.restorePending_retarget timeout _).trans hactivate
  · exact hactivate

theorem Car.inputFault_react (timeout : Nat) (lost became : Bool) (c : Car) :
    (c.react timeout lost became).inputFault = c.inputFault := by
  have hpark (x : Car) : x.park.inputFault = x.inputFault := by
    unfold Car.park Car.tryFirefighter
    split <;> rfl
  have hrecall (target : Target) : (c.recall timeout target).inputFault = c.inputFault := by
    rw [Car.recall_cases]
    split_ifs
    · exact hpark _
    · rfl
    · rfl
  have hactivate : (if became then c.activate timeout lost else c).inputFault = c.inputFault := by
    unfold Car.activate
    split
    · split
      · exact hrecall _
      · rfl
      · rfl
    · rfl
  have hretarget (x : Car) : (x.retarget timeout).inputFault = x.inputFault := by
    by_cases htarget : x.target = .primary
    · rw [Car.retarget_eq htarget]
      split
      · split_ifs
        · exact hpark _
        · rfl
      · split_ifs
        · exact hpark _
        · rfl
      · split_ifs
        · exact hpark _
        · rfl
      · rfl
      · rfl
    · rw [Car.retarget_of_other (.inr htarget)]
  unfold Car.react
  dsimp only
  split
  · exact (hretarget _).trans hactivate
  · exact hactivate

/-! ### LIFT-UNAVAILABLE at the end of an event (R134, R135) -/

/-- A car's reaction leaves its input fault, so LIFT-UNAVAILABLE alone follows it. -/
theorem faults_carReact (became : Bool) (s : State) (c : Nat) :
    let now := (s.car c).react s.image.recallTimeout s.compromised became
    (s.carReact became c).faults = if (s.car c).present = true then
        (if now.state = .unavailable ∧ (s.car c).state ≠ .unavailable
          then s.faults.raise .liftUnavailable (c + 1) s.time.second
          else if (s.car c).state = .unavailable ∧ now.state ≠ .unavailable
          then s.faults.clear .liftUnavailable (c + 1) else s.faults)
      else s.faults := by
  intro now
  have hinput : now.inputFault = (s.car c).inputFault := Car.inputFault_react _ _ _ _
  rw [carReact_eq, State.changeCar]
  split
  · unfold State.carFaults
    dsimp only
    rw [if_neg (by rw [hinput]; simp), if_neg (by rw [hinput]; simp)]
    split_ifs <;> rfl
  · rfl

theorem crowds_carReact (became : Bool) (s : State) (c : Nat) : s.Crowds 1 (s.carReact became c) := by
  unfold State.Crowds
  rw [faults_carReact]
  split_ifs
  · exact FaultList.heldPlaces_raise (by decide) _ _ _
  · exact (FaultList.heldPlaces_clear _ _ _).trans (Nat.le_succ _)
  · exact Nat.le_succ _
  · exact Nat.le_succ _

theorem holds_carReact_ne (became : Bool) (s : State) {c n : Nat} (h : c ≠ n) :
    (s.carReact became c).faults.holds .liftUnavailable (n + 1) = s.faults.holds .liftUnavailable (n + 1) := by
  have hother : ¬ (FaultKind.liftUnavailable = .liftUnavailable ∧ c + 1 = n + 1) := fun hk => h (Nat.succ.inj hk.2)
  rw [faults_carReact]
  split_ifs
  · exact FaultList.holds_raise_other _ _ _ _ _ _ hother
  · exact FaultList.holds_clear_other _ _ _ _ _ hother
  · rfl
  · rfl

/-- LIFT-UNAVAILABLE of car `n` follows the step from `old` to `new`, where a raise finds a place. -/
def State.Follows (n : Nat) (old new : Car) (room : Prop) (s : State) : Prop :=
  (old.state = .unavailable → new.state ≠ .unavailable → s.faults.holds .liftUnavailable (n + 1) = false)
  ∧ (old.state ≠ .unavailable → new.state = .unavailable → room → s.faults.holds .liftUnavailable (n + 1) = true)

theorem follows_carReact (became : Bool) {s : State} {n : Nat} (hpresent : (s.car n).present = true) :
    (s.carReact became n).Follows n (s.car n) ((s.car n).react s.image.recallTimeout s.compromised became)
      (s.faults.heldPlaces < 16) := by
  unfold State.Follows
  rw [faults_carReact, if_pos hpresent]
  refine ⟨fun hold hnew => ?_, fun hold hnew hroom => ?_⟩
  · rw [if_neg fun h => hnew h.1, if_pos ⟨hold, hnew⟩]
    exact FaultList.holds_clear _ _ _
  · rw [if_pos ⟨hnew, hold⟩]
    exact FaultList.holds_raise _ _ _ _ (FaultList.finds_of_heldPlaces hroom _ _)

theorem crowds_foldl_carReact (became : Bool) (l : List Nat) (s : State) :
    s.Crowds l.length (l.foldl (State.carReact became) s) := by
  induction l generalizing s with
  | nil => exact Nat.le_refl _
  | cons c cs ih => exact ((crowds_carReact became s c).trans (ih _)).mono (by rw [List.length_cons, Nat.add_comm])

theorem holds_foldl_carReact (became : Bool) {l : List Nat} {n : Nat} (hn : n ∉ l) (s : State) :
    (l.foldl (State.carReact became) s).faults.holds .liftUnavailable (n + 1)
      = s.faults.holds .liftUnavailable (n + 1) := by
  induction l generalizing s with
  | nil => rfl
  | cons c cs ih =>
    rw [List.mem_cons, not_or] at hn
    exact (ih hn.2 _).trans (holds_carReact_ne became s (Ne.symm hn.1))

/-- The cars that act before car `n` leave it, and take a place each at most. -/
theorem before_carReact (became : Bool) {before : List Nat} (hnodup : before.Nodup) (hlength : before.length ≤ 3) (s : State)
    {n : Nat} (hn : n < 4) (hnot : n ∉ before) :
    (before.foldl (State.carReact became) s).car n = s.car n
    ∧ (s.faults.heldPlaces ≤ 12 → (before.foldl (State.carReact became) s).faults.heldPlaces < 16) := by
  refine ⟨?_, fun h => ?_⟩
  · rw [foldl_carReact_car became hnodup s hn, if_neg fun h => hnot h.1]
  · have hcrowds : (before.foldl (State.carReact became) s).faults.heldPlaces ≤ _ :=
      crowds_foldl_carReact became before s
    omega

/-- The cars of a LIFT station act one after the other, each with its own fault. -/
theorem follows_liftsReact (became : Bool) {s : State} (hrole : s.actsAs .lift = true) {n : Nat} (hn : n < 4)
    (hpresent : (s.car n).present = true) : (s.liftsReact became).Follows n (s.car n)
      ((s.car n).react s.image.recallTimeout s.compromised became) (s.faults.heldPlaces ≤ 12) := by
  obtain ⟨before, after, hl⟩ := List.append_of_mem (List.mem_range.2 hn)
  have hnodup : (before ++ n :: after).Nodup := hl ▸ List.nodup_range
  obtain ⟨hbefore, hrest, hapart⟩ := List.nodup_append.1 hnodup
  have hnotBefore : n ∉ before := fun h => hapart n h n List.mem_cons_self rfl
  have hnotAfter : n ∉ after := (List.nodup_cons.1 hrest).1
  have hlength : before.length ≤ 3 := by
    have h := congrArg List.length hl
    rw [List.length_range, List.length_append, List.length_cons] at h
    omega
  have hmet : Touches [.cars, .faults] s (before.foldl (State.carReact became) s) :=
    .foldl _ (fun t c => touches_changeCar c _ t) before s
  obtain ⟨hcar, hroom⟩ := before_carReact became hbefore hlength s hn hnotBefore
  have hfold : s.liftsReact became
      = after.foldl (State.carReact became) ((before.foldl (State.carReact became) s).carReact became n) := by
    rw [State.liftsReact, if_pos hrole, hl, List.foldl_append, List.foldl_cons]
  obtain ⟨hended, hraised⟩ := follows_carReact became (s := before.foldl (State.carReact became) s)
    (by rw [hcar]; exact hpresent)
  rw [hcar, hmet.image_eq (by decide), hmet.compromised_eq (by decide) (by decide) (by decide)] at hended hraised
  unfold State.Follows
  rw [hfold, holds_foldl_carReact became hnotAfter]
  exact ⟨hended, fun hold hnew h => hraised hold hnew (hroom h)⟩

/-! ### The end of an event at a LIFT station (R131 to R136) -/

theorem primaryLost_iff (s : State) : s.primaryLost ↔ s.compromised = true := by
  rw [State.compromised, Bool.or_eq_true, List.contains_iff_mem]

theorem opensTo_iff (s t : State) : s.opensTo t ↔ becameActive s t = true := by
  have hcleared : s.clearsTo t ↔ clearedBetween s t = true := by
    simp only [State.clearsTo, clearedBetween, Bool.and_eq_true, Option.isSome_iff_ne_none, bne_iff_ne, and_assoc, ne_comm]
  simp only [State.opensTo, becameActive, hcleared, Bool.and_eq_true, Bool.or_eq_true, Bool.not_eq_true']

section
variable {w : State} (hrole : w.actsAs .lift = true) (old : State)
include hrole

/-- No block but the lift unit does anything before the speaker. -/
theorem fielded_of_lift : w.fielded old = w.liftsReact (becameActive old w) := by
  have hlift := ((State.actsAs_iff .lift w).1 hrole).2
  have hactivated : w.activated old = w := by
    rw [State.activated, zonesActivated_of_aside (by rw [hlift]; nofun), ite_self]
  have haside : ¬ w.actsAs .floor = true := fun h => by
    have hfloor := ((State.actsAs_iff .floor w).1 h).2
    rw [hlift] at hfloor
    cases hfloor
  have hstairs : w.stairsReact (clearedBetween old w) (becameActive old w) = w := if_neg haside
  rw [State.fielded, hactivated, hstairs]

/-- What the end of an event may change at a LIFT station. -/
theorem touches_finish_lift : Touches [.cars, .faults, .speaker, .cadence, .alarmLamp, .peers, .changeDue, .statusSlot] w
    (w.finish old) := by
  refine Touches.andThen ?_ (touches_finish_fielded (State.acts_of_actsAs hrole) old) (ps := [.cars, .faults]) (by decide)
    (by decide)
  rw [fielded_of_lift hrole old]
  exact touches_liftsReact _ w

theorem finish_regime_lift : (w.finish old).regime = w.regime :=
  (touches_finish_lift hrole old).regime_eq (by decide) (by decide) (by decide) (by decide) (by decide) (by decide)

theorem primaryLost_finish_lift : (w.finish old).primaryLost ↔ w.compromised = true := by
  have hacts := State.acts_of_actsAs hrole
  have ht := touches_finish_lift hrole old
  have hlobby (f : Nat) : ((w.finish old).floorEntry f).lobbyLatch = (w.floorEntry f).lobbyLatch := by
    have hspoken : Touches [.cars, .faults, .speaker] w (w.spoken old) := by
      refine Touches.andThen (ps := [.cars, .faults]) ?_ (touches_speakerReact old _ _) (by decide) (by decide)
      rw [fielded_of_lift hrole old]
      exact touches_liftsReact _ w
    have hreacted := hspoken.andThen (touches_reacted old w) (rs := [.cars, .faults, .speaker, .cadence, .alarmLamp])
      (by decide) (by decide)
    rw [finish_eq_reacted hacts, State.floorEntry, (touches_builderReact old _).floors_eq (by decide), ← State.floorEntry,
      (loopback_latches _ f).2, State.floorEntry, hreacted.floors_eq (by decide), State.floorEntry]
  rw [← primaryLost_iff, State.primaryLost, State.primaryLost, hlobby, ht.image_eq (by decide), finish_regime_lift hrole old]

end

/-- The change latch and the count apart, the record is as it was. -/
def Car.Still (was now : Car) : Prop := ∃ latch count, now = { was with latch := latch, count := count }

theorem Car.Still.refl (c : Car) : c.Still c := ⟨c.latch, c.count, rfl⟩

/-- The own work of an event that leaves car `n`, and leaves LIFT-UNAVAILABLE a place where it lets a regime in. -/
structure State.Spares (n : Nat) (s w : State) : Prop where
  lift : w.actsAs .lift = true
  image : w.image = s.image
  car : w.regime.active = true → (s.car n).Still (w.car n)
  room : becameActive s w = true → s.Crowds 3 w

/-- The end of such an event. -/
theorem State.Spares.carRecalled {n : Nat} {s w : State} (h : s.Spares n w) (hn : n < 4)
    (hpresent : (s.car n).present = true) (hactive : (w.finish s).regime.active = true) :
    s.carRecalled n (w.finish s) := by
  obtain ⟨hrole, himage, hstill, hroom⟩ := h
  obtain ⟨hacts, hlift⟩ := (State.actsAs_iff .lift w).1 hrole
  have hregime := finish_regime_lift hrole s
  rw [hregime] at hactive
  obtain ⟨latch, count, hcar⟩ := hstill hactive
  have hthere : (w.car n).present = true := by rw [hcar]; exact hpresent
  have hnow : (w.finish s).car n = (w.car n).react s.image.recallTimeout w.compromised (becameActive s w) := by
    have hactivated : w.activated s = w := by
      rw [State.activated, zonesActivated_of_aside (by rw [hlift]; nofun), ite_self]
    rw [finish_car hacts s hn, if_pos ⟨hlift, hthere⟩, hactivated, himage]
  have hlost := primaryLost_finish_lift hrole s
  have hopens : s.opensTo (w.finish s) ↔ becameActive s w = true := by
    rw [opensTo_iff, becameActive, clearedBetween, hregime]
    rfl
  have hfollows : (w.finish s).Follows n (w.car n)
      ((w.car n).react s.image.recallTimeout w.compromised (becameActive s w)) (w.faults.heldPlaces ≤ 12) := by
    have h := follows_liftsReact (becameActive s w) hrole hn hthere
    rw [himage] at h
    unfold State.Follows at h ⊢
    rwa [(touches_finish_fielded hacts s).faults_eq (by decide), fielded_of_lift hrole s]
  have hinput (k : CarInput) : ((w.finish s).car n).input k = (s.car n).input k := by
    rw [hnow, (Car.of_lines (Car.lines_react _ _ _ _)).2 k, hcar]
    cases k <;> rfl
  have hpending := Car.restorePending_react s.image.recallTimeout w.compromised (becameActive s w) (w.car n)
  rw [hcar] at hnow
  rw [hcar, ← hnow] at hfollows
  rw [hcar, ← hnow] at hpending
  obtain ⟨hended, hraised⟩ := hfollows
  refine ⟨hinput, fun hnormal hopen => ?_, fun hstate hbound => ?_, fun hopen hbound => ?_, ?_⟩
  · rw [hopens] at hopen
    have hplace : s.faults.records.length < 8 → w.faults.heldPlaces ≤ 12 := fun hlen => by
      have hcrowds : w.faults.heldPlaces ≤ _ := hroom hopen
      have hheld := s.faults.heldPlaces_le
      omega
    rw [hopen] at hnow
    obtain ⟨htarget, hlate, hstate, htimer⟩ := Car.recall_eq s.image.recallTimeout
      (if w.compromised then .alternate else .primary) { s.car n with latch := latch, count := count }
    rw [← Car.react_normal (c := { s.car n with latch := latch, count := count }) hnormal, ← hnow] at htarget hlate hstate htimer
    rw [htarget]
    exact ⟨(if_congr hlost rfl rfl).symm, hlate, hstate, htimer,
      fun hgone hlen => hraised (by rw [hnormal]; nofun) hgone (hplace hlen)⟩
  · obtain ⟨hprimary, hcompromised⟩ := hbound
    rw [hlost] at hcompromised
    rw [hcompromised] at hnow
    obtain ⟨htarget, hmoving, harrives, hwaits, hdriven⟩ := Car.react_diverted
      (c := { s.car n with latch := latch, count := count }) hstate hprimary s.image.recallTimeout (becameActive s w)
    rw [← hnow] at htarget hmoving harrives hwaits hdriven
    refine ⟨htarget, hmoving, fun hgone hat => ?_, hwaits, hdriven⟩
    obtain ⟨hlate, hnext⟩ := harrives hgone hat
    refine ⟨hlate, hnext, hended hgone ?_⟩
    rw [hnext]
    split <;> nofun
  · rw [hopens, Bool.not_eq_true] at hopen
    rw [hlost] at hbound
    rw [hnow]
    exact Car.react_keeps (c := { s.car n with latch := latch, count := count }) hopen hbound _
  · rw [hpending]
    simp only [hopens, Bool.decide_eq_true]

/-! ### The work of every event, and one car (R131 to R136, R139) -/

theorem becameActive_of_view {ps : List Part} {s w : State} (h : Touches ps s w)
    (hps : .origins ∉ ps ∧ .general ∉ ps ∧ .generation ∉ ps) : becameActive s w = false :=
  becameActive_same (h.active_eq hps.1 hps.2.1) (h.generation_eq hps.2.2)

section
variable {n : Nat} {s : State}

/-- Work that leaves the cars. -/
theorem Touches.spares {ps : List Part} {w : State} (h : Touches ps s w)
    (hps : .identity ∉ ps ∧ .image ∉ ps ∧ .cars ∉ ps) (hrole : s.actsAs .lift = true) (hacts : w.acts = s.acts)
    (hroom : becameActive s w = true → s.Crowds 3 w) : s.Spares n w where
  lift := by
    obtain ⟨hs, hlift⟩ := (State.actsAs_iff .lift s).1 hrole
    exact (State.actsAs_iff .lift w).2 ⟨hacts.trans hs, (h.role_eq hps.1).trans hlift⟩
  image := h.image_eq hps.2.1
  car _ := by
    have hcar : w.car n = s.car n := by rw [State.car, h.cars_eq hps.2.2, State.car]
    rw [hcar]
    exact .refl _
  room := hroom

/-- Work that leaves the cars and the view. -/
theorem Touches.spares_quiet {ps : List Part} {w : State} (h : Touches ps s w)
    (hps : .identity ∉ ps ∧ .image ∉ ps ∧ .cars ∉ ps ∧ .lifecycle ∉ ps)
    (hview : .origins ∉ ps ∧ .general ∉ ps ∧ .generation ∉ ps) (hrole : s.actsAs .lift = true) : s.Spares n w :=
  h.spares ⟨hps.1, hps.2.1, hps.2.2.1⟩ hrole (h.acts_eq hps.2.2.2) fun hbecame => by
    rw [becameActive_of_view h hview] at hbecame
    cases hbecame

/-- What comes before the work, and leaves cars, view and places. -/
theorem State.Spares.before {ps : List Part} {v w : State} (k : v.Spares n w) (h : Touches ps s v)
    (hps : .image ∉ ps ∧ .cars ∉ ps ∧ .origins ∉ ps ∧ .general ∉ ps ∧ .generation ∉ ps) (hroom : s.Crowds 0 v) :
    s.Spares n w := by
  obtain ⟨himage, hcars, horigins, hgeneral, hgeneration⟩ := hps
  have hbecame : becameActive s w = becameActive v w := by
    rw [becameActive, becameActive, clearedBetween, clearedBetween, h.active_eq horigins hgeneral,
      h.generation_eq hgeneration]
  refine ⟨k.lift, k.image.trans (h.image_eq himage), fun hactive => ?_, fun hb => ?_⟩
  · have hcar := k.car hactive
    rwa [State.car, h.cars_eq hcars, ← State.car] at hcar
  · exact (hroom.trans (k.room (hbecame ▸ hb))).mono (Nat.le_refl 3)

theorem spares_regimeCommand (hrole : s.actsAs .lift = true) (g : Byte) {f : State → State}
    (h : ∀ t, Touches [.general, .phases, .holdEpoch, .silenceEpoch] t (f t)) : s.Spares n (s.regimeCommand g f) := by
  have hlift := ((State.actsAs_iff .lift s).1 hrole).2
  have ht := touches_regimeCommand g f s h
  exact ht.spares (by decide) hrole (ht.acts_eq (by decide))
    fun _ => (crowds_regimeCommand (by rw [hlift]; nofun) g h).mono (Nat.zero_le 3)

theorem spares_window (hrole : s.actsAs .lift = true) (g : Byte) : s.Spares n (s.window g) := by
  have hlift := ((State.actsAs_iff .lift s).1 hrole).2
  exact (touches_window g s).spares (by decide) hrole ((touches_window g s).acts_eq (by decide))
    fun _ => (crowds_window (by rw [hlift]; nofun) g).mono (Nat.zero_le 3)

/-- LIFT RESTORE under an active regime is refused; otherwise no regime comes in (R139). -/
theorem spares_liftRestore (hrole : s.actsAs .lift = true) (g : Byte) : s.Spares n (s.obeyLiftRestore g) := by
  obtain ⟨hacts, hlift⟩ := (State.actsAs_iff .lift s).1 hrole
  have hwindow := touches_window g s
  have hrestore := touches_restoreBank (s.window g)
  have hobey : s.obeyLiftRestore g = (s.window g).restoreBank :=
    if_pos (by rw [hwindow.role_eq (by decide), hlift]; rfl)
  rw [hobey]
  refine ⟨(State.actsAs_iff .lift _).2 ⟨?_, ?_⟩, ?_, fun hactive => ?_, fun hbecame => ?_⟩
  · rw [hrestore.acts_eq (by decide), hwindow.acts_eq (by decide), hacts]
  · rw [hrestore.role_eq (by decide), hwindow.role_eq (by decide), hlift]
  · rw [hrestore.image_eq (by decide), hwindow.image_eq (by decide)]
  · rw [hrestore.active_eq (by decide) (by decide)] at hactive
    have hcar : (s.window g).restoreBank.car n = s.car n := by
      rw [State.restoreBank, if_pos hactive]
      change (s.window g).car n = s.car n
      rw [State.car, hwindow.cars_eq (by decide), State.car]
    rw [hcar]
    exact .refl _
  · rw [becameActive_window hrestore (by decide) rfl] at hbecame
    cases hbecame

theorem spares_obey (hrole : s.actsAs .lift = true) (console : Nat) (g : Byte) (c : Command) :
    s.Spares n (s.obey console g c) := by
  have hw := spares_window (n := n) hrole g
  have haside : ¬ ((s.window g).station.role == some Role.floor) = true := by
    rw [(touches_window g s).role_eq (by decide), ((State.actsAs_iff .lift s).1 hrole).2]
    nofun
  have hmasked (mask : FloorMask) : ¬ (s.window g).masked mask = true := fun h => haside (and_left_iff h)
  have hidle {p : Prop} [Decidable p] {t : State} (hp : ¬ p) : s.Spares n (if p then t else s.window g) := by
    rw [if_neg hp]
    exact hw
  have hregime {f : State → State} (h : ∀ t, Touches [.general, .phases, .holdEpoch, .silenceEpoch] t (f t)) :=
    spares_regimeCommand (n := n) hrole g h
  cases c with
  | general => exact hregime fun t => (touches_setGeneral t).mono (by decide)
  | hold e => exact hregime fun t => (touches_adoptHold e t).mono (by decide)
  | resume e => exact hregime fun t => (touches_adoptHold e t).mono (by decide)
  | silence e => exact hregime fun t => (touches_adoptSilence e t).mono (by decide)
  | resound e => exact hregime fun t => (touches_adoptSilence e t).mono (by decide)
  | allClear => exact hw
  | zoneDisable z => exact hidle haside
  | zoneEnable z => exact hidle haside
  | take mask number => exact hidle (hmasked mask)
  | keep number => exact hidle haside
  | give mask => exact hidle (hmasked mask)
  | testAnnounce mask message => exact hidle (hmasked mask)
  | liftRestore bank => exact spares_liftRestore hrole g

theorem spares_merge (hrole : s.actsAs .lift = true) (a : Nat) (g : Byte) (r : StatusRecord) :
    s.Spares n (s.merge a g r) := by
  have hlift := ((State.actsAs_iff .lift s).1 hrole).2
  exact (touches_merge a g r s).spares (by decide) hrole (evolves_merge a g r s).acts
    fun _ => crowds_merge (by rw [hlift]; nofun) a g r

theorem spares_setAside (hrole : s.actsAs .lift = true) : s.Spares n s.setAside :=
  (touches_setAside s).spares_quiet (by decide) (by decide) hrole

theorem spares_takeStatusFrame (hrole : s.actsAs .lift = true) (f : Frame) : s.Spares n (s.takeStatusFrame f) := by
  unfold State.takeStatusFrame
  split
  · exact spares_merge hrole _ _ _
  · exact spares_setAside hrole

theorem spares_same (hrole : s.actsAs .lift = true) : s.Spares n s :=
  (Touches.refl [] s).spares_quiet (by decide) (by decide) hrole

theorem spares_handOn (hrole : s.actsAs .lift = true) (f : Frame) (w : Word16) : s.Spares n (s.handOn f w) := by
  unfold State.handOn
  split
  · exact spares_takeStatusFrame hrole f
  · exact spares_takeStatusFrame hrole f
  · exact spares_takeStatusFrame hrole f
  · unfold State.takeCommandFrame
    split
    · exact spares_obey hrole _ _ _
    · exact spares_setAside hrole
  · unfold State.takeMarkFrame
    split
    · exact (touches_followMark _ _ w s).spares_quiet (by decide) (by decide) hrole
    · exact spares_setAside hrole
  · exact spares_same hrole

theorem spares_rxAct (hrole : s.actsAs .lift = true) (e : RxEvent) : s.Spares n (s.rxAct State.handOn e) := by
  by_cases haccepted : ∃ f t, e = .accepted f t
  · obtain ⟨f, t, rfl⟩ := haccepted
    have hcount := touches_countAccepted s
    have hcounted : s.countAccepted.actsAs .lift = true := by
      rw [State.actsAs_iff] at hrole ⊢
      rwa [hcount.acts_eq (by decide), hcount.role_eq (by decide)]
    suffices hwork : s.countAccepted.Spares n (s.rxAct State.handOn (.accepted f t)) from
      hwork.before hcount (by decide) (hcount.crowds (by decide) 0)
    change s.countAccepted.Spares n (if _ then _ else if _ then _ else _)
    split
    · exact (touches_duplicateHeard _).spares_quiet (by decide) (by decide) hcounted
    · split
      · exact (touches_raiseAtOnce _ _ _).spares_quiet (by decide) (by decide) hcounted
      · exact spares_handOn hcounted f t
  · exact (touches_discard (fun f t h => haccepted ⟨f, t, h⟩) _ s).spares_quiet (by decide) (by decide) hrole

theorem spares_applyOwn (hrole : s.actsAs .lift = true) (e : CommandEntry) : s.Spares n (s.applyOwn e) := by
  have hobey (g : Byte) (c : Command) := spares_obey (n := n) hrole 0 g c
  unfold State.applyOwn
  split
  · exact hobey _ .general
  · exact hobey _ (.hold _)
  · exact hobey _ (.resume _)
  · exact hobey _ (.silence _)
  · exact hobey _ (.resound _)
  · exact hobey _ .allClear
  · exact (touches_ownTake _ _ s).spares_quiet (by decide) (by decide) hrole
  · exact (touches_ownGive _ s).spares_quiet (by decide) (by decide) hrole
  · exact spares_same hrole

theorem spares_commandCompleted (hrole : s.actsAs .lift = true) (e : CommandEntry) :
    s.Spares n (s.commandCompleted e) := by
  have hsent := touches_link { s.link with result := { s.link.result with outcome := .sent, reason := .none } } s
  unfold State.commandCompleted
  split
  · refine State.Spares.before (spares_applyOwn ?_ e) hsent (by decide) (hsent.crowds (by decide) 0)
    exact hrole
  · exact spares_same hrole

/-- The end of a STATUS takes latches back, and nothing else of a car (R52). -/
theorem spares_statusCompleted (hrole : s.actsAs .lift = true) (hn : n < 4) : s.Spares n s.statusCompleted := by
  have ht := touches_statusCompleted s
  obtain ⟨hacts, hlift⟩ := (State.actsAs_iff .lift s).1 hrole
  refine ⟨(State.actsAs_iff .lift _).2 ⟨(ht.acts_eq (by decide)).trans hacts, (ht.role_eq (by decide)).trans hlift⟩,
    ht.image_eq (by decide), fun _ => ?_, fun hbecame => ?_⟩
  · have hreported (k : Kept) (c : Car) : c.Still (c.reported k) := by
      unfold Car.reported
      split
      · exact ⟨_, _, rfl⟩
      · exact .refl c
    unfold State.statusCompleted
    split
    · exact .refl _
    · rename_i k _
      have hcar : (s.cars.mapIdx fun i c => c.reported (k.cars.at i Kept.none)).at n (Car.atReset false)
          = (s.car n).reported (k.cars.at n Kept.none) := Tab.at_mapIdx (h := hn) ..
      have hstill := hreported (k.cars.at n Kept.none) (s.car n)
      rw [← hcar] at hstill
      exact hstill
  · rw [becameActive_of_view ht (by decide)] at hbecame
    cases hbecame

theorem spares_complete (hrole : s.actsAs .lift = true) (hn : n < 4) (slot : SlotId) (f : Frame) :
    s.Spares n (s.complete slot f) := by
  have hlanded := touches_landed slot f s
  have hstill : (s.landed slot f).actsAs .lift = true := by
    rw [State.actsAs_iff] at hrole ⊢
    rwa [hlanded.acts_eq (by decide), hlanded.role_eq (by decide)]
  have hroom : s.Crowds 0 (s.landed slot f) := crowds_clearFault .frameDropped f.code { s.release with
    line := { s.release.line with sent := bump16 s.release.line.sent }, slots := s.release.slots.remove slot }
  rw [complete_eq]
  refine State.Spares.before ?_ hlanded (by decide) hroom
  unfold State.ownerCompleted
  split
  · exact spares_statusCompleted hstill hn
  · exact spares_commandCompleted hstill _
  · exact spares_same hstill

end

/-! ### Every command, and one car of a LIFT station -/

/-- A present car of a LIFT station whose last event has left no car bound for a compromised primary. -/
structure State.Bank (n : Nat) (s : State) : Prop where
  lift : s.actsAs .lift = true
  car : n < 4
  present : (s.car n).present = true
  recalled : s.recalled

/-- Car `n` has answered the regime, where the regime is active after all. -/
def State.Answers (n : Nat) (s t : State) : Prop := t.regime.active = true → s.carRecalled n t

section
variable {n : Nat} {s : State}

/-- What is no event leaves the car as the last one has left it. -/
theorem State.Bank.still {ps : List Part} {t : State} (hs : s.Bank n) (h : Touches ps s t)
    (hps : .image ∉ ps ∧ .cars ∉ ps ∧ .peers ∉ ps)
    (hview : .origins ∉ ps ∧ .general ∉ ps ∧ .generation ∉ ps) : s.Answers n t := by
  intro hactive
  obtain ⟨himage, hcars, hpeers⟩ := hps
  have hcar : t.car n = s.car n := by rw [State.car, h.cars_eq hcars, State.car]
  have hlost : t.primaryLost ↔ s.primaryLost := by
    rw [primaryLost_iff, primaryLost_iff, h.compromised_eq himage hview.1 hpeers]
  have hopens : ¬ s.opensTo t := by
    rw [opensTo_iff, becameActive_of_view h hview]
    nofun
  rw [h.active_eq hview.1 hview.2.1] at hactive
  obtain ⟨hstate, hbound⟩ := hs.recalled.2 hs.lift hactive n hs.car hs.present
  have hdiverted : ¬ ((s.car n).target = .primary ∧ t.primaryLost) := fun hd => hbound (hlost.1 hd.2) hd.1
  refine ⟨fun k => by rw [hcar], fun hnormal _ => absurd hnormal hstate, fun _ hd => absurd hd hdiverted, fun _ _ => ?_, ?_⟩
  · rw [hcar]
    exact ⟨rfl, rfl, rfl, rfl⟩
  · rw [hcar]
    simp [hopens]

theorem State.Bank.same (hs : s.Bank n) : s.Answers n s := hs.still (.refl [] s) (by decide) (by decide)

theorem State.Spares.answers {w : State} (h : s.Spares n w) (hs : s.Bank n) : s.Answers n (w.finish s) :=
  h.carRecalled hs.car hs.present

theorem State.Bank.event {due : Bool} {f : State → State} (hs : s.Bank n) (h : due = true → s.Spares n (f s)) :
    s.Answers n (s.event due f) := by
  unfold State.event
  split
  · exact (h ‹_›).answers hs
  · exact hs.same

/-- An event of a block that the lift unit has not. -/
theorem State.Bank.otherRole {due : Bool} {f : State → State} {r : Role} (hs : s.Bank n)
    (h : due = true → s.actsAs r = true) (hr : r ≠ .lift) : s.Answers n (s.event due f) :=
  hs.event fun hd => by
    have hrole := ((State.actsAs_iff r s).1 (h hd)).2
    rw [((State.actsAs_iff .lift s).1 hs.lift).2] at hrole
    exact absurd (Option.some.inj hrole).symm hr

/-- An event whose own work leaves the cars and the view. -/
theorem State.Bank.quiet {ps : List Part} {due : Bool} {f : State → State} (hs : s.Bank n) (h : Touches ps s (f s))
    (hps : .identity ∉ ps ∧ .image ∉ ps ∧ .cars ∉ ps ∧ .lifecycle ∉ ps)
    (hview : .origins ∉ ps ∧ .general ∉ ps ∧ .generation ∉ ps) : s.Answers n (s.event due f) :=
  hs.event fun _ => h.spares_quiet hps hview hs.lift

theorem State.Bank.request (hs : s.Bank n) (bytes : List Byte) {f : State → State} (response : State → List Byte)
    (h : ∀ t, Touches [.link, .fifo] t (f t)) : s.Answers n (s.request bytes f response) := by
  have hwork := (touches_link { s.link with taken := true, buffer := bytes } s).andThen (h _) (rs := [.link, .fifo])
    (by decide) (by decide)
  have hspares : s.Spares n (f { s with link := { s.link with taken := true, buffer := bytes } }) :=
    hwork.spares_quiet (by decide) (by decide) hs.lift
  unfold State.request
  split
  · exact hspares.answers hs
  · exact hs.same

theorem State.Bank.link (hs : s.Bank n) (l : Link) : s.Answers n { s with link := l } :=
  hs.still (touches_link l s) (by decide) (by decide)

theorem State.Bank.answer (hs : s.Bank n) (bytes : List Byte) (response : State → List Byte) :
    s.Answers n (s.answer bytes response) := by
  unfold State.answer
  split
  · exact hs.link _
  · exact hs.same

/-- A change of another car. -/
theorem State.Bank.changeCar (hs : s.Bank n) {c : Nat} (hc : c ≠ n) (f : Car → Car) : s.Spares n (s.changeCar c f) := by
  have ht := touches_changeCar c f s
  obtain ⟨hacts, hlift⟩ := (State.actsAs_iff .lift s).1 hs.lift
  refine ⟨(State.actsAs_iff .lift _).2 ⟨(ht.acts_eq (by decide)).trans hacts, (ht.role_eq (by decide)).trans hlift⟩,
    ht.image_eq (by decide), fun _ => ?_, fun hbecame => ?_⟩
  · rw [car_changeCar s c f hs.car, if_neg fun h => hc h.1.symm]
    exact .refl _
  · rw [becameActive_of_view ht (by decide)] at hbecame
    cases hbecame

theorem State.Bank.second (hs : s.Bank n) : s.Answers n s.onSecond := by
  have htime := touches_countSecond s
  have hwork := htime.andThen (touches_secondWork _) (rs := [.time, .origins, .phases, .peers, .duplicateAge, .line])
    (by decide) (by decide)
  have hquiet : becameActive s s.countSecond.secondWork = false := by
    refine becameActive_same ?_ (hwork.generation_eq (by decide))
    rw [secondWork_active, htime.active_eq (by decide) (by decide)]
  have hspares : s.Spares n s.countSecond.secondWork :=
    hwork.spares (by decide) hs.lift (hwork.acts_eq (by decide)) fun hbecame => by
      rw [hquiet] at hbecame
      cases hbecame
  unfold State.onSecond
  split
  · split
    · exact hspares.answers hs
    · exact hs.still htime (by decide) (by decide)
  · exact hs.same

theorem State.Bank.listenExpiry (hs : s.Bank n) : s.Answers n s.onListenExpiry :=
  hs.event fun _ => (touches_listenExpired s).spares (by decide) hs.lift State.LocalWork.listenEnds.acts fun hbecame => by
    rw [listenExpired_quiet] at hbecame
    cases hbecame

theorem State.Bank.plain {c : Instr} (hs : s.Bank n) (hc : plainEvent c = true)
    (hother : ∀ (m : Fin 4) (i : CarInput), m.val = n → c ≠ .carInputChange m i ∧ c ≠ .recallTimerExpiry m) :
    s.Answers n (s.after c) := by
  cases hasks : c.asks with
  | some i =>
    rw [after_asks hasks]
    exact hs.request _ _ (touches_issue i)
  | none =>
    cases c with
    | listenPeriodExpiry => exact hs.listenExpiry
    | second => exact hs.second
    | peerSilence a => exact hs.quiet (touches_silence a s) (by decide) (by decide)
    | duplicateAgeLimit => exact hs.quiet (touches_endDuplicate s) (by decide) (by decide)
    | lineWindowEnd => exact hs.quiet (touches_endWindow s) (by decide) (by decide)
    | jamEnd => exact hs.quiet (touches_release s) (by decide) (by decide)
    | heartbeatTimerExpiry => exact hs.quiet (touches_heartbeat s) (by decide) (by decide)
    | spacingTimerOpen => exact hs.quiet (touches_openSpacing s) (by decide) (by decide)
    | loopClassAccepted z => exact hs.otherRole and_left_iff (r := .floor) nofun
    | stageTimerExpiry z => exact hs.otherRole (fun h => and_left_iff (and_left_iff h)) (r := .floor) nofun
    | confirmWindowExpiry z => exact hs.otherRole (fun h => and_left_iff (and_left_iff h)) (r := .floor) nofun
    | stairInputChange i k => exact hs.otherRole (fun h => (stairGuard h).1) nofun
    | mismatchTimerExpiry i => exact hs.otherRole (fun h => (stairGuard h).1) nofun
    | heldOpenTimerExpiry i => exact hs.otherRole (fun h => (stairGuard h).1) nofun
    | carInputChange m i => exact hs.event fun _ => hs.changeCar (fun h => (hother m i h).1 rfl) _
    | recallTimerExpiry m => exact hs.event fun _ => hs.changeCar (fun h => (hother m .ffKey h).2 rfl) _
    | busyLevel => exact hs.otherRole and_left_iff (r := .floor) nofun
    | messageTimerExpiry => exact hs.otherRole (fun h => and_left_iff (and_left_iff h)) (r := .floor) nofun
    | messageStrobeEnd => exact hs.otherRole and_left_iff (r := .floor) nofun
    | pauseExpiry => exact hs.otherRole and_left_iff (r := .floor) nofun
    | keepTimerExpiry => exact hs.otherRole and_left_iff (r := .floor) nofun
    | cadenceCycleStart => exact hs.otherRole and_left_iff (r := .floor) nofun
    | cadencePulseBoundary k => exact hs.otherRole and_left_iff (r := .floor) nofun
    | strobePulseEnd => exact hs.otherRole and_left_iff (r := .floor) nofun
    | standingLapse k => exact hs.otherRole and_left_iff (r := .floor) nofun
    | indicatorFlash l => exact hs.still (touches_onFlash l s) (by cases l <;> decide) (by cases l <;> decide)
    | lineLitExpiry => exact hs.still (touches_onLineDark s) (by decide) (by decide)
    | keepPeriodExpiry => exact hs.quiet (touches_keepPeriod s) (by decide) (by decide)
    | linkKeepExpiry => exact hs.quiet (touches_endLinkKeep s) (by decide) (by decide)
    | linkKeep => exact hs.request [byte 8] (fun _ => [byte 8]) fun t => (touches_restartLinkKeep t).mono (by decide)
    | readEntry f => exact hs.answer [byte 1, f] fun t =>
        if f.toNat ≤ 47 then (t.floorEntry f.toNat).response f.toNat else refusedRead 15
    | readBank b => exact hs.answer [byte 2, b] fun t =>
        if b.toNat ≤ 1 then (t.bankEntry b.toNat).response b.toNat else refusedRead 12
    | readRegime => exact hs.answer _ _
    | readFaults => exact hs.answer _ _
    | readCounters => exact hs.answer _ _
    | readResult => exact hs.answer _ _
    | readConsole k => exact hs.answer [byte 9, k] fun t =>
        if k.toNat ≤ 3 then (t.consoleEntry k.toNat).response k.toNat else refusedRead 8
    | unknownRequest code =>
      show s.Answers n (if _ then _ else s)
      split
      · exact hs.answer _ _
      · exact hs.same
    | linkSelectActive clocked =>
      show s.Answers n (if _ then _ else s)
      split
      · exact hs.link _
      · exact hs.same
    | linkSelectInactive =>
      show s.Answers n (if _ then _ else s)
      split
      · exact hs.link _
      · exact hs.same
    | issueBadKind kind =>
      have hk : isBadKind kind = false := by simpa [Instr.asks] using hasks
      have hsame : s.after (.issueBadKind kind) = s := if_neg (by simp [hk])
      rw [hsame]
      exact hs.same
    | _ => simp [Instr.asks, plainEvent, Instr.samples, startsUp] at hasks hc

theorem State.Bank.hear (hs : s.Bank n) {line : Samples} (hone : (s.fed line).2.length ≤ 1) :
    s.Answers n (s.hear State.handOn line) := by
  by_cases hhears : s.acts = true ∧ s.tx = .idle
  · match hevents : (s.fed line).2 with
    | [] =>
      rw [State.hear, if_pos hhears, hevents]
      exact hs.still (touches_rx (s.fed line).1 s) (by decide) (by decide)
    | [e] =>
      rw [hear_one hhears.1 hhears.2 hevents]
      have hfed : State.Bank n { s with rx := (s.fed line).1 } := ⟨hs.lift, hs.car, hs.present, hs.recalled⟩
      exact (spares_rxAct hfed.lift e).answers hfed
    | _ :: _ :: _ => simp [hevents] at hone
  · rw [State.hear, if_neg hhears]
    exact hs.same

/-- Every command that is one event at most, and none of the car's own. -/
theorem State.Bank.answers {c : Instr} (hs : s.Bank n) (hreset : c ≠ .reset) (hone : c.oneEvent) (hhears : s.hearsOne c)
    (hother : ∀ (m : Fin 4) (i : CarInput), m.val = n → c ≠ .carInputChange m i ∧ c ≠ .recallTimerExpiry m) :
    s.Answers n (s.after c) := by
  obtain ⟨htick, hstart, hdefer⟩ := hone
  obtain ⟨line, hline⟩ | hplain | hstartup | ⟨pins, rfl⟩ | ⟨k, b, rfl⟩ | ⟨bit, rfl⟩ | ⟨bit, rfl⟩ | rfl := instr_cases c
  · rw [after_samples hline]
    exact hs.hear (hhears line hline)
  · exact hs.plain hplain hother
  · rw [after_startsUp_of_acts (State.acts_of_actsAs hs.lift) hstartup hreset]
    exact hs.same
  · exact absurd rfl (htick pins)
  · exact absurd rfl (hstart k b)
  · exact absurd rfl (hdefer bit)
  · show s.Answers n (match s.tx with
      | .sending slot f =>
        s.event (s.acts && decide (2 ≤ bit) && decide (bit < f.lineBits.length)) (State.collide slot f)
      | _ => s)
    split
    · exact hs.quiet (touches_collide _ _ s) (by decide) (by decide)
    · exact hs.same
  · show s.Answers n (match s.tx with
      | .sending slot f => s.event s.acts (State.complete slot f)
      | _ => s)
    split
    · exact hs.event fun _ => spares_complete hs.lift hs.car _ _
    · exact hs.same

end

/-! ### Own zones that a received record lets into ALARM (R65) -/

theorem Zone.taken_state {z : Zone} (h : z.state = .verifyConfirm) (active : Bool) : (z.taken active .alarm).state = .alarm := by
  change z.nextState active .alarm = .alarm
  rw [Zone.nextState, h]

/-- What the regime has done with a zone it does not do again. -/
theorem Zone.activated_activated (z : Zone) : z.activated.activated = z.activated := by
  by_cases h : z.supervised = true ∧ z.state = .verifyConfirm
  · by_cases hrun : z.candidate = some .alarm ∧ 1 ≤ z.run
    · have hz : z.activated = Zone.taken true .alarm { z with stage := none } := by
        rw [Zone.activated, if_pos h, if_pos hrun]
      rw [hz]
      refine Zone.activated_of_not_confirm ?_
      rw [Zone.taken_state (z := { z with stage := none }) h.2]
      nofun
    · have hz : z.activated = { z with stage := none } := by rw [Zone.activated, if_pos h, if_neg hrun]
      rw [hz, Zone.activated]
      refine (if_pos ?_).trans (if_neg ?_)
      · exact h
      · exact hrun
  · have hz : z.activated = z := if_neg h
    rw [hz, hz]

/-- A zone that is used in VERIFY-CONFIRM opens as R65 has it. -/
theorem Zone.opens_activated {z : Zone} (hused : z.state = .verifyConfirm → z.supervised = true) : z.opens z.activated := by
  refine ⟨fun hstate hcandidate hrun => ?_, fun hstate hnone => ?_, fun hstate => Zone.activated_of_not_confirm hstate⟩
  · have hz : z.activated = Zone.taken true .alarm { z with stage := none } := by
      rw [Zone.activated, if_pos ⟨hused hstate, hstate⟩, if_pos ⟨hcandidate, hrun⟩]
    have halarm := Zone.taken_state (z := { z with stage := none }) hstate true
    have hchanged : Zone.state { z with stage := none } ≠ (Zone.taken true .alarm { z with stage := none }).state := by
      rw [halarm]
      change z.state ≠ .alarm
      rw [hstate]
      nofun
    obtain ⟨hlatch, -⟩ := Zone.taken_counted true .alarm { z with stage := none }
    rw [hz]
    refine ⟨halarm, ?_, rfl, ?_, ?_⟩
    · change (if _ then _ else if _ then _ else none) = none
      rw [show Zone.nextState true .alarm { z with stage := none } = .alarm from halarm]
      rfl
    · rw [Zone.taken_marked, decide_eq_true ⟨halarm, fun h => hchanged (h.trans halarm.symm)⟩, Bool.or_true]
    · rw [hlatch, if_neg hchanged.symm, decide_eq_true (by omega), Bool.or_true]
  · rw [Zone.activated, if_pos ⟨hused hstate, hstate⟩, if_neg]
    rintro ⟨hcandidate, hrun⟩
    rcases hnone with h | h
    · exact h hcandidate
    · omega

/-- Between two states zones have done at most what the regime makes them do, and an alarm has latched the own entry. -/
structure State.Admits (s w : State) : Prop where
  address : w.station.address = s.station.address
  zone : ∀ z < 8, w.zone z = s.zone z ∨ w.zone z = (s.zone z).activated
  kept : (s.floorEntry s.station.address).alarmLatch = true → (w.floorEntry s.station.address).alarmLatch = true
  latch : ∀ z < 8, (s.zone z).state ≠ .alarm → (w.zone z).state = .alarm →
    (w.floorEntry s.station.address).alarmLatch = true

theorem State.Admits.refl (s : State) : s.Admits s := ⟨rfl, fun _ _ => .inl rfl, id, fun _ _ h k => absurd k h⟩

theorem State.Admits.trans {s t u : State} (h : s.Admits t) (k : t.Admits u) : s.Admits u where
  address := k.address.trans h.address
  zone z hz := by
    rcases h.zone z hz with ht | ht <;> rcases k.zone z hz with hu | hu <;> rw [ht] at hu
    · exact .inl hu
    · exact .inr hu
    · exact .inr hu
    · exact .inr (hu.trans (Zone.activated_activated _))
  kept hs := by
    have hu := k.kept
    rw [h.address] at hu
    exact hu (h.kept hs)
  latch z hz hs hu := by
    have hkept := k.kept
    have hlatch := k.latch z hz
    rw [h.address] at hkept hlatch
    by_cases ht : (t.zone z).state = .alarm
    · exact hkept (h.latch z hz hs ht)
    · exact hlatch ht hu

/-- Work that leaves the zones and clears no latch. -/
theorem State.Holds.admits {s w : State} (h : s.Holds w) (hown : s.station.address < 48) (hzones : w.zones = s.zones) :
    s.Admits w := by
  have hzone (z : Nat) : w.zone z = s.zone z := by rw [State.zone, hzones, State.zone]
  refine ⟨h.address, fun z _ => .inl (hzone z), (h.latch _ hown).1, fun z _ hs hw => ?_⟩
  rw [hzone] at hw
  exact absurd hw hs

theorem Touches.admits {ps : List Part} {s w : State} (h : Touches ps s w)
    (hps : .identity ∉ ps ∧ .zones ∉ ps ∧ .peers ∉ ps) : s.Admits w := by
  have hentry (f : Nat) : w.floorEntry f = s.floorEntry f := by
    rw [State.floorEntry, h.floors_eq hps.2.2, State.floorEntry]
  have hzone (z : Nat) : w.zone z = s.zone z := by rw [State.zone, h.zones_eq hps.2.1, State.zone]
  refine ⟨h.address_eq hps.1, fun z _ => .inl (hzone z), fun hs => ?_, fun z _ hs hw => ?_⟩
  · rwa [hentry]
  · rw [hzone] at hw
    exact absurd hw hs

theorem alarmLatch_alarmEntered (z : Nat) {s : State} (hown : s.station.address < 48) :
    ((s.alarmEntered z).floorEntry s.station.address).alarmLatch = true := by
  have hlatched : ((s.alarmLatched z).floorEntry s.station.address).alarmLatch = true := by
    rw [State.alarmLatched, floorEntry_updFloor_self _ _ _ hown]
  have horigin : ((s.alarmOrigin z).floorEntry s.station.address).alarmLatch = true := by
    rwa [State.floorEntry, (touches_alarmOrigin z s).floors_eq (by decide), ← State.floorEntry]
  rw [alarmEntered_eq]
  split
  · rwa [State.floorEntry, (touches_runEntry _).floors_eq (by decide), ← State.floorEntry]
  · exact horigin

theorem alarmLatch_acceptAlarm {s : State} {z : Nat} (hown : s.station.address < 48)
    (hconfirm : (s.zone z).state = .verifyConfirm) :
    ((s.acceptClass z .alarm).floorEntry s.station.address).alarmLatch = true := by
  have haddress : (s.classRecorded z .alarm).station.address = s.station.address :=
    (touches_classRecorded z .alarm s).address_eq (by decide)
  have hentered : s.acceptClass z .alarm = (s.classRecorded z .alarm).alarmEntered z := by
    rw [acceptClass_eq, if_pos]
    rw [Zone.nextState, hconfirm]
    exact ⟨nofun, rfl⟩
  rw [hentered, ← haddress]
  exact alarmLatch_alarmEntered z (haddress ▸ hown)

/-- A zone that the regime takes into ALARM latches the own entry (R67). -/
theorem alarmLatch_activateZone {s : State} {z : Nat} (hz : z < 8) (hown : s.station.address < 48)
    (hbefore : (s.zone z).state ≠ .alarm) (hafter : ((s.activateZone z).zone z).state = .alarm) :
    ((s.activateZone z).floorEntry s.station.address).alarmLatch = true := by
  rw [zone_activateZone_self hz] at hafter
  unfold Zone.activated at hafter
  unfold State.activateZone
  dsimp only
  split at hafter
  · rename_i hconfirm
    rw [if_pos hconfirm]
    split at hafter
    · rename_i hrun
      rw [if_pos hrun]
      refine alarmLatch_acceptAlarm (s := s.updZone z fun x => { x with stage := none }) hown ?_
      rw [zone_updZone s z _ hz, if_pos rfl]
      exact hconfirm.2
    · exact absurd hafter hbefore
  · exact absurd hafter hbefore

theorem admits_activateZone {s : State} {z : Nat} (hz : z < 8) (hown : s.station.address < 48) :
    s.Admits (s.activateZone z) where
  address := (touches_activateZone s z).address_eq (by decide)
  zone y _ := by
    by_cases hy : y = z
    · subst hy
      exact .inr (zone_activateZone_self hz s)
    · exact .inl (zone_activateZone_ne hy s)
  kept := ((holds_activateZone s z).latch _ hown).1
  latch y _ hs hw := by
    by_cases hy : y = z
    · subst hy
      exact alarmLatch_activateZone hz hown hs hw
    · rw [zone_activateZone_ne hy] at hw
      exact absurd hw hs

theorem admits_foldl_activateZone {l : List Nat} (hl : ∀ z ∈ l, z < 8) {s : State} (hown : s.station.address < 48) :
    s.Admits (l.foldl State.activateZone s) := by
  induction l generalizing s with
  | nil => exact .refl s
  | cons z zs ih =>
    have hfirst := admits_activateZone (hl z List.mem_cons_self) hown
    exact hfirst.trans (ih (fun x hx => hl x (List.mem_cons_of_mem z hx)) (hfirst.address ▸ hown))

theorem admits_zonesActivated {s : State} (hown : s.station.address < 48) : s.Admits s.zonesActivated := by
  unfold State.zonesActivated
  split
  · exact admits_foldl_activateZone (fun z => List.mem_range.1) hown
  · exact .refl s

/-! ### What a received record lets in, where no newer generation comes with it -/

theorem State.Admits.ite {p : Prop} [Decidable p] {s t u : State} (ht : s.Admits t) (hu : s.Admits u) :
    s.Admits (if p then t else u) := by
  split
  · exact ht
  · exact hu

/-- A regime command lets nothing of the field in by itself, and other commands bring no regime. -/
theorem admits_obey {s : State} (hinactive : s.regime.active = false) (console : Nat) (g : Byte) (c : Command)
    (hactive : (s.obey console g c).regime.active = true) :
    s.Passed (s.obey console g c) ∨ s.Admits (s.obey console g c) := by
  have hregime {f : State → State} (h : ∀ t, Touches [.general, .phases, .holdEpoch, .silenceEpoch] t (f t)) :
      s.Passed (s.regimeCommand g f) ∨ s.Admits (s.regimeCommand g f) := by
    unfold State.regimeCommand
    split
    · exact .inr (.refl s)
    · unfold State.window
      split
      · exact .inr ((((touches_firstAdoption g s).andThen (h _) (rs := [.generation, .general, .phases, .holdEpoch,
          .silenceEpoch]) (by decide) (by decide))).admits (by decide))
      · split
        · exact .inl (passed_of_newer ‹_› (‹1 ≤ _ ∧ _› : _ ∧ _).1
            (((h _).generation_eq (by decide)).trans (adoptNewer_generation g s)))
        · exact .inr ((h s).admits (by decide))
  have hidle {ps : List Part} (ht : Touches ps (s.window g) (s.obey console g c))
      (hps : .origins ∉ ps ∧ .general ∉ ps ∧ .generation ∉ ps) :
      s.Passed (s.obey console g c) ∨ s.Admits (s.obey console g c) := by
    have hquiet := becameActive_window ht hps (rfl : s.regime = s.regime)
    simp [becameActive, hactive, hinactive] at hquiet
  cases c with
  | general => exact hregime fun t => (touches_setGeneral t).mono (by decide)
  | hold e => exact hregime fun t => (touches_adoptHold e t).mono (by decide)
  | resume e => exact hregime fun t => (touches_adoptHold e t).mono (by decide)
  | silence e => exact hregime fun t => (touches_adoptSilence e t).mono (by decide)
  | resound e => exact hregime fun t => (touches_adoptSilence e t).mono (by decide)
  | allClear => exact hidle (.refl [] _) (by decide)
  | zoneDisable z => exact hidle (.ite (touches_disableZone _ _) (.refl _ _)) (by decide)
  | zoneEnable z => exact hidle (.ite (touches_enableZone _ _) (.refl _ _)) (by decide)
  | take mask number => exact hidle (.ite (touches_takeAuthority _ _ _) (.refl _ _)) (by decide)
  | keep number => exact hidle (.ite (touches_keepAuthority _ _ _) (.refl _ _)) (by decide)
  | give mask => exact hidle (.ite (touches_giveAuthority _ _) (.refl _ _)) (by decide)
  | testAnnounce mask message => exact hidle (.ite (touches_takeTest _ _) (.refl _ _)) (by decide)
  | liftRestore bank => exact hidle (.ite (touches_restoreBank _) (.refl _ _)) (by decide)

section
variable {s : State} (hown : s.station.address < 48)
include hown

theorem admits_admitted (a : Nat) (phase : Phase) (zones : Tab ZoneReport 8) (r : StatusRecord) :
    s.Admits (s.admitted a phase zones r) := by
  have ht := touches_admitted a phase zones r s
  have hzone (z : Nat) : (s.admitted a phase zones r).zone z = s.zone z := by
    rw [State.zone, ht.zones_eq (by decide), State.zone]
  have hstanding := (holds_updBase a (fun b => { b with standing := .current }) s).latch _ hown
  obtain ⟨-, -, hmerged, -⟩ := latchesHeld_mergeFloor a zones (s.setStanding a .current)
  have hintake := ((touches_intake r ((s.setStanding a .current).mergeFloor a zones)).holds (by decide)).latch _ hown
  have hphase := (holds_updFloor a (((s.setStanding a .current).mergeFloor a zones).intake r)
    (g := fun e => { e with phase := phase }) (fun _ _ => rfl) fun _ => ⟨id, id⟩).latch _ hown
  refine ⟨ht.address_eq (by decide), fun z _ => .inl (hzone z), fun h => ?_, fun z _ hs hw => ?_⟩
  · exact hphase.1 (hintake.1 ((hmerged _ hown).1 (hstanding.1 h)))
  · rw [hzone] at hw
    exact absurd hw hs

theorem admits_ownAlarms (was : Bool) : s.Admits (s.ownAlarms was) := .ite (admits_zonesActivated hown) (.refl s)

theorem admits_mergeContent (a : Nat) (r : StatusRecord) : s.Admits (s.mergeContent a r) := by
  obtain ⟨phase, zones, hcontent⟩ | hcontent := mergeContent_cases a r s
  · have hadmitted := admits_admitted hown a phase zones r
    have hthere := hadmitted.address ▸ hown
    have halarms := hadmitted.trans (admits_ownAlarms hthere s.regime.active)
    have hlater := halarms.address ▸ hown
    rw [hcontent]
    exact .ite halarms (halarms.trans ((holds_checkPhase a _).admits hlater
      ((touches_checkPhase a _).zones_eq (by decide))))
  · rw [hcontent]
    have hstanding := (holds_updBase a (fun b => { b with standing := .current }) s).admits hown rfl
    exact hstanding.trans ((touches_intake r _).admits (by decide))

theorem admits_mergeWindow (a : Nat) (g : Byte) (r : StatusRecord) :
    s.Passed (s.mergeWindow a g r) ∨ s.Admits (s.mergeWindow a g r) := by
  unfold State.mergeWindow
  split
  · exact .inr (admits_mergeContent hown a r)
  · split
    · have hfirst := touches_firstAdoption g s
      exact .inr ((hfirst.admits (by decide)).trans (admits_mergeContent (s := s.firstAdoption g) hown a r))
    · rename_i own hset
      split
      · exact .inr (admits_mergeContent hown a r)
      · split
        · rename_i hne _
          exact .inl (passed_of_newer hset (Nat.one_le_iff_ne_zero.2 hne)
            ((mergeContent_generation a r _).trans (adoptNewer_generation g s)))
        · exact .inr ((holds_updBase a (fun b => { b with standing := .stale }) s).admits hown rfl)

theorem admits_merge (a : Nat) (g : Byte) (r : StatusRecord) : s.Passed (s.merge a g r) ∨ s.Admits (s.merge a g r) := by
  have hbody : Touches [.peers] (s.refreshed a r) { s.refreshed a r with
      peers := (s.refreshed a r).peers.takeBody a r.body } := touches_peers _ (duplicateAge_takeBody a r.body _)
  have hrecord := (touches_refreshed a r s).andThen hbody (rs := [.peers, .faults]) (by decide) (by decide)
  have hholds := ((((holds_settleSilence a s).trans (holds_refresh a r _)).trans
    (holds_checkParameters a r.digest _)).trans (holds_takeBody a r.body _))
  have hbefore := hholds.admits hown (hrecord.zones_eq (by decide))
  rw [merge_eq]
  refine (admits_mergeWindow (s := { s.refreshed a r with peers := (s.refreshed a r).peers.takeBody a r.body })
    (hbefore.address ▸ hown) a g r).imp (fun h => ?_) hbefore.trans
  obtain ⟨hset, hmoved⟩ := h
  have hgeneration := hrecord.generation_eq (by decide)
  exact ⟨hgeneration ▸ hset, hgeneration ▸ hmoved⟩

theorem admits_handOn (hinactive : s.regime.active = false) (f : Frame) (w : Word16)
    (hactive : (s.handOn f w).regime.active = true) : s.Passed (s.handOn f w) ∨ s.Admits (s.handOn f w) := by
  have haside : s.Admits s.setAside := (touches_setAside s).admits (by decide)
  have hstatus : s.Passed (s.takeStatusFrame f) ∨ s.Admits (s.takeStatusFrame f) := by
    unfold State.takeStatusFrame
    split
    · exact admits_merge hown _ _ _
    · exact .inr haside
  unfold State.handOn at hactive ⊢
  split
  · exact hstatus
  · exact hstatus
  · exact hstatus
  · rename_i hcode
    simp only [hcode] at hactive
    unfold State.takeCommandFrame at hactive ⊢
    split
    · rename_i k htake
      simp only [htake] at hactive
      exact admits_obey hinactive _ _ k hactive
    · exact .inr haside
  · unfold State.takeMarkFrame
    split
    · exact .inr ((touches_followMark _ _ w s).admits (by decide))
    · exact .inr haside
  · exact .inr (.refl s)

theorem admits_rxAct (hinactive : s.regime.active = false) (e : RxEvent)
    (hactive : (s.rxAct State.handOn e).regime.active = true) :
    s.Passed (s.rxAct State.handOn e) ∨ s.Admits (s.rxAct State.handOn e) := by
  by_cases haccepted : ∃ f t, e = .accepted f t
  · obtain ⟨f, t, rfl⟩ := haccepted
    have hcount := touches_countAccepted s
    have hcounted := hcount.admits (by decide)
    have hgeneration := hcount.generation_eq (by decide)
    suffices hwork : s.countAccepted.Passed (s.rxAct State.handOn (.accepted f t))
        ∨ s.countAccepted.Admits (s.rxAct State.handOn (.accepted f t)) from
      hwork.imp (fun h => ⟨hgeneration ▸ h.1, hgeneration ▸ h.2⟩) hcounted.trans
    change (State.accept State.handOn f t s).regime.active = true at hactive
    change s.countAccepted.Passed (State.accept State.handOn f t s) ∨ s.countAccepted.Admits (State.accept State.handOn f t s)
    unfold State.accept at hactive ⊢
    dsimp only at hactive ⊢
    by_cases hsource : f.source = s.countAccepted.station.address
    · rw [if_pos hsource]
      exact .inr ((touches_duplicateHeard _).admits (by decide))
    · rw [if_neg hsource] at hactive ⊢
      by_cases hforeign : f.foreign = true
      · rw [if_pos hforeign]
        exact .inr ((touches_raiseAtOnce _ _ _).admits (by decide))
      · rw [if_neg hforeign] at hactive ⊢
        exact admits_handOn (hcounted.address ▸ hown) ((hcount.active_eq (by decide) (by decide)).trans hinactive) f t
          hactive
  · exact .inr ((touches_discard (fun f t h => haccepted ⟨f, t, h⟩) _ s).admits (by decide))

end

theorem alarmLatch_finish {s : State} (hacts : s.acts = true) (old : State) (f : Nat) :
    ((s.finish old).floorEntry f).alarmLatch = ((s.activated old).floorEntry f).alarmLatch := by
  have hspoken := (touches_fielded old s).andThen (touches_speakerReact old (becameActive old s) _)
    (rs := [.stairs, .cars, .faults, .speaker]) (by decide) (by decide)
  have hreacted := hspoken.andThen (touches_reacted old s)
    (rs := [.stairs, .cars, .faults, .speaker, .cadence, .alarmLamp]) (by decide) (by decide)
  rw [finish_eq_reacted hacts, State.floorEntry, (touches_builderReact old _).floors_eq (by decide), ← State.floorEntry,
    (loopback_latches _ f).1, State.floorEntry, hreacted.floors_eq (by decide), State.floorEntry]

/-- An unused zone is not in VERIFY-CONFIRM, and a FLOOR station stands at one of the 48 floors. -/
theorem floor_of_lawful {s : State} (hs : s.lawful) (hrole : s.actsAs .floor = true) : s.station.address < 48
    ∧ ∀ z < 8, (s.zone z).state = .verifyConfirm → (s.zone z).supervised = true := by
  obtain ⟨-, ⟨hstation, -⟩, -, -, -, -, -, ⟨-, hfield⟩, -⟩ := hs
  obtain ⟨hacts, hfloor⟩ := (State.actsAs_iff .floor s).1 hrole
  refine ⟨roleOf_floor.1 ((hstation hacts).1.symm.trans hfloor), fun z hz hconfirm => bne_iff_ne.2 fun hunused => ?_⟩
  obtain ⟨hzones, -⟩ := hfield hacts
  obtain ⟨⟨hkind, -, -, hreset, -⟩, -⟩ := hzones z hz
  rw [hreset (hkind.symm.trans hunused)] at hconfirm
  cases hconfirm

/-- A record that makes the regime active at a FLOOR station, with no all-clear in it (R65, R67). -/
theorem opens_received {s : State} (hrole : s.actsAs .floor = true) (hown : s.station.address < 48)
    (hused : ∀ z < 8, (s.zone z).state = .verifyConfirm → (s.zone z).supervised = true) (hinactive : s.regime.active = false)
    (e : RxEvent) (hactive : ((s.rxAct State.handOn e).finish s).regime.active = true)
    (hpassed : ¬ s.Passed ((s.rxAct State.handOn e).finish s)) :
    (∀ z < 8, (s.zone z).opens (((s.rxAct State.handOn e).finish s).zone z))
    ∧ ((∃ z < 8, (s.zone z).state ≠ .alarm ∧ (((s.rxAct State.handOn e).finish s).zone z).state = .alarm) →
        (((s.rxAct State.handOn e).finish s).floorEntry s.station.address).alarmLatch = true) := by
  have hcarries := evolves_rxAct e s
  obtain ⟨hacts, hfloor⟩ := (State.actsAs_iff .floor s).1 hrole
  have hthere : (s.rxAct State.handOn e).actsAs .floor = true :=
    (State.actsAs_iff .floor _).2 ⟨hcarries.acts.trans hacts, hcarries.role.trans hfloor⟩
  have hopened : (s.rxAct State.handOn e).regime.active = true := by
    by_contra hnot
    rw [Bool.not_eq_true] at hnot
    have hquiet : becameActive s (s.rxAct State.handOn e) = false := by rw [becameActive, hnot, Bool.false_and]
    rw [(touches_finish_quiet _ s hquiet).active_eq (by decide) (by decide), hnot] at hactive
    cases hactive
  have hbecame : becameActive s (s.rxAct State.handOn e) = true := by simp [becameActive, hopened, hinactive]
  have hwork : s.Admits (s.rxAct State.handOn e) := (admits_rxAct hown hinactive e hopened).resolve_left fun h =>
    hpassed ⟨h.1, (finish_generation _ s).symm ▸ h.2⟩
  have hadmits : s.Admits ((s.rxAct State.handOn e).activated s) := by
    refine hwork.trans ?_
    rw [State.activated, if_pos hbecame]
    exact admits_zonesActivated (hwork.address ▸ hown)
  have hzone (z : Nat) (hz : z < 8) : ((s.rxAct State.handOn e).finish s).zone z = (s.zone z).activated := by
    rw [zone_finish hthere, if_pos ⟨hbecame, hz⟩]
    rcases hwork.zone z hz with h | h <;> rw [h]
    exact Zone.activated_activated _
  refine ⟨fun z hz => ?_, fun ⟨z, hz, hbefore, hafter⟩ => ?_⟩
  · rw [hzone z hz]
    exact Zone.opens_activated (hused z hz)
  · rw [alarmLatch_finish (State.acts_of_actsAs hthere)]
    refine hadmits.latch z hz hbefore ?_
    rwa [State.zone, (touches_finish_activated (State.acts_of_actsAs hthere) s).zones_eq (by decide), ← State.zone]
      at hafter

theorem opens_floor {c : Instr} {line : Samples} {s : State} (hline : c.samples = some line) (hone : s.hearsOne c)
    (hrole : s.actsAs .floor = true) (hs : s.lawful) (hinactive : s.regime.active = false)
    (hactive : (s.after c).regime.active = true)
    (hgeneration : s.regime.generation = none ∨ (s.after c).regime.generation = s.regime.generation) :
    (∀ z < 8, (s.zone z).opens ((s.after c).zone z))
    ∧ ((∃ z < 8, (s.zone z).state ≠ .alarm ∧ ((s.after c).zone z).state = .alarm) →
        ((s.after c).floorEntry s.station.address).alarmLatch = true) := by
  have hpassed : ¬ s.Passed (s.after c) := fun h => hgeneration.elim h.1 h.2
  rw [after_samples hline] at hactive hpassed ⊢
  by_cases hhears : s.acts = true ∧ s.tx = .idle
  · match hevents : (s.fed line).2 with
    | [] =>
      rw [State.hear, if_pos hhears, hevents] at hactive
      exact absurd (hactive.symm.trans hinactive) (by simp)
    | [e] =>
      rw [hear_one hhears.1 hhears.2 hevents] at hactive hpassed ⊢
      obtain ⟨hown, hused⟩ := floor_of_lawful hs hrole
      exact opens_received (s := { s with rx := (s.fed line).1 }) hrole hown hused hinactive e hactive hpassed
    | _ :: _ :: _ =>
      have hlength := hone line hline
      simp [hevents] at hlength
  · rw [State.hear, if_neg hhears] at hactive
    exact absurd (hactive.symm.trans hinactive) (by simp)

/-- Settles O58: a received record lets the own zones in at most once, and the reactions answer for each car by itself. -/
theorem anOpeningRegimeReachesTheField : Obligations.AnOpeningRegimeReachesTheField := by
  refine ⟨fun c line s t hline hone hrole hs hexec hinactive hactive hgeneration => ?_,
    fun c n s t hexec hreset hevent hone hrecalled hrole hn hpresent hactive hother => ?_⟩
  · obtain rfl : s.after c = t := by rw [exec_eq_after] at hexec; exact Host.Outcome.next.inj hexec
    exact opens_floor hline hone hrole hs hinactive hactive hgeneration
  · obtain rfl : s.after c = t := by rw [exec_eq_after] at hexec; exact Host.Outcome.next.inj hexec
    exact State.Bank.answers ⟨hrole, hn, hpresent, hrecalled⟩ hreset hevent hone hother hactive

end Sys2Proof.Machine
end
